-- ==== Sys2Proof/Word.lean ====
section
/-! DEFINITION. The word types of the register space and of the byte memories (R9, R10 of 00_scope.md). -/

namespace Sys2Proof

/-- A register word: registers are 32 bits wide (R9). -/
abbrev Word := BitVec 32

/-- A byte of a memory or of a packet. -/
abbrev Byte := BitVec 8

end Sys2Proof
end

