-- ==== Sys2Proof/Syntax.lean ====
section
/-! DEFINITION. The commands of the block: one constructor for each row of spec/opcode_table.json, with the operands the
outside world gives it. The table gives no operand fields and no bits; what each operand is stands beside its constructor
(notes/assumptions/2.md). -/

namespace Sys2Proof

/-- Where an access comes from: the I3C attachment or the Waggle session of a host port (R555, R406). -/
inductive Att where
  | i3c
  | port (p : Nat)
  deriving DecidableEq, Repr

/-- An Ethernet frame as a host port receives it (R383, R385): whether its FCS is good, its addresses, the VID of its 802.1Q
tag if it has one, its EtherType, and the bytes after it, padding included. -/
structure EthFrame where
  fcsOk : Bool
  dst : Nat
  src : Nat
  vid : Option Nat
  etherType : Nat
  bytes : List Nat
  deriving DecidableEq, Repr


/-- The commands of the block, one constructor per row of spec/opcode_table.json. -/
inductive Instr where
  /-- REGISTER_WRITE (R588): A write access to a register that has no row of its own is judged field by field and
      applied whole or refused whole. The attachment `a` writes `v` at byte address `addr`. -/
  | registerWrite (a : Att) (addr v : Nat)
  /-- POWER_ON (R575): The power-on detector releases after the rails are up, and START begins if RESET_N is high.
      `high`: RESET_N is high; `psel` and `claim` as for RESET_RELEASE. -/
  | powerOn (high : Bool) (psel : Nat) (claim : Bool)
  /-- RESET_RECOGNISED (R517): A RESET_N low that has lasted 1 µs is recognised and ends everything in progress. -/
  | resetRecognised
  /-- RESET_RELEASE (R517): RESET_N rises after a recognised reset, no earlier than 10 µs after the low began, and
      START begins. `psel`: PROFILE_SEL as sampled at the release; `claim`: the claim link is fitted. -/
  | resetRelease (psel : Nat) (claim : Bool)
  /-- BROWN_OUT (R576): A safelight rail below 85 % for more than 5 µs acts as RESET_N low. -/
  | brownOut
  /-- START_UP (R519): The start-up sequence advances through its twelve steps to IDLE, holding at its waits. The
      report of the step under way: `reason`, `detail`, `addr` of a failure the outside world reports (0: none),
      `sig` and `maker` the verdicts on signatures read, `size`, `mode`, `clock` what was found. -/
  | startUp (reason detail addr : Nat) (sig maker : Bool) (size mode clock : Nat)
  /-- INTERNAL_FAULT (R532): An uncorrectable internal fault is recognised and the device enters HALTED with its
      safe states. `reason`, `detail`, `addr`: what the fault registers are to hold; the high half of `detail` is
      the event code of a partner condition of the same slice clock, or 0. -/
  | internalFault (reason detail addr : Nat)
  /-- THERMAL_TRIP (R435): A temperature sensor's analogue trip comparator reaches 140 °C and halts the device. `m`
      is the sensor, `reading` its reading in 1/128 °C. -/
  | thermalTrip (m : Nat) (reading : Int)
  /-- VDDIO_SAMPLE (R435): Every 1 ms the safelight comparator pair samples VDDIO and halts after three consecutive
      samples beyond the limits. `side`: 0 within the limits, 1 below, 2 above. -/
  | vddioSample (side : Nat)
  /-- SCLK_MEASUREMENT_WINDOW (R56): A 16,384-tick SCLK measurement window ends and updates the measured frequency
      and loss or return checks. `khz` is the frequency measured over the window. -/
  | sclkMeasurementWindow (khz : Nat)
  /-- ADC_SCLK_LOST (R56): SCLK is declared lost, capture stops on every channel and open frames truncate. -/
  | adcSclkLost
  /-- CORRECTED_SAMPLE (R17): A corrected sample reaches the fan-out and feeds detector, chain, accumulation,
      packer, capture writer, statistics and Comb tap. `n` is the lead channel, `pos` the sample's position on the
      count of sampling positions since the marker divider started (N positions a slice clock), `raw` the seven raw
      codes of samples k - 3 to k + 3 (R59). -/
  | correctedSample (n pos : Nat) (raw : List Nat)
  /-- PRIMING_COMPLETE (R27): Invalid samples and the pre-trigger depth have passed and the channel goes to ARMED. -/
  | primingComplete (n : Nat)
  /-- ADC_COMMIT (R68): Writing 1 to ADC.CTL.COMMIT commits the channel's shadowed converter fields. `v` is the word
      written to `ADC.CTL` of channel `n`. -/
  | adcCommit (a : Att) (n v : Nat)
  /-- RANGE_CHANGE (R68): A committed range change takes effect at its frame boundary, bringing invalid samples and
      PRIMING. -/
  | rangeChange (n : Nat)
  /-- MODE_WRITE (R97): A write of ADC.MODE.MODE is accepted and the mode change waits for IDLE with no pass
      running. `v` is the word written to `ADC.MODE`. -/
  | modeWrite (a : Att) (v : Nat)
  /-- MODE_CHANGE (R52): The acquisition mode changes and each channel restores the calibration state of the new
      mode. -/
  | modeChange
  /-- MODE_CAL_COMPLETE (R112): The calibration run after a mode change completes and held starts act. -/
  | modeCalComplete
  /-- CAL_PASS_REQ (R92): A bit of CAL.CTL.PASS_REQ makes a pass due on a channel. `v` is the word written to
      `CAL.CTL`. -/
  | calPassReq (a : Att) (v : Nat)
  /-- PASS_OVERDUE (R92): The time since the last completed pass exceeds the overdue limit and a pass falls due. -/
  | passOverdue (n : Nat)
  /-- CAL_PASS_START (R92): A due pass starts once its spacing, SCLK and state conditions hold, beginning with a
      reference check. -/
  | calPassStart (n : Nat)
  /-- REFERENCE_CHECK_RETRY (R89): Every 10 s a deferred pass repeats its reference check and resumes if it passes.
      `n` = 8 names the start-up or mode calibration. -/
  | referenceCheckRetry (n : Nat)
  /-- STATIC_CAL_COMPLETE (R95): The static calibration of one slice finishes its measurements and computation and
      is judged. Channel `n`, slice `k`; `mG`, `mB`, `mC` are the eight level means in 1/256 LSB, `noise` the
      largest standard error of a mean in 1/256 LSB. -/
  | staticCalComplete (n k : Nat) (mG mB mC : List Int) (noise : Nat)
  /-- HANDOVER (R46): At boundary S the incoming slice takes its logical position and the epoch increments. The
      estimator's comparison on channel `n`: for each of 64 samples of the shadowed position the seven raw codes of
      R59, and the raw code of the incoming slice. -/
  | handover (n : Nat) (codes : List (List Nat)) (ins : List Nat)
  /-- BG_WINDOW_COMPLETE (R100): A background statistics window of 2^24 samples completes and estimates are formed
      and judged. What the estimator brings beside the gathered sums: the slope of the input's correlation at the
      sample period in 2^-30 per 0.01 ps; for each position the changes of its seven equaliser taps in 2^-17, over
      the window and over each of its 16 sub-windows; the tones near multiples of SCLK/16, each as its offset in
      fs / 2^24 and its power relative to the variance in 0.1 dB (R103). -/
  | bgWindowComplete (n : Nat) (slope : Int) (eq : List (List Int × List (List Int))) (tones : List (Nat × Int))
  /-- CAL_OVERDUE_SET (R110): The pass or background age passes its limit and CAL_OVERDUE begins. -/
  | calOverdueSet (n : Nat)
  /-- CERT_COMMIT (R87): Writing 1 to CAL.CERT_CTL.COMMIT commits the certified value to the history. `v` is the
      word written to `CAL.CERT_CTL`. -/
  | certCommit (a : Att) (v : Nat)
  /-- RANGE_CHECK_REQ (R113): A bit of CAL.CTL.RANGE_CHECK starts a range-check run on a stopped channel. `v` is the
      word written to `CAL.CTL`. -/
  | rangeCheckReq (a : Att) (v : Nat)
  /-- RANGE_CHECK_COMPLETE (R113): A range check of one range completes and sets or rejects its gain factor. The
      factor measured for range `r` of channel `n`, in 2^-24. -/
  | rangeCheckComplete (n r factor : Nat)
  /-- REFIN_MEASUREMENT (R122): Every 1 ms the safelight domain measures REFIN and judges REFIN and the oscillator.
      `khz` is the measurement of REFIN, `pll0Khz` the output frequency PLL0's control word indicates (R122). -/
  | refinMeasurement (khz pll0Khz : Nat)
  /-- CLK_REF_LOST (R122): Three missing REFIN edges declare REFIN lost and the PLLs coast. -/
  | clkRefLost
  /-- PLL_LOCK_WINDOW (R127): A 1,024-cycle lock window of a PLL ends and lock is declared or lost. `n` is the PLL,
      `err` the window's error in counts, `eps` the TB time at a REFIN edge less the nearest multiple of R, in 2^-16
      tick (R137). -/
  | pllLockWindow (n : Nat) (err eps : Int)
  /-- PLL_LOCK_TIMEOUT (R132): A PLL not locked within 10 ms is an internal fault. `n` is the PLL. -/
  | pllLockTimeout (n : Nat)
  /-- TB_REPHASED (R137): PLL0 re-phasing after a coast completes. -/
  | tbRephased
  /-- OCXO_WARM_CHANGE (R124): An OCXO_WARM level held steady for 1 ms is recognised. `level` is the level held for
      1 ms. -/
  | ocxoWarmChange (level : Bool)
  /-- CLK_COMMIT (R133): Writing 1 to CLK.CTL.COMMIT commits the written clock fields. `v` is the word written to
      `CLK.CTL`. -/
  | clkCommit (a : Att) (v : Nat)
  /-- CLK_COMMIT_APPLY (R133): Committed clock fields take effect together at the next REFIN rising edge. -/
  | clkCommitApply
  /-- SYNC_EDGE (R134): A sync edge on SYNC_IN restarts selected dividers in IDLE and serves as a trigger source. -/
  | syncEdge
  /-- TB_SET_ARM (R140): Writing 1 to TB.SET_CTL.ARM arms a TB set. `v` is the word written to `TB.SET_CTL`, bit 0
      set. -/
  | tbSetArm (a : Att) (v : Nat)
  /-- TB_SET_DISARM (R154): Writing 0 to TB.SET_CTL.ARM disarms a TB set. `v` is the word written to `TB.SET_CTL`,
      bit 0 clear. -/
  | tbSetDisarm (a : Att) (v : Nat)
  /-- TB_NOW_READ (R139): A read of TB.NOW_LO latches the full TB time. -/
  | tbNowRead (a : Att)
  /-- MARKER (R145): An SCLK ÷ 8,192 marker is stamped and the sample-to-TB fit is updated. `raw` is 512
      times the TB tick of the marker's edge plus its raw fine code (R158). -/
  | marker (raw : Nat)
  /-- EDGE_SELECT (R157): A write of TDC.INi_CTL.EDGE enables or disables a stamp input. `v` is the word written to
      the edge register of stamp input `i`. -/
  | edgeSelect (a : Att) (i v : Nat)
  /-- STAMP_EDGE (R161): An edge on a stamp input is latched in a residue cell or overruns. An edge at stamp input
      `i`, its direction and its phase in the tick (2^-16 tick). -/
  | stampEdge (i : Nat) (falling : Bool) (phase : Nat)
  /-- VERNIER_CONVERSION (R160): A vernier conversion completes and the stamp record is formed, judged if a stop,
      and queued. The vernier of input `i` delivers code `v`. -/
  | vernierConversion (i v : Nat)
  /-- SPILL_MOVE (R172): The oldest 64 tail entries of a full queue move to the spill region when Q1 serves them.
      `i` is the stamp input. -/
  | spillMove (i : Nat)
  /-- CURVE_TEST_GO (R168): Writing 1 to TDC.TEST.GO starts a curve test of one or all inputs. Attachment `a` writes
      the word `v`. -/
  | curveTestGo (a : Att) (v : Nat)
  /-- CURVE_TEST_COMPLETE (R167): A curve test completes and its curve replaces the old one or is rejected. `hist`
      holds its counts H(2i) (R167) for i = 0 to 255, on input `i`. -/
  | curveTestComplete (i : Nat) (hist : List Nat)
  /-- VERNIER_LOCK_MEASUREMENT (R164): A 1,024-tick vernier loop measurement ends and lock is declared or lost. Unit
      `u` of input `i`; `dev` is the step's deviation from 1.5625 ps in 0.01 %. -/
  | vernierLockMeasurement (i u : Nat) (dev : Int)
  /-- VERNIER_LOCK_TIMEOUT (R166): A vernier unit not locked within 10 ms is an internal fault. Unit `u` of input
      `i`. -/
  | vernierLockTimeout (i u : Nat)
  /-- DARK_STAMP (R176): An edge in DARK is stamped at keeper resolution into the safelight buffer. `i` is the stamp
      input. -/
  | darkStamp (i : Nat) (falling : Bool)
  /-- SEQUENCER_EVENT (R192): After the alignment delay a sequencer takes an event and runs at most one transition.
      `n` is the channel. -/
  | sequencerEvent (n : Nat)
  /-- SEQUENCER_TIMER_EXPIRY (R192): A sequencer timer expires and presents a timer event. `n` is the channel, `k`
      the timer. -/
  | sequencerTimerExpiry (n k : Nat)
  /-- HOLDOFF_END (R196): A TIME holdoff ends when its duration elapses. `n` is the channel. -/
  | holdoffEnd (n : Nat)
  /-- CHANNEL_REARM (R198): Holdoff, dead time and pre-trigger refill have all passed and the channel returns to
      ARMED. `n` is the channel. -/
  | channelRearm (n : Nat)
  /-- TRG_COMMIT (R186): TRG.CHn_CTL.COMMIT commits the channel's shadowed trigger fields. `v` is the word written
      to the command register of channel `n`. -/
  | trgCommit (a : Att) (n v : Nat)
  /-- TRG_SETTINGS_APPLY (R186): Committed trigger values take effect at the frame boundary. `n` is the channel. -/
  | trgSettingsApply (n : Nat)
  /-- TRG_REARM (R196): TRG.CHn_CTL.REARM ends a REARM holdoff. `v` is the word written to the command register of
      channel `n`. -/
  | trgRearm (a : Att) (n v : Nat)
  /-- TRG_FORCE (R200): TRG.CHn_CTL.FORCE enters a force event that commits if the channel is ARMED. `v` is the word
      written to the command register of channel `n`. -/
  | trgForce (a : Att) (n v : Nat)
  /-- TRG_CMD (R200): TRG.CHn_CTL.CMD presents a command event to the table. `v` is the word written to the command
      register of channel `n`. -/
  | trgCmd (a : Att) (n v : Nat)
  /-- TRGOUT_CTL_WRITE (R208): A write to TRG.OUTk_CTL takes effect after the output is low for one tick. `v` is the
      word written to the control register of trigger output `k`. -/
  | trgoutCtlWrite (a : Att) (k v : Nat)
  /-- TRGOUT_PULSE_END (R208): A DETECT or COMMIT pulse on TRGOUT ends after WIDTH ticks. `k` is the trigger output. -/
  | trgoutPulseEnd (k : Nat)
  /-- TRG_CURVE_LEARN (R204): Writing 1 to TRG.CURVE_CTL.LEARN starts learning an interpolation curve. Attachment
      `a` writes the word `v`. -/
  | trgCurveLearn (a : Att) (v : Nat)
  /-- CURVE_LEARN_COMPLETE (R204): After 4,194,304 events the learned curve is computed and stored or rejected. -/
  | curveLearnComplete
  /-- CAP_START (R227): CAP.CTL.START starts channels, opening a roll if none is open. Attachment `a` writes the
      word `v`. -/
  | capStart (a : Att) (v : Nat)
  /-- HELD_START_ACT (R227): A held start acts once its table and pages are available. -/
  | heldStartAct
  /-- CAP_STOP (R227): CAP.CTL.STOP stops channels and truncates their open frames. Attachment `a` writes the word
      `v`. -/
  | capStop (a : Att) (v : Nat)
  /-- CAP_ABORT (R229): CAP.CTL.ABORT ends the open roll with cause ABORT. Attachment `a` writes the word `v`. -/
  | capAbort (a : Att) (v : Nat)
  /-- CONTINUOUS_ROLL_START (R231): In continuous mode the next roll starts by itself after the gap. -/
  | continuousRollStart
  /-- FRAME_END (R235): A frame reaches its last sample and closes. `n` is the channel. -/
  | frameEnd (n : Nat)
  /-- FRAME_CLOSED (R235): A frame's header and digest complete and its descriptor becomes CLOSED. `n` is the
      channel. -/
  | frameClosed (n : Nat)
  /-- Q0_RESERVATION_CHANGE (R221): A change of the Q0 reservation takes effect at the next group boundary. -/
  | q0ReservationChange
  /-- QDR_SLOT_GRANT (R225): An arbitration slot moves one stripe for the class it is granted to. `err`: what the
      stripe read showed, 0 no error, 1 one corrected, 2 uncorrectable. -/
  | qdrSlotGrant (err : Nat)
  /-- CAP_RELEASE (R222): A write to CAP.RELEASE releases a retained frame or all of them. Attachment `a` writes the
      word `v`. -/
  | capRelease (a : Att) (v : Nat)
  /-- POOL_LOW_RESET (R246): Writing 1 to CAP.POOL_WARN.LOW_RESET sets LOW_WATER to FREE. Attachment `a` writes the
      word `v`. -/
  | poolLowReset (a : Att) (v : Nat)
  /-- ACC_SNAP_STK (R298): ACC.CHn_CTL.SNAP_STK requests a stack snapshot. `v` is the word written to the command
      register of channel `n`. -/
  | accSnapStk (a : Att) (n v : Nat)
  /-- ACC_SNAP_MAP (R298): ACC.CHn_CTL.SNAP_MAP requests a map snapshot. `v` is the word written to the command
      register of channel `n`. -/
  | accSnapMap (a : Att) (n v : Nat)
  /-- ACC_CLEAR_STK (R303): ACC.CHn_CTL.CLEAR_STK clears the stack at the next frame boundary. `v` is the word
      written to the command register of channel `n`. -/
  | accClearStk (a : Att) (n v : Nat)
  /-- ACC_CLEAR_MAP (R303): ACC.CHn_CTL.CLEAR_MAP clears the map at the next frame boundary. `v` is the word written
      to the command register of channel `n`. -/
  | accClearMap (a : Att) (n v : Nat)
  /-- SNAPSHOT_PERIOD (R298): The snapshot period elapses and a snapshot falls due. `n` is the channel. -/
  | snapshotPeriod (n : Nat)
  /-- ACC_SNAPSHOT (R299): A snapshot copy completes and its record is available to readers. `n` is the channel,
      `kind` which accumulator (R272). -/
  | accSnapshot (n kind : Nat)
  /-- STACK_MERGE (R289): A QDR stack merge of an accepted frame completes. `n` is the channel. -/
  | stackMerge (n : Nat)
  /-- TILE_MERGE (R294): A due map tile is merged into the master copy and becomes a spare. `n` is the channel. -/
  | tileMerge (n : Nat)
  /-- DECAY_STEP (R296): A decay period elapses and a decay sweep of the map runs. `n` is the channel. -/
  | decayStep (n : Nat)
  /-- CMB_LOAD (R340): Command LOAD copies a program into a cell. `v` is the word written to the control register of
      cell `c`. -/
  | cmbLoad (a : Att) (c v : Nat)
  /-- CELL_LOAD_COMPLETE (R340): A cell load completes and the cell is LOADED. `c` is the cell. -/
  | cellLoadComplete (c : Nat)
  /-- CMB_RUN (R340): Command RUN starts or resumes a cell. `v` is the word written to the control register of cell
      `c`. -/
  | cmbRun (a : Att) (c v : Nat)
  /-- CMB_HALT (R340): Command HALT stops a cell at the next instruction boundary. `v` is the word written to the
      control register of cell `c`. -/
  | cmbHalt (a : Att) (c v : Nat)
  /-- CMB_UNLOAD (R340): Command UNLOAD empties a cell. `v` is the word written to the control register of cell `c`. -/
  | cmbUnload (a : Att) (c v : Nat)
  /-- CMB_GROUP_RUN (R340): CMB.CTL with RUN starts several cells of one super in the same cycle. Attachment `a`
      writes the word `v`. -/
  | cmbGroupRun (a : Att) (v : Nat)
  /-- CMB_GROUP_HALT (R340): CMB.CTL with HALT halts several cells of one super in the same cycle. Attachment `a`
      writes the word `v`. -/
  | cmbGroupHalt (a : Att) (v : Nat)
  /-- PARAMETER_WRITE (R341): An operator write to a cell parameter block word through the window. `v` is written to
      parameter word `w`. -/
  | parameterWrite (a : Att) (w v : Nat)
  /-- BUFFER_READY (R325): An inbox buffer becomes ready for its cell. `c` is the cell, `port` its input port,
      `err` what its accesses showed: bit 0 a word of on-die SRAM corrected, bit 1 one of the cell's memory. -/
  | bufferReady (c port err : Nat)
  /-- STAMPS_FLUSH (R329): A STAMPS binding's flush time passes and its buffer becomes ready. `c` is the cell,
      `port` its input port. -/
  | stampsFlush (c port : Nat)
  /-- DMA_COMPLETE (R331): A Comb DMA request completes and writes its status. `c` is the cell, `err` as for
      BUFFER_READY. -/
  | dmaComplete (c err : Nat)
  /-- MOVE (R323): ALU MOVE copies SA to the destination. `c` is the cell. -/
  | cellMove (c : Nat)
  /-- CLR (R323): ALU CLR sets the destination to 0. `c` is the cell. -/
  | cellClr (c : Nat)
  /-- ADD (R323): ALU ADD adds SA to the destination. `c` is the cell. -/
  | cellAdd (c : Nat)
  /-- SUB (R323): ALU SUB subtracts SA from the destination. `c` is the cell. -/
  | cellSub (c : Nat)
  /-- NEG (R323): ALU NEG writes minus SA. `c` is the cell. -/
  | cellNeg (c : Nat)
  /-- ABS (R323): ALU ABS writes the absolute value of SA. `c` is the cell. -/
  | cellAbs (c : Nat)
  /-- MAX (R323): ALU MAX keeps the larger of destination and SA. `c` is the cell. -/
  | cellMax (c : Nat)
  /-- MIN (R323): ALU MIN keeps the smaller of destination and SA. `c` is the cell. -/
  | cellMin (c : Nat)
  /-- CMP (R323): ALU CMP sets flags from destination minus SA. `c` is the cell. -/
  | cellCmp (c : Nat)
  /-- AND (R323): ALU AND on 56 bits. `c` is the cell. -/
  | cellAnd (c : Nat)
  /-- OR (R323): ALU OR on 56 bits. `c` is the cell. -/
  | cellOr (c : Nat)
  /-- XOR (R323): ALU XOR on 56 bits. `c` is the cell. -/
  | cellXor (c : Nat)
  /-- ASL (R323): ALU ASL shifts SA left by c. `c` is the cell. -/
  | cellAsl (c : Nat)
  /-- ASR (R323): ALU ASR shifts SA arithmetically right by c. `c` is the cell. -/
  | cellAsr (c : Nat)
  /-- LSR (R323): ALU LSR shifts SA logically right by c. `c` is the cell. -/
  | cellLsr (c : Nat)
  /-- CLS (R323): ALU CLS counts the bits below the sign equal to it. `c` is the cell. -/
  | cellCls (c : Nat)
  /-- DIV (R323): ALU DIV divides the destination by SA in 26 cycles. `c` is the cell. -/
  | cellDiv (c : Nat)
  /-- SQRT (R323): ALU SQRT writes the nearest integer square root of SA. `c` is the cell. -/
  | cellSqrt (c : Nat)
  /-- MUL (R323): MAC MUL writes SA times SB. `c` is the cell. -/
  | cellMul (c : Nat)
  /-- MLA (R323): MAC MLA adds SA times SB. `c` is the cell. -/
  | cellMla (c : Nat)
  /-- MLS (R323): MAC MLS subtracts SA times SB. `c` is the cell. -/
  | cellMls (c : Nat)
  /-- MLAH (R323): MAC MLAH shifts the destination down 24 bits and adds SA times SB. `c` is the cell. -/
  | cellMlah (c : Nat)
  /-- DMUL (R323): DMAC DMUL writes two products to a pair. `c` is the cell. -/
  | cellDmul (c : Nat)
  /-- DMLA (R323): DMAC DMLA adds two products to a pair. `c` is the cell. -/
  | cellDmla (c : Nat)
  /-- DMLS (R323): DMAC DMLS subtracts two products from a pair. `c` is the cell. -/
  | cellDmls (c : Nat)
  /-- DSUM (R323): DMAC DSUM adds both products to the even accumulator. `c` is the cell. -/
  | cellDsum (c : Nat)
  /-- DDIF (R323): DMAC DDIF adds the product difference to the even accumulator. `c` is the cell. -/
  | cellDdif (c : Nat)
  /-- LDI (R323): IMM LDI loads an immediate into a register. `c` is the cell. -/
  | cellLdi (c : Nat)
  /-- ADDI (R323): IMM ADDI adds an immediate to an accumulator. `c` is the cell. -/
  | cellAddi (c : Nat)
  /-- CMPI (R323): IMM CMPI sets flags from accumulator minus immediate. `c` is the cell. -/
  | cellCmpi (c : Nat)
  /-- ANDI (R323): IMM ANDI ANDs an accumulator with an immediate. `c` is the cell. -/
  | cellAndi (c : Nat)
  /-- SETA (R323): ADDR SETA sets a cursor address. `c` is the cell. -/
  | cellSeta (c : Nat)
  /-- ADDA (R323): ADDR ADDA updates a cursor address by Δ under its mode. `c` is the cell. -/
  | cellAdda (c : Nat)
  /-- SETB (R323): ADDR SETB sets a cursor window base. `c` is the cell. -/
  | cellSetb (c : Nat)
  /-- SETW (R323): ADDR SETW sets a cursor mode and window length. `c` is the cell. -/
  | cellSetw (c : Nat)
  /-- SETS (R323): ADDR SETS sets a cursor stride. `c` is the cell. -/
  | cellSets (c : Nat)
  /-- MVA (R323): ADDR MVA loads a cursor address from a data register. `c` is the cell. -/
  | cellMva (c : Nat)
  /-- MVD (R323): ADDR MVD copies a cursor address into a data register. `c` is the cell. -/
  | cellMvd (c : Nat)
  /-- MVC (R323): ADDR MVC loads a whole cursor from an accumulator. `c` is the cell. -/
  | cellMvc (c : Nat)
  /-- MCV (R323): ADDR MCV copies a whole cursor into an accumulator. `c` is the cell. -/
  | cellMcv (c : Nat)
  /-- SETSH (R323): ADDR SETSH sets the scaler shift. `c` is the cell. -/
  | cellSetsh (c : Nat)
  /-- NOP (R317): CTRL NOP does nothing for one cycle. `c` is the cell. -/
  | cellNop (c : Nat)
  /-- BRA (R317): CTRL BRA branches on its condition. `c` is the cell. -/
  | cellBra (c : Nat)
  /-- CALL (R316): CTRL CALL pushes the call stack and branches on its condition. `c` is the cell. -/
  | cellCall (c : Nat)
  /-- RET (R316): CTRL RET returns from a call on its condition. `c` is the cell. -/
  | cellRet (c : Nat)
  /-- LOOP (R316): CTRL LOOP runs a body a fixed number of times. `c` is the cell. -/
  | cellLoop (c : Nat)
  /-- LOOPR (R316): CTRL LOOPR runs a body a count taken from a register. `c` is the cell. -/
  | cellLoopr (c : Nat)
  /-- RPT (R316): CTRL RPT repeats the next instruction n times. `c` is the cell. -/
  | cellRpt (c : Nat)
  /-- LEAVE (R316): CTRL LEAVE exits the innermost loop. `c` is the cell. -/
  | cellLeave (c : Nat)
  /-- HALT (R339): CTRL HALT stops the cell resumably. `c` is the cell. -/
  | cellHalt (c : Nat)
  /-- TRAP (R343): CTRL TRAP traps the cell with its code. `c` is the cell. -/
  | cellTrap (c : Nat)
  /-- CLRF (R314): CTRL CLRF clears the sticky V and L flags. `c` is the cell. -/
  | cellClrf (c : Nat)
  /-- IN (R330): STREAM IN takes the next ready buffer of a port. `c` is the cell. -/
  | cellIn (c : Nat)
  /-- FREE (R330): STREAM FREE returns the oldest held buffer of a port. `c` is the cell. -/
  | cellFree (c : Nat)
  /-- OPEN (R334): STREAM OPEN opens a result record on an outbox. `c` is the cell. -/
  | cellOpen (c : Nat)
  /-- OUT (R334): STREAM OUT appends one word to the open result record. `c` is the cell. -/
  | cellOut (c : Nat)
  /-- CLOSE (R335): STREAM CLOSE completes the result record and hands it to the result path. `c` is the cell. -/
  | cellClose (c : Nat)
  /-- DMA (R330): STREAM DMA issues a DMA descriptor. `c` is the cell. -/
  | cellDma (c : Nat)
  /-- DWAIT (R330): STREAM DWAIT waits for the oldest DMA request. `c` is the cell. -/
  | cellDwait (c : Nat)
  /-- EVENT (R348): STREAM EVENT raises a user event with a code. `c` is the cell. -/
  | cellEvent (c : Nat)
  /-- DDR_REFRESH (R360): The refresh interval elapses and an all-bank refresh runs on every subchannel. -/
  | ddrRefresh
  /-- MR4_POLL (R365): Every 1 ms the MR4 temperature and refresh rate of the devices is read. `hot`: a device asks
      for the halved interval; `bad`: the subchannel and reading (1/128 °C) of a device outside its range; `forced`:
      forced after a refresh (R365). -/
  | mr4Poll (hot : Bool) (bad : Option (Nat × Int)) (forced : Bool)
  /-- DQS_TRACK (R365): The DQS oscillator periodic step runs. `drift`: the subchannel and rank whose drift is
      beyond the range, if any; `forced`: forced after a refresh (R365). -/
  | dqsTrack (drift : Option (Nat × Nat)) (forced : Bool)
  /-- ZQ_CALIBRATION (R365): The periodic ZQ calibration step runs. `forced`: forced after a refresh (R365). -/
  | zqCalibration (forced : Bool)
  /-- WRITE_DRAIN (R358): A write drain starts on a subchannel. `k` is the subchannel. -/
  | writeDrain (k : Nat)
  /-- DDR_READ_COMPLETE (R362): A DDR5 read piece returns its data to its port. `k` is the subchannel, `asked`
      pieces that read ports ask for (port, address, length), `err` as for QDR_SLOT_GRANT. -/
  | ddrReadComplete (k : Nat) (asked : List (Nat × Nat × Nat)) (err : Nat)
  /-- SELF_REFRESH_ENTRY (R366): The idle conditions hold and the DRAM enters self-refresh. -/
  | selfRefreshEntry
  /-- SELF_REFRESH_EXIT (R367): Exit from self-refresh is decided and PLL3 re-enabled. -/
  | selfRefreshExit
  /-- ARCHIVE_RECORD_COMMIT (R372): An archived record's last byte is in DRAM and its index entry is written. -/
  | archiveRecordCommit
  /-- ARCH_TRIM (R374): A write to DRM.ARCH_TRIM discards records up to a number. Attachment `a` writes the word
      `v`. -/
  | archTrim (a : Att) (v : Nat)
  /-- GRAIN_WRITE (R354): A write changing DRM.MAP.GRAIN empties the archive. Attachment `a` writes the word `v`. -/
  | grainWrite (a : Att) (v : Nat)
  /-- ARCH_REGION_WRITE (R375): A write to DRM.ARCH_CFG, ARCH_BASE or ARCH_SIZE empties the ring. `v` is the word
      written to region register `k`. -/
  | archRegionWrite (a : Att) (k v : Nat)
  /-- FRAME_RECEIVED (R383): An Ethernet frame not accepted as a valid Waggle packet is counted and dropped. `e`
      arrives at host port `p`. -/
  | frameReceived (p : Nat) (e : EthFrame)
  /-- HELLO (R390): A HELLO from a host opens or resumes a session challenge. `e` arrives at host port `p`. -/
  | hello (p : Nat) (e : EthFrame)
  /-- AUTH (R391): An AUTH from a host is checked and opens the session. `e` arrives at host port `p`. -/
  | auth (p : Nat) (e : EthFrame)
  /-- WAG_READ (R405): CONTROL READ returns register words. `e` arrives at host port `p`. -/
  | wagRead (p : Nat) (e : EthFrame)
  /-- WAG_WRITE (R406): CONTROL WRITE writes register words in order, stopping at the first refusal. `e` arrives at
      host port `p`. -/
  | wagWrite (p : Nat) (e : EthFrame)
  /-- WAG_OPEN (R396): CONTROL OPEN opens a stream of a kind. `e` arrives at host port `p`. -/
  | wagOpen (p : Nat) (e : EthFrame)
  /-- WAG_CLOSE (R405): CONTROL CLOSE closes a stream and ends its claims. `e` arrives at host port `p`. -/
  | wagClose (p : Nat) (e : EthFrame)
  /-- LEASE_ACQUIRE (R408): CONTROL LEASE acquire takes lease items whole or not at all. `e` arrives at host port
      `p`. -/
  | leaseAcquire (p : Nat) (e : EthFrame)
  /-- LEASE_RELEASE (R408): CONTROL LEASE release frees lease items. `e` arrives at host port `p`. -/
  | leaseRelease (p : Nat) (e : EthFrame)
  /-- LEASE_TAKE_OVER (R408): CONTROL LEASE take over passes a lease to an installer session. `e` arrives at host
      port `p`. -/
  | leaseTakeOver (p : Nat) (e : EthFrame)
  /-- BYE (R404): CONTROL BYE ends the session and its claims. `e` arrives at host port `p`. -/
  | bye (p : Nat) (e : EthFrame)
  /-- WAG_ATTEST (R473): CONTROL ATTEST requests an attestation statement. `e` arrives at host port `p`. -/
  | wagAttest (p : Nat) (e : EthFrame)
  /-- ACK (R394): An ACK from a host updates ack and credit of a stream. `e` arrives at host port `p`. -/
  | ack (p : Nat) (e : EthFrame)
  /-- GOBACK (R394): An ACK with GOBACK makes the device resend from ack at once. `e` arrives at host port `p`. -/
  | goback (p : Nat) (e : EthFrame)
  /-- PACKET_SEND (R393): The device sends the next packet of a stream once ack window and credit allow. Stream `id`
      of port `p`; bit 0 of `err` says that a word of on-die SRAM was corrected on the way (R537). -/
  | packetSend (p id err : Nat)
  /-- RETRANSMIT_TIMEOUT (R394): The oldest unacknowledged packet waits RTO and the stream is resent. Stream `id` of
      port `p`. -/
  | retransmitTimeout (p id : Nat)
  /-- KEEPALIVE_ACK (R395): After a quarter of ABSENT_MS with nothing sent, the device sends an ACK on stream 0. -/
  | keepaliveAck (p : Nat)
  /-- ABSENT_TIMEOUT (R389): No valid packet for ABSENT_MS sends the session to ABSENT. -/
  | absentTimeout (p : Nat)
  /-- ABSENT_HOLD_END (R403): The absence hold ends, claims end and SKIPs with reason ABSENT are recorded. -/
  | absentHoldEnd (p : Nat)
  /-- RESUME_EXPIRY (R403): RESUME_S expires and an ABSENT session goes to IDLE. -/
  | resumeExpiry (p : Nat)
  /-- LEASE_EXPIRY (R408): A lease not renewed for LEASE_MS expires. `i` is the lease item (R408). -/
  | leaseExpiry (i : Nat)
  /-- AUTH_TIMEOUT (R389): No AUTH within 1 s returns a CHALLENGED port to IDLE. -/
  | authTimeout (p : Nat)
  /-- SNAPSHOT_CLAIM_TIMEOUT (R399): An unacknowledged SNAPSHOTS claim ends after 2 × LEASE_MS. Stream `id` of port
      `p`. -/
  | snapshotClaimTimeout (p id : Nat)
  /-- LINK_CHANGE (R381): A host lane link comes up or goes down. The link of port `p` comes up or goes down. -/
  | linkChange (p : Nat) (up : Bool)
  /-- PORT_EN_WRITE (R402): A write of HPT.Pp_CTL.EN turns a port on or off. `v` is the word written for port `p`. -/
  | portEnWrite (a : Att) (p v : Nat)
  /-- PORT_REOPEN (R412): HPT.Pp_CTL.REOPEN reopens a port closed by policy. `v` is the word written for port `p`. -/
  | portReopen (a : Att) (p v : Nat)
  /-- GROUP_CFG_WRITE (R381): A write of HPT.Gg_CFG drops and retrains a lane group. `v` is the word written for
      group `g`. -/
  | groupCfgWrite (a : Att) (g v : Nat)
  /-- VIEW_CLEAR (R417): WAG.VIEW.CLEAR clears a port's statistics counters. Attachment `a` writes the word `v`. -/
  | viewClear (a : Att) (v : Nat)
  /-- WINDOW_EVENT (R421): A window output changes with its comparators resolved, making a stamp, pending bit and
      wake. `w` is the window, `k` its comparator, `v` the level at its input in nV, `phase` the phase in the tick. -/
  | windowEvent (w k : Nat) (v : Int) (phase : Nat)
  /-- WIN_CFG_WRITE (R422): A write of WIN.Ww_CFG or WIN.Ww_THR holds and resets the comparators. `w` is the window
      pin, `thr` says the threshold register, `v` the word. -/
  | winCfgWrite (a : Att) (w : Nat) (thr : Bool) (v : Nat)
  /-- WINDOW_SETTLED (R422): The 200 ns DAC settling ends and comparison resumes. `w` is the window pin. -/
  | windowSettled (w : Nat)
  /-- RB_GO (R427): WIN.RB_CTL.GO requests a threshold readback. Attachment `a` writes the word `v`. -/
  | rbGo (a : Att) (v : Nat)
  /-- WIN_RB_DONE (R426): A threshold readback completes or aborts. `raw` is what the read-back converts. -/
  | winRbDone (raw : List Nat)
  /-- MCV_PASS (R430): A monitor converter sequence pass falls due and starts. -/
  | mcvPass
  /-- MCV_CONVERSION_COMPLETE (R429): A regular simultaneous conversion completes and its results are stored and
      checked. `vals` gives for each core the 12-bit code, or for a temperature input what the factory curve makes of it. -/
  | mcvConversionComplete (vals : List Nat)
  /-- MCV_INJECT (R431): MCV.CTL.INJECT queues an injected conversion request. Attachment `a` writes the word `v`. -/
  | mcvInject (a : Att) (v : Nat)
  /-- MCV_INJ_DONE (R431): An injected conversion completes and its record enters the result FIFO. `vals` are as those of
      MCV_CONVERSION_COMPLETE. -/
  | mcvInjDone (vals : List Nat)
  /-- MCV_POP (R431): MCV.CTL.POP removes the head result record. Attachment `a` writes the word `v`. -/
  | mcvPop (a : Att) (v : Nat)
  /-- MCV_CAL (R432): MCV.CTL.CAL requests a monitor converter self-calibration. Attachment `a` writes the word `v`. -/
  | mcvCal (a : Att) (v : Nat)
  /-- MCV_CAL_DONE (R432): Self-calibration completes and its factors apply. `offs` and `gains` are what the
      calibration measured. -/
  | mcvCalDone (offs gains : List Int)
  /-- INJ_DISABLE (R434): Writing 0 to MCV.CFG.INJ_EN disables the injected path and aborts queued requests.
      Attachment `a` writes the word `v`. -/
  | injDisable (a : Att) (v : Nat)
  /-- PRO_COMMIT (R455): PRO.CTL.COMMIT commits the shadowed display fields. Attachment `a` writes the word `v`. -/
  | proCommit (a : Att) (v : Nat)
  /-- PRO_COMMIT_APPLY (R455): Committed display fields take effect at vertical blanking. -/
  | proCommitApply
  /-- COMPOSITION_START (R449): A composition starts on a new snapshot or commit once the previous has finished. -/
  | compositionStart
  /-- COMPOSITION_COMPLETE (R449): A composition completes and the back set is ready. -/
  | compositionComplete
  /-- DISPLAY_FRAME_START (R450): A new or repeated display frame starts within MIN and MAX. `lines`: how many lines
      of the frame before were sent as repeats of the line above. -/
  | displayFrameStart (lines : Nat)
  /-- TE_EDGE (R453): A TE rising edge starts a command-mode transfer when one is due. -/
  | teEdge
  /-- PRO_TE_LOST (R453): No TE edge for 2 × MAX clears TE_OK. -/
  | proTeLost
  /-- FLIP_COUNT_READ (R452): A read of PRO.FLIP_COUNT latches the flip time. `a` is the attachment that reads. -/
  | flipCountRead (a : Att)
  /-- OVERLAY_WRITE (R447): A write into the overlay buffer through the aperture. `v` is written at overlay address
      `addr`. -/
  | overlayWrite (a : Att) (addr v : Nat)
  /-- TOKEN_SUBMIT (R464): SEC.TOKEN_CTL.SUBMIT starts the check of a token. Attachment `a` writes the word `v`. -/
  | tokenSubmit (a : Att) (v : Nat)
  /-- KEY_PASS (R465): An accepted KEY_PASS token replaces the owner keys. `sig` is the verdict on the token's
      signature (notes/assumptions/9.md). -/
  | tokKeyPass (sig : Bool)
  /-- ADOPT (R465): An accepted ADOPT token starts image adoption. `sig` is the verdict on the token's signature
      (notes/assumptions/9.md). -/
  | tokAdopt (sig : Bool)
  /-- ENROL (R465): An accepted ENROL token writes a host key entry. `sig` is the verdict on the token's signature
      (notes/assumptions/9.md). -/
  | tokEnrol (sig : Bool)
  /-- REVOKE (R465): An accepted REVOKE token erases a host key entry. `sig` is the verdict on the token's signature
      (notes/assumptions/9.md). -/
  | tokRevoke (sig : Bool)
  /-- AUDIT_ACK (R480): An accepted AUDIT_ACK frees audit entries up to the export's last sequence. `sig` is the
      verdict on the token's signature (notes/assumptions/9.md). -/
  | tokAuditAck (sig : Bool)
  /-- RELEASE (R469): An accepted RELEASE token makes a release pending until reset. `sig` is the verdict on the
      token's signature (notes/assumptions/9.md). -/
  | tokRelease (sig : Bool)
  /-- SERVICE (R470): An accepted SERVICE token begins diagnostic service mode. `sig` is the verdict on the token's
      signature (notes/assumptions/9.md). -/
  | tokService (sig : Bool)
  /-- SERVICE_END (R470): An accepted SERVICE_END token ends diagnostic service mode. `sig` is the verdict on the
      token's signature (notes/assumptions/9.md). -/
  | tokServiceEnd (sig : Bool)
  /-- ATTEST_GO (R473): SEC.ATTEST_CTL.GO requests an attestation statement through I3C. Attachment `a` writes the
      word `v`. -/
  | attestGo (a : Att) (v : Nat)
  /-- ATTESTATION_SIGNED (R472): An attestation statement is signed and available in the attachment's view. -/
  | attestationSigned
  /-- MANIFEST_CLOSE (R475): A manifest period elapses and the open manifest closes into the signing queue. -/
  | manifestClose
  /-- MANIFEST_SIGNED (R476): The signing engine completes a signed manifest. -/
  | manifestSigned
  /-- SIGN_TIMEOUT (R476): A signature not complete within 100 ms is an internal fault. -/
  | signTimeout
  /-- KNOWN_ANSWER_TEST (R479): Every 1 s each hash engine and signing core runs a known-answer test. `failed`: the
      number of the engine that did not find the known answer. -/
  | knownAnswerTest (failed : Option Nat)
  /-- EXPORT (R480): LGR.EXPORT_CTL.GO requests a signed audit export. Attachment `a` writes the word `v`. -/
  | exportGo (a : Att) (v : Nat)
  /-- EXPORT_READY (R482): The signed audit export is complete in the export view. -/
  | exportReady
  /-- PSEL_CHANGE (R505): A PSEL value held 10 ms requests a profile switch. `v` is the new value of the pins. -/
  | pselChange (v : Nat)
  /-- PROFILE_SWITCH_REQUEST (R505): PRF.CTL.SWITCH requests a profile switch by command. Attachment `a` writes the
      word `v`. -/
  | profileSwitchRequest (a : Att) (v : Nat)
  /-- PRF_SWITCH (R506): A requested profile comes into force at the roll boundary. -/
  | prfSwitch
  /-- IDLE_DARK_TIMEOUT (R508): The device has been IDLE for idle_dark_ms and DARK is requested. -/
  | idleDarkTimeout
  /-- STAGE_CHECK (R509): PRF.STAGE.CHECK starts verification of a staged image. Attachment `a` writes the word `v`. -/
  | stageCheck (a : Att) (v : Nat)
  /-- PRF_STAGED (R509): The staged image check completes. `sig` and `maker` are the verdicts on the image's
      signatures. -/
  | prfStaged (sig maker : Bool)
  /-- ADOPTION_START (R510): At the roll boundary acquisition pauses and the staged image is re-read. -/
  | adoptionStart
  /-- ADOPTION_REREAD_DONE (R510): The re-read ends and the image is committed and loaded or the adoption fails.
      `sig` and `maker` are the verdicts on the image's signatures. -/
  | adoptionRereadDone (sig maker : Bool)
  /-- DARK_REQUEST (R523): SYS.CTL.DARK requests DARK, which waits for its conditions. Attachment `a` writes the
      word `v`. -/
  | darkRequest (a : Att) (v : Nat)
  /-- DARK_ENTRY (R523): The entry waits end and the device enters DARK. -/
  | darkEntry
  /-- WAKE_PIN (R525): A WAKE_IN edge is recognised as a wake source. `level` is the pin's new level. -/
  | wakePin (level : Bool)
  /-- WAKE_ALARM (R525): The keeper reaches SYS.WAKE_AT and the alarm wakes the device. -/
  | wakeAlarm
  /-- SYS_WAKE_WRITE (R525): A write of SYS.CTL.WAKE through I3C wakes the device from DARK. `v` is the word the
      attachment writes. -/
  | sysWakeWrite (v : Nat)
  /-- WAKE (R526): A recognised wake source brings the device out of DARK. -/
  | wake
  /-- I3C_PRIVATE_WRITE (R553): An I3C private write sets the read pointer and writes words in order. `da` is the
      address, `bytes` the data, `bad` the byte whose parity or CRC is wrong. -/
  | i3cPrivateWrite (da : Nat) (bytes : List Nat) (bad : Option Nat)
  /-- I3C_PRIVATE_READ (R553): An I3C private read returns words from the read pointer. `da` is the address, `n` the
      bytes the controller reads. -/
  | i3cPrivateRead (da n : Nat)
  /-- HDR_WRITE (R553): HDR-DDR write command 0x20 acts as a private write. `da` is the address, `bytes` the data,
      `bad` the byte whose parity or CRC is wrong. -/
  | hdrWrite (da : Nat) (bytes : List Nat) (bad : Option Nat)
  /-- HDR_READ (R553): HDR-DDR read command 0xA0 acts as a private read. `da` is the address, `n` the bytes the
      controller reads. -/
  | hdrRead (da n : Nat)
  /-- ENEC (R550): CCC ENEC enables target events. `da`: directed at this address, or broadcast; `bits` the events
      byte. -/
  | enec (da : Option Nat) (bits : Nat)
  /-- DISEC (R550): CCC DISEC disables target events, hot-join included. `da`: directed at this address, or
      broadcast; `bits` the events byte. -/
  | disec (da : Option Nat) (bits : Nat)
  /-- RSTDAA (R552): CCC RSTDAA resets the dynamic address. -/
  | rstdaa
  /-- ENTDAA (R550): CCC ENTDAA assigns a dynamic address. `da` is the address assigned. -/
  | entdaa (da : Nat)
  /-- SETDASA (R552): CCC SETDASA assigns the static address as dynamic, NACKed before step 5. `st` is the static
      address, `da` the address assigned. -/
  | setdasa (st da : Nat)
  /-- SETNEWDA (R550): CCC SETNEWDA changes the dynamic address. `old` is the address before, `da` the new one. -/
  | setnewda (old da : Nat)
  /-- GETPID (R551): CCC GETPID returns the provisional ID. `da` is the address asked. -/
  | getpid (da : Nat)
  /-- GETBCR (R551): CCC GETBCR returns 0x2E. `da` is the address asked. -/
  | getbcr (da : Nat)
  /-- GETDCR (R551): CCC GETDCR returns 0x00. `da` is the address asked. -/
  | getdcr (da : Nat)
  /-- GETSTATUS (R551): CCC GETSTATUS returns state, protocol error and waiting interrupts. `da` is the address
      asked. -/
  | getstatus (da : Nat)
  /-- SETMWL (R551): CCC SETMWL sets the maximum write length. `da`: directed or broadcast; `len` the length. -/
  | setmwl (da : Option Nat) (len : Nat)
  /-- SETMRL (R551): CCC SETMRL sets the maximum read length. `da`: directed or broadcast; `len` the length. -/
  | setmrl (da : Option Nat) (len : Nat)
  /-- GETMWL (R551): CCC GETMWL returns the maximum write length. `da` is the address asked. -/
  | getmwl (da : Nat)
  /-- GETMRL (R551): CCC GETMRL returns the maximum read length. `da` is the address asked. -/
  | getmrl (da : Nat)
  /-- GETMXDS (R551): CCC GETMXDS returns 0x00, 0x00. `da` is the address asked. -/
  | getmxds (da : Nat)
  /-- ENTHDR0 (R550): CCC ENTHDR0 enters HDR-DDR. -/
  | enthdr0
  /-- HOT_JOIN (R552): A device with no dynamic address requests hot-join at bus idle. -/
  | hotJoin
  /-- IBI_REQUEST (R559): The target requests a waiting in-band interrupt at bus idle. `ack`: the controller
      acknowledges. -/
  | ibiRequest (ack : Bool)
  /-- AUTH_NONCE (R556): I3C.AUTH_CTL.NONCE draws a nonce. Attachment `a` writes the word `v`. -/
  | authNonce (a : Att) (v : Nat)
  /-- AUTH_GO (R556): I3C.AUTH_CTL.GO checks the mac and grants a role. Attachment `a` writes the word `v`. -/
  | authGo (a : Att) (v : Nat)
  /-- AUTH_LOGOUT (R557): I3C.AUTH_CTL.LOGOUT returns the attachment to operator. Attachment `a` writes the word
      `v`. -/
  | authLogout (a : Att) (v : Nat)
  /-- AUTH_IDLE_TIMEOUT (R557): AUTH_IDLE seconds with no private transfer end the authenticated role. -/
  | authIdleTimeout
  /-- FLASH_OPEN (R561): Pass-through OPEN opens a session over a block range. Attachment `a` writes the word `v`. -/
  | flashOpen (a : Att) (v : Nat)
  /-- FLASH_CLOSE (R561): Pass-through CLOSE ends the session. Attachment `a` writes the word `v`. -/
  | flashClose (a : Att) (v : Nat)
  /-- FLASH_READ (R561): Pass-through READ copies flash bytes to the buffer. Attachment `a` writes the word `v`. -/
  | flashRead (a : Att) (v : Nat)
  /-- FLASH_PROGRAM (R561): Pass-through PROGRAM writes buffer bytes to erased flash. Attachment `a` writes the word
      `v`. -/
  | flashProgram (a : Att) (v : Nat)
  /-- FLASH_ERASE_4K (R561): Pass-through ERASE_4K erases a 4 KB sector. Attachment `a` writes the word `v`. -/
  | flashErase4k (a : Att) (v : Nat)
  /-- FLASH_ERASE_64K (R561): Pass-through ERASE_64K erases a 64 KB block. Attachment `a` writes the word `v`. -/
  | flashErase64k (a : Att) (v : Nat)
  /-- FLASH_OP_COMPLETE (R562): A pass-through operation completes with its result and raises FLASH. `ok`: the
      operation succeeded; `left`: the bytes it left where it failed. -/
  | flashOpComplete (ok : Bool) (left : List Nat)
  /-- EXTEST (R586): JTAG EXTEST, accepted only with RESET_N low. -/
  | jtagExtest
  /-- IDCODE (R585): JTAG IDCODE reads 0x1088_074B. -/
  | jtagIdcode
  /-- SAMPLE_PRELOAD (R585): JTAG SAMPLE/PRELOAD per IEEE 1149.1. -/
  | jtagSamplePreload
  /-- EXTEST_PULSE (R586): JTAG EXTEST_PULSE per IEEE 1149.6, only with RESET_N low. -/
  | jtagExtestPulse
  /-- EXTEST_TRAIN (R586): JTAG EXTEST_TRAIN per IEEE 1149.6, only with RESET_N low. -/
  | jtagExtestTrain
  /-- HIGHZ (R586): JTAG HIGHZ, only with RESET_N low. -/
  | jtagHighz
  /-- CLAMP (R586): JTAG CLAMP, only with RESET_N low. -/
  | jtagClamp
  /-- BYPASS (R585): JTAG BYPASS, also taken by unrecognised instructions. `ir` is the instruction register's value. -/
  | jtagBypass (ir : Nat)
  /-- COMPARATOR_RESOLVES (R421): A window comparator's input passes beyond its hysteresis band, so the comparator
      resolves or flips without changing the window output, and its UNRESOLVED flag or state bit changes. `w` is the
      window, `k` its comparator, `v` the level at its input in nV. -/
  | comparatorResolves (w k : Nat) (v : Int)
  /-- RESULT_PATH_TAKEN (R335): The super's result path, once free and with a hash engine available, takes a closed
      result record and hands it to the subscribed result streams, releasing the waiting CLOSE. `c` is the cell. -/
  | resultPathTaken (c : Nat)
  /-- TAP_RESET (R586): The JTAG TAP is reset, which ends a held EXTEST-class instruction so that the next rise of
      RESET_N begins START. -/
  | jtagTapReset
  /-- DOMAIN_START_UP_TIMER (R521): When the safelight oscillator has not started within 2 ms of power-on, the
      domain's own start-up timer expires and leaves FAULT_N asserted with no reason code. -/
  | domainStartUpTimer
  deriving DecidableEq, Repr

end Sys2Proof
end

