-- ==== Sys2Proof/Decode.lean ====
section
/-! DEFINITION. The block has no instruction decoder of its own, and no row of spec/opcode_table.json gives bits or fields:
no word spells a command (notes/assumptions/2.md). The words of a cell program are decoded in Machine/Operands.lean and
Machine/Comb.lean, where the cell executes them. -/

namespace Sys2Proof

/-- The command that the `nbits` bits of `w` spell under the bits of the table's rows. No row has bits, so no word does. -/
def decodeTableWord (_nbits _w : Nat) : Option Instr := none

end Sys2Proof
end

