-- ==== Sys2Proof/Machine/Bits.lean ====
section
/-! DEFINITION. Bit fields, two's complement, byte order and the small arithmetic that the chapters share. -/

namespace Sys2Proof.Machine

/-- The `w` bits of `v` from bit `lo` on (a bit range as R5 writes it). -/
def bits (v lo w : Nat) : Nat := (v >>> lo) % 2 ^ w

/-- Bit `i` of `v`. -/
def bit (v i : Nat) : Bool := v.testBit i

/-- 1 for true, 0 for false. -/
def b2n (b : Bool) : Nat := if b then 1 else 0

/-- Two's complement reading of the low `w` bits of `v` (R10). -/
def toSigned (w v : Nat) : Int :=
  let u := v % 2 ^ w
  if u < 2 ^ (w - 1) then (u : Int) else (u : Int) - 2 ^ w

/-- Two's complement writing of `i` in `w` bits (R10). -/
def ofSigned (w : Nat) (i : Int) : Nat := (i % (2 ^ w : Int)).toNat

/-- `x` confined to `lo ≤ x ≤ hi`. -/
def clampI (lo hi x : Int) : Int := if x < lo then lo else if hi < x then hi else x

/-- Saturation to signed `w` bits. -/
def satS (w : Nat) (x : Int) : Int := clampI (-(2 ^ (w - 1))) (2 ^ (w - 1) - 1) x

/-- `x` lies within signed `w` bits. -/
def fitsS (w : Nat) (x : Int) : Bool := -(2 ^ (w - 1)) ≤ x && x ≤ 2 ^ (w - 1) - 1

/-- Arithmetic shift right by `n`, toward minus infinity. -/
def asrI (x : Int) (n : Nat) : Int := Int.fdiv x (2 ^ n)

/-- `x / 2^n` rounded to nearest, ties away from zero. -/
def roundShiftAway (x : Int) (n : Nat) : Int :=
  if n = 0 then x
  else if 0 ≤ x then Int.fdiv (x + 2 ^ (n - 1)) (2 ^ n) else -(Int.fdiv (-x + 2 ^ (n - 1)) (2 ^ n))

/-- `x / 2^n` rounded to nearest, ties to even. -/
def roundShiftEven (x : Int) (n : Nat) : Int :=
  if n = 0 then x
  else
    let q := Int.fdiv x (2 ^ n)
    let r := x - q * 2 ^ n
    let h : Int := 2 ^ (n - 1)
    if r < h then q else if h < r then q + 1 else if q % 2 = 0 then q else q + 1

/-- `a / b` rounded to nearest, ties away from zero (`b` positive). -/
def divRound (a b : Int) : Int :=
  if b ≤ 0 then 0
  else if 0 ≤ a then Int.fdiv (2 * a + b) (2 * b) else -(Int.fdiv (-2 * a + b) (2 * b))

/-- `a / b` rounded to nearest, ties to even (`b` positive). -/
def divHalfEven (a b : Int) : Int :=
  if b ≤ 0 then 0
  else
    let q := Int.fdiv a b
    let r := a - q * b
    if 2 * r < b then q else if b < 2 * r then q + 1 else if q % 2 = 0 then q else q + 1

/-- The number rounded up: `⌈a / b⌉`. -/
def ceilDiv (a b : Nat) : Nat := if b = 0 then 0 else (a + b - 1) / b

/-- The `n` bytes of `v`, least significant first (R10). -/
def leBytes : Nat → Nat → List Nat
  | 0, _ => []
  | n + 1, v => v % 256 :: leBytes n (v / 256)

/-- The number whose bytes, least significant first, are given (R10). -/
def ofLe : List Nat → Nat
  | [] => 0
  | b :: bs => b % 256 + 256 * ofLe bs

/-- The bytes at `[off, off + n)` of a byte string, missing ones read as 0. -/
def slice (bs : List Nat) (off n : Nat) : List Nat :=
  let t := (bs.drop off).take n
  t ++ List.replicate (n - t.length) 0

/-- The little-endian number of `n` bytes at `off`. -/
def le (bs : List Nat) (off n : Nat) : Nat := ofLe (slice bs off n)

/-- Every byte of `[off, off + n)` is 0. -/
def zeroAt (bs : List Nat) (off n : Nat) : Bool := (slice bs off n).all (· == 0)

/-- `a` is newer than `b` as a 32-bit serial number (R587). -/
def newer (a b : Nat) : Bool :=
  let d := (a + 2 ^ 32 - b % 2 ^ 32) % 2 ^ 32
  1 ≤ d && d ≤ 2 ^ 31 - 1

/-- A saturating count: one more, held at `2^w - 1`. -/
def satInc (w v n : Nat) : Nat := min (v + n) (2 ^ w - 1)

/-- The ASCII bytes of a label (R391). -/
def ascii (s : String) : List Nat := s.toList.map Char.toNat

/-- The largest `r` with `r * r ≤ n`, by bisection over `fuel` bits. -/
def isqrtAux : Nat → Nat → Nat → Nat
  | 0, _, r => r
  | f + 1, n, r => let c := r + 2 ^ f; isqrtAux f n (if c * c ≤ n then c else r)

/-- Integer square root of a number below `2^128`. -/
def isqrt (n : Nat) : Nat := isqrtAux 64 n 0

/-- Number of one bits among the low `w`. -/
def popcount : Nat → Nat → Nat
  | 0, _ => 0
  | w + 1, v => v % 2 + popcount w (v / 2)

/-- The positions of the one bits among the low `w`, lowest first. -/
def onesOf (w v : Nat) : List Nat := (List.range w).filter (fun i => v.testBit i)

end Sys2Proof.Machine
end

