-- ==== Sys2Proof/Machine/Sha256.lean ====
section
/-! DEFINITION. SHA-256 and HMAC-SHA-256 over lists of bytes, as the digests of R236, R474, R492 and the macs of R391
and R556 use them, and the Merkle tree hash of RFC 9162 that R476 names. -/

namespace Sys2Proof.Machine.Sha256

/-- The `n` words of 32 bits that `x` packs, the first in the highest bits. -/
def unpack : Nat → Nat → List Nat
  | 0, _ => []
  | n + 1, x => x >>> (32 * n) % 2 ^ 32 :: unpack n x

/-- The 64 round constants, eight to a number, as `unpack` reads them. -/
def kPacked : List Nat := [
  0x428a2f9871374491b5c0fbcfe9b5dba53956c25b59f111f1923f82a4ab1c5ed5,
  0xd807aa9812835b01243185be550c7dc372be5d7480deb1fe9bdc06a7c19bf174,
  0xe49b69c1efbe47860fc19dc6240ca1cc2de92c6f4a7484aa5cb0a9dc76f988da,
  0x983e5152a831c66db00327c8bf597fc7c6e00bf3d5a7914706ca635114292967,
  0x27b70a852e1b21384d2c6dfc53380d13650a7354766a0abb81c2c92e92722c85,
  0xa2bfe8a1a81a664bc24b8b70c76c51a3d192e819d6990624f40e3585106aa070,
  0x19a4c1161e376c082748774c34b0bcb5391c0cb34ed8aa4a5b9cca4f682e6ff3,
  0x748f82ee78a5636f84c878148cc7020890befffaa4506cebbef9a3f7c67178f2]

/-- All round constants. -/
def k : List Nat := (kPacked.map (unpack 8)).flatten

/-- The initial hash value. -/
def init : List Nat := unpack 8 0x6a09e667bb67ae853c6ef372a54ff53a510e527f9b05688c1f83d9ab5be0cd19

/-- Rotation of a 32-bit word right by `n`. -/
def rotr (x n : Nat) : Nat := ((x >>> n) ||| (x <<< (32 - n))) % 2 ^ 32

/-- The schedule function σ0. -/
def s0 (x : Nat) : Nat := rotr x 7 ^^^ rotr x 18 ^^^ (x >>> 3)

/-- The schedule function σ1. -/
def s1 (x : Nat) : Nat := rotr x 17 ^^^ rotr x 19 ^^^ (x >>> 10)

/-- One round on the eight working words with the word `w` and the constant `c`. -/
def round (h : List Nat) (c w : Nat) : List Nat :=
  match h with
  | [a, b, cc, d, e, f, g, hh] =>
    let t1 := hh + (rotr e 6 ^^^ rotr e 11 ^^^ rotr e 25) + ((e &&& f) ^^^ ((2 ^ 32 - 1 - e) &&& g)) + c + w
    let t2 := (rotr a 2 ^^^ rotr a 13 ^^^ rotr a 22) + ((a &&& b) ^^^ (a &&& cc) ^^^ (b &&& cc))
    [(t1 + t2) % 2 ^ 32, a, b, cc, (d + t1) % 2 ^ 32, e, f, g]
  | _ => h

/-- The rounds over the constants left, with the sliding window of the sixteen schedule words. -/
def rounds : List Nat → List Nat → List Nat → List Nat
  | [], _, h => h
  | c :: cs, win, h =>
    let w := win.headD 0
    let nw := (s1 (win.getD 14 0) + win.getD 9 0 + s0 (win.getD 1 0) + w) % 2 ^ 32
    rounds cs (win.drop 1 ++ [nw]) (round h c w)

/-- The big-endian number of bytes. -/
def be : List Nat → Nat := List.foldl (fun a b => a * 256 + b % 256) 0

/-- The `n` bytes of `v`, most significant first. -/
def beBytes (n v : Nat) : List Nat := (leBytes n v).reverse

/-- The `n` words at the front of `bs`, big-endian. -/
def words : Nat → List Nat → List Nat
  | 0, _ => []
  | n + 1, bs => be (bs.take 4) :: words n (bs.drop 4)

/-- The hash value after the `n` blocks at the front of the padded message. -/
def blocks : Nat → List Nat → List Nat → List Nat
  | 0, _, h => h
  | n + 1, bs, h =>
    let h' := rounds k (words 16 (bs.take 64)) h
    blocks n (bs.drop 64) (List.zipWith (fun a b => (a + b) % 2 ^ 32) h h')

/-- The message padded to whole blocks. -/
def pad (bs : List Nat) : List Nat :=
  let l := bs.length
  let z := (119 - l % 64) % 64
  bs ++ [0x80] ++ List.replicate z 0 ++ beBytes 8 (8 * l)

end Sys2Proof.Machine.Sha256

namespace Sys2Proof.Machine

/-- SHA-256 of a byte string, as 32 bytes. -/
def sha256 (bs : List Nat) : List Nat :=
  let p := Sha256.pad bs
  ((Sha256.blocks (p.length / 64) p Sha256.init).map (Sha256.beBytes 4)).flatten

/-- HMAC-SHA-256 under a key of at most 64 bytes. -/
def hmac (key msg : List Nat) : List Nat :=
  let k := key ++ List.replicate (64 - key.length) 0
  sha256 (k.map (· ^^^ 0x5c) ++ sha256 (k.map (· ^^^ 0x36) ++ msg))

/-- The largest power of two below `n`, by doubling `p`. -/
def splitPoint : Nat → Nat → Nat → Nat
  | 0, _, p => p
  | f + 1, n, p => if 2 * p < n then splitPoint f n (2 * p) else p

/-- The Merkle tree hash of RFC 9162, section 2.1.1, over leaf inputs in index order (R476). -/
def merkle : Nat → List (List Nat) → List Nat
  | 0, _ => sha256 []
  | f + 1, ls => match ls with
    | [] => sha256 []
    | [l] => sha256 (0 :: l)
    | _ =>
      let p := splitPoint 64 ls.length 1
      sha256 (1 :: (merkle f (ls.take p) ++ merkle f (ls.drop p)))

end Sys2Proof.Machine
end

