-- ==== Sys2Proof/Config.lean ====
section
/-! DEFINITION. What one part fixes and the spec does not state, and the free values: constants with no body, so that
no proof can see what they are. Each is named in the assumption log. -/

namespace Sys2Proof.Config

/-- Draw number `i` of the device's random source, as a natural number the user cuts to its width
(nonces of R390 and R556, the provisional ID of R551). Free: notes/assumptions/8.md. -/
opaque freeDraw : Nat → Nat

/-- A value the spec leaves open after an instruction that goes on; `tag` names the place, `i` the occasion.
Free: notes/assumptions/8.md. -/
opaque freeValue : (tag i : Nat) → Nat

/-- The SLH-DSA signature of the identity key over a message, as bytes; the spec gives its length and not its
value (R471, R477). Free: notes/assumptions/9.md. -/
opaque identitySign : (message : List Nat) → List Nat

/-- The factory constant of the marker input's delay field (R159). Its value is not stated:
notes/assumptions/10.md. -/
opaque markerDelay : Nat

/-- The reset value the model gives the delay field of stamp input 64 (DESIGN CHOICE 0, notes/assumptions/10.md). -/
def markerDelayReset : Nat := 0

end Sys2Proof.Config
end

