-- ==== Sys2Proof/Machine/SMap.lean ====
section
/-! DEFINITION. Sparse maps in one canonical form: pairs in strictly rising key order, no entry equal to what an
unlisted key reads as. Register file and word memories are such maps of numbers, byte memories of bytes. -/

namespace Sys2Proof.Machine

/-- A sparse map from numbers. -/
abbrev SMap (α : Type) := List (Nat × α)

/-- What key `k` holds; an unlisted key holds `d`. -/
def SMap.get {α : Type} (d : α) : SMap α → Nat → α
  | [], _ => d
  | (j, v) :: m, k => if j = k then v else SMap.get d m k

/-- `m` without key `k`. -/
def SMap.erase {α : Type} : SMap α → Nat → SMap α
  | [], _ => []
  | (j, v) :: m, k => if j = k then SMap.erase m k else (j, v) :: SMap.erase m k

/-- `v` at key `k` of a map that does not list it, before the first larger key. -/
def SMap.insert {α : Type} : SMap α → Nat → α → SMap α
  | [], k, v => [(k, v)]
  | (j, w) :: m, k, v => if k < j then (k, v) :: (j, w) :: m else (j, w) :: SMap.insert m k v

/-- `m` with `v` at key `k`, in canonical form again: the value an unlisted key holds is not listed. -/
def SMap.set {α : Type} [DecidableEq α] (d : α) (m : SMap α) (k : Nat) (v : α) : SMap α :=
  if v = d then SMap.erase m k else SMap.insert (SMap.erase m k) k v

/-- All keys of `m` lie above `lo`, rise strictly, and no value is the default. -/
def SMap.wfFrom {α : Type} [DecidableEq α] (d : α) : Nat → SMap α → Bool
  | _, [] => true
  | lo, (j, v) :: m => decide (lo ≤ j) && decide (v ≠ d) && SMap.wfFrom d (j + 1) m

/-- The canonical form. -/
def SMap.wf {α : Type} [DecidableEq α] (d : α) (m : SMap α) : Bool := SMap.wfFrom d 0 m

/-- A byte memory: listed addresses hold their byte. -/
abbrev Memory := SMap Byte

/-- The canonical form of a byte memory whose unlisted addresses read as `d`. -/
def Memory.wf (d : Byte) (m : Memory) : Bool := SMap.wf d m

/-- One byte of a memory. -/
def Memory.byte (d : Byte) (m : Memory) (a : Nat) : Nat := (SMap.get d m a).toNat

/-- Writes one byte. -/
def Memory.setByte (d : Byte) (m : Memory) (a v : Nat) : Memory := SMap.set d m a (BitVec.ofNat 8 v)

/-- Writes bytes from address `a` on. -/
def Memory.write (d : Byte) : Memory → Nat → List Nat → Memory
  | m, _, [] => m
  | m, a, b :: bs => Memory.write d (Memory.setByte d m a b) (a + 1) bs

/-- The `n` bytes from address `a` on. -/
def Memory.read (d : Byte) (m : Memory) (a n : Nat) : List Nat :=
  (List.range n).map (fun i => Memory.byte d m (a + i))

end Sys2Proof.Machine
end

