-- ==== Sys2Proof/Machine/Fld.lean ====
section
/-! DEFINITION. What a register field is: address, lowest bit, width, reset value and access code (R8, R9, R11). -/

namespace Sys2Proof.Machine

/-- The access codes of R11. -/
inductive Access where
  | ro | rw | wo | w1c | rws | rwl | rwi | rwm
  deriving DecidableEq, Repr

/-- One field of one register. -/
structure Fld where
  addr : Nat
  lo : Nat
  width : Nat
  reset : Nat
  access : Access
  deriving DecidableEq, Repr

/-- The place of a field in the register file: no two fields share one. -/
def Fld.key (f : Fld) : Nat := f.addr * 32 + f.lo

/-- A register, or a run of like registers: first address, stride and count, a second stride and count where each
replica holds a run of its own, and the fields of replica `n`, `k`. -/
structure Reg where
  base : Nat
  stride : Nat
  count : Nat
  stride2 : Nat
  count2 : Nat
  fields : Nat → Nat → List Fld
  /-- For a W1C field, the fields that clear with it (R542). -/
  clears : Nat → Nat → List (Fld × List Fld)

/-- The fields of the register at address `a`, if this entry holds it. -/
def Reg.at (r : Reg) (a : Nat) : Option (List Fld) :=
  if a < r.base then none
  else
    let d := a - r.base
    let n := if r.stride = 0 then 0 else d / r.stride
    let e := if r.stride = 0 then d else d % r.stride
    let k := if r.stride2 = 0 then 0 else e / r.stride2
    let e' := if r.stride2 = 0 then e else e % r.stride2
    if n < r.count ∧ k < r.count2 ∧ e' = 0 then some (r.fields n k) else none

/-- The fields of the register at `a` among `rs`; none where `a` holds no register. -/
def fieldsIn (a : Nat) : List Reg → Option (List Fld)
  | [] => none
  | r :: rs => match r.at a with
    | some fs => some fs
    | none => fieldsIn a rs

end Sys2Proof.Machine
end

