-- ==== Sys2Proof/Machine/RegsAcq.lean ====
section
/-! DEFINITION. The registers of the blocks TRG, CAP, FIL, ACC: every field of the field tables of spec/,
with its address, lowest bit, width, reset value and access code, and the list of registers of each block.
A field of a replicated register takes the replica (and for a slice register also the slice) as argument. -/

namespace Sys2Proof.Machine

/-! Block TRG -/

/-- `TRG.OUTk_CTL.SOURCE`, bits [2:0], R212 of 06_trigger.md. -/
def TRG.OUTk_CTL.SOURCE (n : Nat) : Fld := ⟨0x2800 + 0x4 * n, 0, 3, 0, .rw⟩

/-- `TRG.OUTk_CTL.INDEX`, bits [12:8], R212 of 06_trigger.md. -/
def TRG.OUTk_CTL.INDEX (n : Nat) : Fld := ⟨0x2800 + 0x4 * n, 8, 5, 0, .rw⟩

/-- `TRG.OUTk_CTL.INVERT`, bits [13:13], R212 of 06_trigger.md. -/
def TRG.OUTk_CTL.INVERT (n : Nat) : Fld := ⟨0x2800 + 0x4 * n, 13, 1, 0, .rw⟩

/-- `TRG.OUTk_CTL.WIDTH`, bits [23:16], R212 of 06_trigger.md. -/
def TRG.OUTk_CTL.WIDTH (n : Nat) : Fld := ⟨0x2800 + 0x4 * n, 16, 8, 0xa, .rw⟩

/-- `TRG.OUTk_STATUS.PULSES`, bits [30:0], R212 of 06_trigger.md. -/
def TRG.OUTk_STATUS.PULSES (n : Nat) : Fld := ⟨0x2810 + 0x4 * n, 0, 31, 0, .ro⟩

/-- `TRG.OUTk_STATUS.SAT`, bits [31:31], R212 of 06_trigger.md. -/
def TRG.OUTk_STATUS.SAT (n : Nat) : Fld := ⟨0x2810 + 0x4 * n, 31, 1, 0, .w1c⟩

/-- `TRG.CURVE_CTL.LEARN`, bits [0:0], R212 of 06_trigger.md. -/
def TRG.CURVE_CTL.LEARN : Fld := ⟨0x2820, 0, 1, 0, .rwi⟩

/-- `TRG.CURVE_CTL.CHANNEL`, bits [6:4], R212 of 06_trigger.md. -/
def TRG.CURVE_CTL.CHANNEL : Fld := ⟨0x2820, 4, 3, 0, .rwi⟩

/-- `TRG.CURVE_STATUS.COLLECTED`, bits [22:0], R212 of 06_trigger.md. -/
def TRG.CURVE_STATUS.COLLECTED : Fld := ⟨0x2824, 0, 23, 0, .ro⟩

/-- `TRG.CURVE_STATUS.STATUS`, bits [25:24], R212 of 06_trigger.md. -/
def TRG.CURVE_STATUS.STATUS : Fld := ⟨0x2824, 24, 2, 0, .ro⟩

/-- `TRG.CURVE_STATUS.REJECTS`, bits [31:28], R212 of 06_trigger.md. -/
def TRG.CURVE_STATUS.REJECTS : Fld := ⟨0x2824, 28, 4, 0, .ro⟩

/-- `TRG.CHn_DET.TYPE`, bits [2:0], R214 of 06_trigger.md. -/
def TRG.CHn_DET.TYPE (n : Nat) : Fld := ⟨0x2880 + 0x40 * n, 0, 3, 1, .rwl⟩

/-- `TRG.CHn_DET.POL`, bits [5:4], R214 of 06_trigger.md. -/
def TRG.CHn_DET.POL (n : Nat) : Fld := ⟨0x2880 + 0x40 * n, 4, 2, 0, .rwl⟩

/-- `TRG.CHn_DET.COND`, bits [9:8], R214 of 06_trigger.md. -/
def TRG.CHn_DET.COND (n : Nat) : Fld := ⟨0x2880 + 0x40 * n, 8, 2, 0, .rwl⟩

/-- `TRG.CHn_LEVEL.A`, bits [15:0], R214 of 06_trigger.md. -/
def TRG.CHn_LEVEL.A (n : Nat) : Fld := ⟨0x2884 + 0x40 * n, 0, 16, 0, .rws⟩

/-- `TRG.CHn_LEVEL.B`, bits [31:16], R214 of 06_trigger.md. -/
def TRG.CHn_LEVEL.B (n : Nat) : Fld := ⟨0x2884 + 0x40 * n, 16, 16, 0, .rws⟩

/-- `TRG.CHn_HYST.HA`, bits [7:0], R214 of 06_trigger.md. -/
def TRG.CHn_HYST.HA (n : Nat) : Fld := ⟨0x2888 + 0x40 * n, 0, 8, 4, .rws⟩

/-- `TRG.CHn_HYST.HB`, bits [15:8], R214 of 06_trigger.md. -/
def TRG.CHn_HYST.HB (n : Nat) : Fld := ⟨0x2888 + 0x40 * n, 8, 8, 4, .rws⟩

/-- `TRG.CHn_T1.SAMPLES`, bits [31:0], R214 of 06_trigger.md. -/
def TRG.CHn_T1.SAMPLES (n : Nat) : Fld := ⟨0x288c + 0x40 * n, 0, 32, 0x10, .rws⟩

/-- `TRG.CHn_T2.SAMPLES`, bits [31:0], R214 of 06_trigger.md. -/
def TRG.CHn_T2.SAMPLES (n : Nat) : Fld := ⟨0x2890 + 0x40 * n, 0, 32, 0x100, .rws⟩

/-- `TRG.CHn_SEQ.MODE`, bits [0:0], R214 of 06_trigger.md. -/
def TRG.CHn_SEQ.MODE (n : Nat) : Fld := ⟨0x2894 + 0x40 * n, 0, 1, 0, .rwl⟩

/-- `TRG.CHn_SEQ.TABLE`, bits [12:8], R214 of 06_trigger.md. -/
def TRG.CHn_SEQ.TABLE (n : Nat) : Fld := ⟨0x2894 + 0x40 * n, 8, 5, 0, .rwl⟩

/-- `TRG.CHn_HOLD.KIND`, bits [1:0], R214 of 06_trigger.md. -/
def TRG.CHn_HOLD.KIND (n : Nat) : Fld := ⟨0x2898 + 0x40 * n, 0, 2, 0, .rws⟩

/-- `TRG.CHn_HOLD_TIME_LO.TICKS`, bits [31:0], R214 of 06_trigger.md. -/
def TRG.CHn_HOLD_TIME_LO.TICKS (n : Nat) : Fld := ⟨0x289c + 0x40 * n, 0, 32, 0, .rws⟩

/-- `TRG.CHn_HOLD_TIME_HI.TICKS`, bits [15:0], R214 of 06_trigger.md. -/
def TRG.CHn_HOLD_TIME_HI.TICKS (n : Nat) : Fld := ⟨0x28a0 + 0x40 * n, 0, 16, 0, .rws⟩

/-- `TRG.CHn_HOLD_COUNT.COUNT`, bits [31:0], R214 of 06_trigger.md. -/
def TRG.CHn_HOLD_COUNT.COUNT (n : Nat) : Fld := ⟨0x28a4 + 0x40 * n, 0, 32, 0, .rws⟩

/-- `TRG.CHn_CTL.COMMIT`, bits [0:0], R214 of 06_trigger.md. -/
def TRG.CHn_CTL.COMMIT (n : Nat) : Fld := ⟨0x28a8 + 0x40 * n, 0, 1, 0, .wo⟩

/-- `TRG.CHn_CTL.REARM`, bits [1:1], R214 of 06_trigger.md. -/
def TRG.CHn_CTL.REARM (n : Nat) : Fld := ⟨0x28a8 + 0x40 * n, 1, 1, 0, .wo⟩

/-- `TRG.CHn_CTL.FORCE`, bits [2:2], R214 of 06_trigger.md. -/
def TRG.CHn_CTL.FORCE (n : Nat) : Fld := ⟨0x28a8 + 0x40 * n, 2, 1, 0, .wo⟩

/-- `TRG.CHn_CTL.CMD`, bits [3:3], R214 of 06_trigger.md. -/
def TRG.CHn_CTL.CMD (n : Nat) : Fld := ⟨0x28a8 + 0x40 * n, 3, 1, 0, .wo⟩

/-- `TRG.CHn_STATUS.STATE`, bits [3:0], R214 of 06_trigger.md. -/
def TRG.CHn_STATUS.STATE (n : Nat) : Fld := ⟨0x28ac + 0x40 * n, 0, 4, 0, .ro⟩

/-- `TRG.CHn_STATUS.HOLDOFF`, bits [4:4], R214 of 06_trigger.md. -/
def TRG.CHn_STATUS.HOLDOFF (n : Nat) : Fld := ⟨0x28ac + 0x40 * n, 4, 1, 0, .ro⟩

/-- `TRG.CHn_STATUS.PENDING`, bits [5:5], R214 of 06_trigger.md. -/
def TRG.CHn_STATUS.PENDING (n : Nat) : Fld := ⟨0x28ac + 0x40 * n, 5, 1, 0, .ro⟩

/-- `TRG.CHn_STATUS.PHI`, bits [22:6], R214 of 06_trigger.md. -/
def TRG.CHn_STATUS.PHI (n : Nat) : Fld := ⟨0x28ac + 0x40 * n, 6, 17, 0, .ro⟩

/-- `TRG.CHn_STATUS.FALLBACK`, bits [23:23], R214 of 06_trigger.md. -/
def TRG.CHn_STATUS.FALLBACK (n : Nat) : Fld := ⟨0x28ac + 0x40 * n, 23, 1, 0, .ro⟩

/-- `TRG.CHn_STATUS.LAST_SOURCE`, bits [31:24], R214 of 06_trigger.md. -/
def TRG.CHn_STATUS.LAST_SOURCE (n : Nat) : Fld := ⟨0x28ac + 0x40 * n, 24, 8, 0xff, .ro⟩

/-- `TRG.CHn_COUNT.COUNT`, bits [31:0], R214 of 06_trigger.md. -/
def TRG.CHn_COUNT.COUNT (n : Nat) : Fld := ⟨0x28b0 + 0x40 * n, 0, 32, 0, .ro⟩

/-- `TRG.CHn_MISSED.COUNT`, bits [30:0], R214 of 06_trigger.md. -/
def TRG.CHn_MISSED.COUNT (n : Nat) : Fld := ⟨0x28b4 + 0x40 * n, 0, 31, 0, .ro⟩

/-- `TRG.CHn_MISSED.SAT`, bits [31:31], R214 of 06_trigger.md. -/
def TRG.CHn_MISSED.SAT (n : Nat) : Fld := ⟨0x28b4 + 0x40 * n, 31, 1, 0, .w1c⟩

/-- `TRG.CHn_HELD.COUNT`, bits [30:0], R214 of 06_trigger.md. -/
def TRG.CHn_HELD.COUNT (n : Nat) : Fld := ⟨0x28b8 + 0x40 * n, 0, 31, 0, .ro⟩

/-- `TRG.CHn_HELD.SAT`, bits [31:31], R214 of 06_trigger.md. -/
def TRG.CHn_HELD.SAT (n : Nat) : Fld := ⟨0x28b8 + 0x40 * n, 31, 1, 0, .w1c⟩

/-- `TRG.CHn_MERGED.COUNT`, bits [30:0], R214 of 06_trigger.md. -/
def TRG.CHn_MERGED.COUNT (n : Nat) : Fld := ⟨0x28bc + 0x40 * n, 0, 31, 0, .ro⟩

/-- `TRG.CHn_MERGED.SAT`, bits [31:31], R214 of 06_trigger.md. -/
def TRG.CHn_MERGED.SAT (n : Nat) : Fld := ⟨0x28bc + 0x40 * n, 31, 1, 0, .w1c⟩

/-- The registers of block TRG. -/
def TRG.regs : List Reg := [
  ⟨0x2800, 0x4, 4, 0, 1, fun n _ => [TRG.OUTk_CTL.SOURCE n, TRG.OUTk_CTL.INDEX n, TRG.OUTk_CTL.INVERT n, TRG.OUTk_CTL.WIDTH n],
    fun _ _ => []⟩,
  ⟨0x2810, 0x4, 4, 0, 1, fun n _ => [TRG.OUTk_STATUS.PULSES n, TRG.OUTk_STATUS.SAT n],
    fun n _ => [(TRG.OUTk_STATUS.SAT n, [TRG.OUTk_STATUS.PULSES n])]⟩,
  ⟨0x2820, 0x0, 1, 0, 1, fun _ _ => [TRG.CURVE_CTL.LEARN, TRG.CURVE_CTL.CHANNEL],
    fun _ _ => []⟩,
  ⟨0x2824, 0x0, 1, 0, 1, fun _ _ => [TRG.CURVE_STATUS.COLLECTED, TRG.CURVE_STATUS.STATUS, TRG.CURVE_STATUS.REJECTS],
    fun _ _ => []⟩,
  ⟨0x2880, 0x40, 8, 0, 1, fun n _ => [TRG.CHn_DET.TYPE n, TRG.CHn_DET.POL n, TRG.CHn_DET.COND n],
    fun _ _ => []⟩,
  ⟨0x2884, 0x40, 8, 0, 1, fun n _ => [TRG.CHn_LEVEL.A n, TRG.CHn_LEVEL.B n],
    fun _ _ => []⟩,
  ⟨0x2888, 0x40, 8, 0, 1, fun n _ => [TRG.CHn_HYST.HA n, TRG.CHn_HYST.HB n],
    fun _ _ => []⟩,
  ⟨0x288c, 0x40, 8, 0, 1, fun n _ => [TRG.CHn_T1.SAMPLES n],
    fun _ _ => []⟩,
  ⟨0x2890, 0x40, 8, 0, 1, fun n _ => [TRG.CHn_T2.SAMPLES n],
    fun _ _ => []⟩,
  ⟨0x2894, 0x40, 8, 0, 1, fun n _ => [TRG.CHn_SEQ.MODE n, TRG.CHn_SEQ.TABLE n],
    fun _ _ => []⟩,
  ⟨0x2898, 0x40, 8, 0, 1, fun n _ => [TRG.CHn_HOLD.KIND n],
    fun _ _ => []⟩,
  ⟨0x289c, 0x40, 8, 0, 1, fun n _ => [TRG.CHn_HOLD_TIME_LO.TICKS n],
    fun _ _ => []⟩,
  ⟨0x28a0, 0x40, 8, 0, 1, fun n _ => [TRG.CHn_HOLD_TIME_HI.TICKS n],
    fun _ _ => []⟩,
  ⟨0x28a4, 0x40, 8, 0, 1, fun n _ => [TRG.CHn_HOLD_COUNT.COUNT n],
    fun _ _ => []⟩,
  ⟨0x28a8, 0x40, 8, 0, 1, fun n _ => [TRG.CHn_CTL.COMMIT n, TRG.CHn_CTL.REARM n, TRG.CHn_CTL.FORCE n, TRG.CHn_CTL.CMD n],
    fun _ _ => []⟩,
  ⟨0x28ac, 0x40, 8, 0, 1, fun n _ => [TRG.CHn_STATUS.STATE n, TRG.CHn_STATUS.HOLDOFF n, TRG.CHn_STATUS.PENDING n, TRG.CHn_STATUS.PHI n, TRG.CHn_STATUS.FALLBACK n, TRG.CHn_STATUS.LAST_SOURCE n],
    fun _ _ => []⟩,
  ⟨0x28b0, 0x40, 8, 0, 1, fun n _ => [TRG.CHn_COUNT.COUNT n],
    fun _ _ => []⟩,
  ⟨0x28b4, 0x40, 8, 0, 1, fun n _ => [TRG.CHn_MISSED.COUNT n, TRG.CHn_MISSED.SAT n],
    fun n _ => [(TRG.CHn_MISSED.SAT n, [TRG.CHn_MISSED.COUNT n])]⟩,
  ⟨0x28b8, 0x40, 8, 0, 1, fun n _ => [TRG.CHn_HELD.COUNT n, TRG.CHn_HELD.SAT n],
    fun n _ => [(TRG.CHn_HELD.SAT n, [TRG.CHn_HELD.COUNT n])]⟩,
  ⟨0x28bc, 0x40, 8, 0, 1, fun n _ => [TRG.CHn_MERGED.COUNT n, TRG.CHn_MERGED.SAT n],
    fun n _ => [(TRG.CHn_MERGED.SAT n, [TRG.CHn_MERGED.COUNT n])]⟩]

/-! Block CAP -/

/-- `CAP.CTL.START`, bits [7:0], R246 of 07_capture_memory_and_rolls.md. -/
def CAP.CTL.START : Fld := ⟨0x3000, 0, 8, 0, .wo⟩

/-- `CAP.CTL.STOP`, bits [15:8], R246 of 07_capture_memory_and_rolls.md. -/
def CAP.CTL.STOP : Fld := ⟨0x3000, 8, 8, 0, .wo⟩

/-- `CAP.CTL.ABORT`, bits [16:16], R246 of 07_capture_memory_and_rolls.md. -/
def CAP.CTL.ABORT : Fld := ⟨0x3000, 16, 1, 0, .wo⟩

/-- `CAP.ROLL_CFG.CONTINUOUS`, bits [0:0], R246 of 07_capture_memory_and_rolls.md. -/
def CAP.ROLL_CFG.CONTINUOUS : Fld := ⟨0x3004, 0, 1, 0, .rwl⟩

/-- `CAP.ROLL_CFG.FRAMES`, bits [28:8], R246 of 07_capture_memory_and_rolls.md. -/
def CAP.ROLL_CFG.FRAMES : Fld := ⟨0x3004, 8, 21, 0, .rwl⟩

/-- `CAP.ROLL_STATUS.OPEN`, bits [0:0], R246 of 07_capture_memory_and_rolls.md. -/
def CAP.ROLL_STATUS.OPEN : Fld := ⟨0x3008, 0, 1, 0, .ro⟩

/-- `CAP.ROLL_STATUS.TABLE`, bits [1:1], R246 of 07_capture_memory_and_rolls.md. -/
def CAP.ROLL_STATUS.TABLE : Fld := ⟨0x3008, 1, 1, 0, .ro⟩

/-- `CAP.ROLL_STATUS.WAIT_TABLE`, bits [2:2], R246 of 07_capture_memory_and_rolls.md. -/
def CAP.ROLL_STATUS.WAIT_TABLE : Fld := ⟨0x3008, 2, 1, 0, .ro⟩

/-- `CAP.ROLL_STATUS.WAIT_PAGES`, bits [3:3], R246 of 07_capture_memory_and_rolls.md. -/
def CAP.ROLL_STATUS.WAIT_PAGES : Fld := ⟨0x3008, 3, 1, 0, .ro⟩

/-- `CAP.ROLL_STATUS.LAST_END`, bits [7:4], R246 of 07_capture_memory_and_rolls.md. -/
def CAP.ROLL_STATUS.LAST_END : Fld := ⟨0x3008, 4, 4, 0, .ro⟩

/-- `CAP.ROLL_STATUS.CHANNELS`, bits [15:8], R246 of 07_capture_memory_and_rolls.md. -/
def CAP.ROLL_STATUS.CHANNELS : Fld := ⟨0x3008, 8, 8, 0, .ro⟩

/-- `CAP.ROLL_LO.NUMBER`, bits [31:0], R246 of 07_capture_memory_and_rolls.md. -/
def CAP.ROLL_LO.NUMBER : Fld := ⟨0x300c, 0, 32, 0, .ro⟩

/-- `CAP.ROLL_HI.NUMBER`, bits [15:0], R246 of 07_capture_memory_and_rolls.md. -/
def CAP.ROLL_HI.NUMBER : Fld := ⟨0x3010, 0, 16, 0, .ro⟩

/-- `CAP.FRAMES.COUNT`, bits [20:0], R246 of 07_capture_memory_and_rolls.md. -/
def CAP.FRAMES.COUNT : Fld := ⟨0x3014, 0, 21, 0, .ro⟩

/-- `CAP.POOL.FREE`, bits [12:0], R246 of 07_capture_memory_and_rolls.md. -/
def CAP.POOL.FREE : Fld := ⟨0x3018, 0, 13, 0, .ro⟩

/-- `CAP.POOL.SIZE`, bits [28:16], R246 of 07_capture_memory_and_rolls.md. -/
def CAP.POOL.SIZE : Fld := ⟨0x3018, 16, 13, 0, .ro⟩

/-- `CAP.POOL_WARN.LEVEL`, bits [12:0], R246 of 07_capture_memory_and_rolls.md. -/
def CAP.POOL_WARN.LEVEL : Fld := ⟨0x301c, 0, 13, 0x100, .rw⟩

/-- `CAP.POOL_WARN.LOW_WATER`, bits [28:16], R246 of 07_capture_memory_and_rolls.md. -/
def CAP.POOL_WARN.LOW_WATER : Fld := ⟨0x301c, 16, 13, 0, .ro⟩

/-- `CAP.POOL_WARN.LOW_RESET`, bits [31:31], R246 of 07_capture_memory_and_rolls.md. -/
def CAP.POOL_WARN.LOW_RESET : Fld := ⟨0x301c, 31, 1, 0, .wo⟩

/-- `CAP.Q0.RESERVED`, bits [7:0], R246 of 07_capture_memory_and_rolls.md. -/
def CAP.Q0.RESERVED : Fld := ⟨0x3020, 0, 8, 0, .ro⟩

/-- `CAP.Q0.DEMAND`, bits [19:8], R246 of 07_capture_memory_and_rolls.md. -/
def CAP.Q0.DEMAND : Fld := ⟨0x3020, 8, 12, 0, .ro⟩

/-- `CAP.ECC.COUNT`, bits [30:0], R246 of 07_capture_memory_and_rolls.md. -/
def CAP.ECC.COUNT : Fld := ⟨0x3024, 0, 31, 0, .ro⟩

/-- `CAP.ECC.SAT`, bits [31:31], R246 of 07_capture_memory_and_rolls.md. -/
def CAP.ECC.SAT : Fld := ⟨0x3024, 31, 1, 0, .w1c⟩

/-- `CAP.SCRUB.PASSES`, bits [31:0], R246 of 07_capture_memory_and_rolls.md. -/
def CAP.SCRUB.PASSES : Fld := ⟨0x3028, 0, 32, 0, .ro⟩

/-- `CAP.RELEASE.FRAME`, bits [19:0], R246 of 07_capture_memory_and_rolls.md. -/
def CAP.RELEASE.FRAME : Fld := ⟨0x302c, 0, 20, 0, .wo⟩

/-- `CAP.RELEASE.OTHER`, bits [24:24], R246 of 07_capture_memory_and_rolls.md. -/
def CAP.RELEASE.OTHER : Fld := ⟨0x302c, 24, 1, 0, .wo⟩

/-- `CAP.RELEASE.ALL`, bits [25:25], R246 of 07_capture_memory_and_rolls.md. -/
def CAP.RELEASE.ALL : Fld := ⟨0x302c, 25, 1, 0, .wo⟩

/-- `CAP.REFUSED.CAUSE`, bits [3:0], R246 of 07_capture_memory_and_rolls.md. -/
def CAP.REFUSED.CAUSE : Fld := ⟨0x3030, 0, 4, 0, .ro⟩

/-- `CAP.REGIONS.ACC`, bits [12:0], R246 of 07_capture_memory_and_rolls.md. -/
def CAP.REGIONS.ACC : Fld := ⟨0x3034, 0, 13, 0, .ro⟩

/-- `CAP.REGIONS.STAGING`, bits [28:16], R246 of 07_capture_memory_and_rolls.md. -/
def CAP.REGIONS.STAGING : Fld := ⟨0x3034, 16, 13, 0x40, .ro⟩

/-- `CAP.CHn_CFG.KIND`, bits [0:0], R248 of 07_capture_memory_and_rolls.md. -/
def CAP.CHn_CFG.KIND (n : Nat) : Fld := ⟨0x3100 + 0x40 * n, 0, 1, 0, .rwl⟩

/-- `CAP.CHn_CFG.KEEP`, bits [1:1], R248 of 07_capture_memory_and_rolls.md. -/
def CAP.CHn_CFG.KEEP (n : Nat) : Fld := ⟨0x3100 + 0x40 * n, 1, 1, 1, .rwl⟩

/-- `CAP.CHn_CFG.RETAIN`, bits [2:2], R248 of 07_capture_memory_and_rolls.md. -/
def CAP.CHn_CFG.RETAIN (n : Nat) : Fld := ⟨0x3100 + 0x40 * n, 2, 1, 0, .rwl⟩

/-- `CAP.CHn_CFG.ARCHIVE`, bits [3:3], R248 of 07_capture_memory_and_rolls.md. -/
def CAP.CHn_CFG.ARCHIVE (n : Nat) : Fld := ⟨0x3100 + 0x40 * n, 3, 1, 0, .rwl⟩

/-- `CAP.CHn_CFG.FORMAT`, bits [15:8], R248 of 07_capture_memory_and_rolls.md. -/
def CAP.CHn_CFG.FORMAT (n : Nat) : Fld := ⟨0x3100 + 0x40 * n, 8, 8, 1, .rwl⟩

/-- `CAP.CHn_LEN.SAMPLES`, bits [31:0], R248 of 07_capture_memory_and_rolls.md. -/
def CAP.CHn_LEN.SAMPLES (n : Nat) : Fld := ⟨0x3104 + 0x40 * n, 0, 32, 0x1000, .rwl⟩

/-- `CAP.CHn_PRE.SAMPLES`, bits [17:0], R248 of 07_capture_memory_and_rolls.md. -/
def CAP.CHn_PRE.SAMPLES (n : Nat) : Fld := ⟨0x3108 + 0x40 * n, 0, 18, 0x400, .rwl⟩

/-- `CAP.CHn_STATUS.STATE`, bits [2:0], R248 of 07_capture_memory_and_rolls.md. -/
def CAP.CHn_STATUS.STATE (n : Nat) : Fld := ⟨0x310c + 0x40 * n, 0, 3, 0, .ro⟩

/-- `CAP.CHn_STATUS.IN_ROLL`, bits [3:3], R248 of 07_capture_memory_and_rolls.md. -/
def CAP.CHn_STATUS.IN_ROLL (n : Nat) : Fld := ⟨0x310c + 0x40 * n, 3, 1, 0, .ro⟩

/-- `CAP.CHn_STATUS.OPEN_FRAME`, bits [4:4], R248 of 07_capture_memory_and_rolls.md. -/
def CAP.CHn_STATUS.OPEN_FRAME (n : Nat) : Fld := ⟨0x310c + 0x40 * n, 4, 1, 0, .ro⟩

/-- `CAP.CHn_STATUS.HELD`, bits [20:8], R248 of 07_capture_memory_and_rolls.md. -/
def CAP.CHn_STATUS.HELD (n : Nat) : Fld := ⟨0x310c + 0x40 * n, 8, 13, 0, .ro⟩

/-- `CAP.CHn_FRAMES.COUNT`, bits [20:0], R248 of 07_capture_memory_and_rolls.md. -/
def CAP.CHn_FRAMES.COUNT (n : Nat) : Fld := ⟨0x3110 + 0x40 * n, 0, 21, 0, .ro⟩

/-- `CAP.CHn_TRUNC.COUNT`, bits [30:0], R248 of 07_capture_memory_and_rolls.md. -/
def CAP.CHn_TRUNC.COUNT (n : Nat) : Fld := ⟨0x3114 + 0x40 * n, 0, 31, 0, .ro⟩

/-- `CAP.CHn_TRUNC.SAT`, bits [31:31], R248 of 07_capture_memory_and_rolls.md. -/
def CAP.CHn_TRUNC.SAT (n : Nat) : Fld := ⟨0x3114 + 0x40 * n, 31, 1, 0, .w1c⟩

/-- `CAP.CHn_DEMAND.MBPS`, bits [19:0], R248 of 07_capture_memory_and_rolls.md. -/
def CAP.CHn_DEMAND.MBPS (n : Nat) : Fld := ⟨0x3118 + 0x40 * n, 0, 20, 0, .ro⟩

/-- The registers of block CAP. -/
def CAP.regs : List Reg := [
  ⟨0x3000, 0x0, 1, 0, 1, fun _ _ => [CAP.CTL.START, CAP.CTL.STOP, CAP.CTL.ABORT],
    fun _ _ => []⟩,
  ⟨0x3004, 0x0, 1, 0, 1, fun _ _ => [CAP.ROLL_CFG.CONTINUOUS, CAP.ROLL_CFG.FRAMES],
    fun _ _ => []⟩,
  ⟨0x3008, 0x0, 1, 0, 1, fun _ _ => [CAP.ROLL_STATUS.OPEN, CAP.ROLL_STATUS.TABLE, CAP.ROLL_STATUS.WAIT_TABLE, CAP.ROLL_STATUS.WAIT_PAGES, CAP.ROLL_STATUS.LAST_END, CAP.ROLL_STATUS.CHANNELS],
    fun _ _ => []⟩,
  ⟨0x300c, 0x0, 1, 0, 1, fun _ _ => [CAP.ROLL_LO.NUMBER],
    fun _ _ => []⟩,
  ⟨0x3010, 0x0, 1, 0, 1, fun _ _ => [CAP.ROLL_HI.NUMBER],
    fun _ _ => []⟩,
  ⟨0x3014, 0x0, 1, 0, 1, fun _ _ => [CAP.FRAMES.COUNT],
    fun _ _ => []⟩,
  ⟨0x3018, 0x0, 1, 0, 1, fun _ _ => [CAP.POOL.FREE, CAP.POOL.SIZE],
    fun _ _ => []⟩,
  ⟨0x301c, 0x0, 1, 0, 1, fun _ _ => [CAP.POOL_WARN.LEVEL, CAP.POOL_WARN.LOW_WATER, CAP.POOL_WARN.LOW_RESET],
    fun _ _ => []⟩,
  ⟨0x3020, 0x0, 1, 0, 1, fun _ _ => [CAP.Q0.RESERVED, CAP.Q0.DEMAND],
    fun _ _ => []⟩,
  ⟨0x3024, 0x0, 1, 0, 1, fun _ _ => [CAP.ECC.COUNT, CAP.ECC.SAT],
    fun _ _ => [(CAP.ECC.SAT, [CAP.ECC.COUNT])]⟩,
  ⟨0x3028, 0x0, 1, 0, 1, fun _ _ => [CAP.SCRUB.PASSES],
    fun _ _ => []⟩,
  ⟨0x302c, 0x0, 1, 0, 1, fun _ _ => [CAP.RELEASE.FRAME, CAP.RELEASE.OTHER, CAP.RELEASE.ALL],
    fun _ _ => []⟩,
  ⟨0x3030, 0x0, 1, 0, 1, fun _ _ => [CAP.REFUSED.CAUSE],
    fun _ _ => []⟩,
  ⟨0x3034, 0x0, 1, 0, 1, fun _ _ => [CAP.REGIONS.ACC, CAP.REGIONS.STAGING],
    fun _ _ => []⟩,
  ⟨0x3100, 0x40, 8, 0, 1, fun n _ => [CAP.CHn_CFG.KIND n, CAP.CHn_CFG.KEEP n, CAP.CHn_CFG.RETAIN n, CAP.CHn_CFG.ARCHIVE n, CAP.CHn_CFG.FORMAT n],
    fun _ _ => []⟩,
  ⟨0x3104, 0x40, 8, 0, 1, fun n _ => [CAP.CHn_LEN.SAMPLES n],
    fun _ _ => []⟩,
  ⟨0x3108, 0x40, 8, 0, 1, fun n _ => [CAP.CHn_PRE.SAMPLES n],
    fun _ _ => []⟩,
  ⟨0x310c, 0x40, 8, 0, 1, fun n _ => [CAP.CHn_STATUS.STATE n, CAP.CHn_STATUS.IN_ROLL n, CAP.CHn_STATUS.OPEN_FRAME n, CAP.CHn_STATUS.HELD n],
    fun _ _ => []⟩,
  ⟨0x3110, 0x40, 8, 0, 1, fun n _ => [CAP.CHn_FRAMES.COUNT n],
    fun _ _ => []⟩,
  ⟨0x3114, 0x40, 8, 0, 1, fun n _ => [CAP.CHn_TRUNC.COUNT n, CAP.CHn_TRUNC.SAT n],
    fun n _ => [(CAP.CHn_TRUNC.SAT n, [CAP.CHn_TRUNC.COUNT n])]⟩,
  ⟨0x3118, 0x40, 8, 0, 1, fun n _ => [CAP.CHn_DEMAND.MBPS n],
    fun _ _ => []⟩]

/-! Block FIL -/

/-- `FIL.SETS.COUNT`, bits [6:0], R279 of 08_decimation_and_filters.md. -/
def FIL.SETS.COUNT : Fld := ⟨0x3400, 0, 7, 0, .ro⟩

/-- `FIL.REFUSED.CAUSE`, bits [3:0], R279 of 08_decimation_and_filters.md. -/
def FIL.REFUSED.CAUSE : Fld := ⟨0x3404, 0, 4, 0, .ro⟩

/-- `FIL.REFUSED.CHANNEL`, bits [10:8], R279 of 08_decimation_and_filters.md. -/
def FIL.REFUSED.CHANNEL : Fld := ⟨0x3404, 8, 3, 0, .ro⟩

/-- `FIL.VIEW.SET`, bits [5:0], R279 of 08_decimation_and_filters.md. -/
def FIL.VIEW.SET : Fld := ⟨0x3408, 0, 6, 0, .rw⟩

/-- `FIL.CHn_MODE.MODE`, bits [2:0], R281 of 08_decimation_and_filters.md. -/
def FIL.CHn_MODE.MODE (n : Nat) : Fld := ⟨0x3480 + 0x40 * n, 0, 3, 0, .rwl⟩

/-- `FIL.CHn_MODE.SET`, bits [13:8], R281 of 08_decimation_and_filters.md. -/
def FIL.CHn_MODE.SET (n : Nat) : Fld := ⟨0x3480 + 0x40 * n, 8, 6, 0, .rwl⟩

/-- `FIL.CHn_CIC.ORDER`, bits [2:0], R281 of 08_decimation_and_filters.md. -/
def FIL.CHn_CIC.ORDER (n : Nat) : Fld := ⟨0x3484 + 0x40 * n, 0, 3, 1, .rwl⟩

/-- `FIL.CHn_CIC.SHIFT`, bits [13:8], R281 of 08_decimation_and_filters.md. -/
def FIL.CHn_CIC.SHIFT (n : Nat) : Fld := ⟨0x3484 + 0x40 * n, 8, 6, 0, .rwl⟩

/-- `FIL.CHn_CIC_RATIO.RATIO`, bits [20:0], R281 of 08_decimation_and_filters.md. -/
def FIL.CHn_CIC_RATIO.RATIO (n : Nat) : Fld := ⟨0x3488 + 0x40 * n, 0, 21, 1, .rwl⟩

/-- `FIL.CHn_PEAK.RATIO`, bits [24:0], R281 of 08_decimation_and_filters.md. -/
def FIL.CHn_PEAK.RATIO (n : Nat) : Fld := ⟨0x348c + 0x40 * n, 0, 25, 2, .rwl⟩

/-- `FIL.CHn_RATIO.TOTAL`, bits [28:0], R281 of 08_decimation_and_filters.md. -/
def FIL.CHn_RATIO.TOTAL (n : Nat) : Fld := ⟨0x3490 + 0x40 * n, 0, 29, 1, .ro⟩

/-- `FIL.CHn_DELAY_LO.DELAY`, bits [31:0], R281 of 08_decimation_and_filters.md. -/
def FIL.CHn_DELAY_LO.DELAY (n : Nat) : Fld := ⟨0x3494 + 0x40 * n, 0, 32, 0, .ro⟩

/-- `FIL.CHn_DELAY_HI.DELAY`, bits [23:0], R281 of 08_decimation_and_filters.md. -/
def FIL.CHn_DELAY_HI.DELAY (n : Nat) : Fld := ⟨0x3498 + 0x40 * n, 0, 24, 0, .ro⟩

/-- `FIL.CHn_DELAY_HI.MINPHASE`, bits [31:31], R281 of 08_decimation_and_filters.md. -/
def FIL.CHn_DELAY_HI.MINPHASE (n : Nat) : Fld := ⟨0x3498 + 0x40 * n, 31, 1, 0, .ro⟩

/-- `FIL.CHn_SETTLE.OUTPUTS`, bits [27:0], R281 of 08_decimation_and_filters.md. -/
def FIL.CHn_SETTLE.OUTPUTS (n : Nat) : Fld := ⟨0x349c + 0x40 * n, 0, 28, 0, .ro⟩

/-- `FIL.CHn_GAIN.GAIN`, bits [31:0], R281 of 08_decimation_and_filters.md. -/
def FIL.CHn_GAIN.GAIN (n : Nat) : Fld := ⟨0x34a0 + 0x40 * n, 0, 32, 0x1000000, .ro⟩

/-- `FIL.CHn_STATUS.RUNNING`, bits [0:0], R281 of 08_decimation_and_filters.md. -/
def FIL.CHn_STATUS.RUNNING (n : Nat) : Fld := ⟨0x34a4 + 0x40 * n, 0, 1, 0, .ro⟩

/-- `FIL.CHn_STATUS.SETTLING`, bits [1:1], R281 of 08_decimation_and_filters.md. -/
def FIL.CHn_STATUS.SETTLING (n : Nat) : Fld := ⟨0x34a4 + 0x40 * n, 1, 1, 0, .ro⟩

/-- `FIL.CHn_STATUS.VALID`, bits [2:2], R281 of 08_decimation_and_filters.md. -/
def FIL.CHn_STATUS.VALID (n : Nat) : Fld := ⟨0x34a4 + 0x40 * n, 2, 1, 1, .ro⟩

/-- `FIL.CHn_STATUS.CAUSE`, bits [11:8], R281 of 08_decimation_and_filters.md. -/
def FIL.CHn_STATUS.CAUSE (n : Nat) : Fld := ⟨0x34a4 + 0x40 * n, 8, 4, 0, .ro⟩

/-- `FIL.CHn_SAT.COUNT`, bits [30:0], R281 of 08_decimation_and_filters.md. -/
def FIL.CHn_SAT.COUNT (n : Nat) : Fld := ⟨0x34a8 + 0x40 * n, 0, 31, 0, .ro⟩

/-- `FIL.CHn_SAT.SAT`, bits [31:31], R281 of 08_decimation_and_filters.md. -/
def FIL.CHn_SAT.SAT (n : Nat) : Fld := ⟨0x34a8 + 0x40 * n, 31, 1, 0, .w1c⟩

/-- The registers of block FIL. -/
def FIL.regs : List Reg := [
  ⟨0x3400, 0x0, 1, 0, 1, fun _ _ => [FIL.SETS.COUNT],
    fun _ _ => []⟩,
  ⟨0x3404, 0x0, 1, 0, 1, fun _ _ => [FIL.REFUSED.CAUSE, FIL.REFUSED.CHANNEL],
    fun _ _ => []⟩,
  ⟨0x3408, 0x0, 1, 0, 1, fun _ _ => [FIL.VIEW.SET],
    fun _ _ => []⟩,
  ⟨0x3480, 0x40, 8, 0, 1, fun n _ => [FIL.CHn_MODE.MODE n, FIL.CHn_MODE.SET n],
    fun _ _ => []⟩,
  ⟨0x3484, 0x40, 8, 0, 1, fun n _ => [FIL.CHn_CIC.ORDER n, FIL.CHn_CIC.SHIFT n],
    fun _ _ => []⟩,
  ⟨0x3488, 0x40, 8, 0, 1, fun n _ => [FIL.CHn_CIC_RATIO.RATIO n],
    fun _ _ => []⟩,
  ⟨0x348c, 0x40, 8, 0, 1, fun n _ => [FIL.CHn_PEAK.RATIO n],
    fun _ _ => []⟩,
  ⟨0x3490, 0x40, 8, 0, 1, fun n _ => [FIL.CHn_RATIO.TOTAL n],
    fun _ _ => []⟩,
  ⟨0x3494, 0x40, 8, 0, 1, fun n _ => [FIL.CHn_DELAY_LO.DELAY n],
    fun _ _ => []⟩,
  ⟨0x3498, 0x40, 8, 0, 1, fun n _ => [FIL.CHn_DELAY_HI.DELAY n, FIL.CHn_DELAY_HI.MINPHASE n],
    fun _ _ => []⟩,
  ⟨0x349c, 0x40, 8, 0, 1, fun n _ => [FIL.CHn_SETTLE.OUTPUTS n],
    fun _ _ => []⟩,
  ⟨0x34a0, 0x40, 8, 0, 1, fun n _ => [FIL.CHn_GAIN.GAIN n],
    fun _ _ => []⟩,
  ⟨0x34a4, 0x40, 8, 0, 1, fun n _ => [FIL.CHn_STATUS.RUNNING n, FIL.CHn_STATUS.SETTLING n, FIL.CHn_STATUS.VALID n, FIL.CHn_STATUS.CAUSE n],
    fun _ _ => []⟩,
  ⟨0x34a8, 0x40, 8, 0, 1, fun n _ => [FIL.CHn_SAT.COUNT n, FIL.CHn_SAT.SAT n],
    fun n _ => [(FIL.CHn_SAT.SAT n, [FIL.CHn_SAT.COUNT n])]⟩]

/-! Block ACC -/

/-- `ACC.REGION.PAGES`, bits [12:0], R307 of 09_accumulation.md. -/
def ACC.REGION.PAGES : Fld := ⟨0x3800, 0, 13, 0, .rwl⟩

/-- `ACC.REGION_USE.NEED`, bits [12:0], R307 of 09_accumulation.md. -/
def ACC.REGION_USE.NEED : Fld := ⟨0x3804, 0, 13, 0, .ro⟩

/-- `ACC.REFUSED.CAUSE`, bits [3:0], R307 of 09_accumulation.md. -/
def ACC.REFUSED.CAUSE : Fld := ⟨0x3808, 0, 4, 0, .ro⟩

/-- `ACC.REFUSED.CHANNEL`, bits [10:8], R307 of 09_accumulation.md. -/
def ACC.REFUSED.CHANNEL : Fld := ⟨0x3808, 8, 3, 0, .ro⟩

/-- `ACC.MERGE.TILES`, bits [11:0], R307 of 09_accumulation.md. -/
def ACC.MERGE.TILES : Fld := ⟨0x380c, 0, 12, 0, .ro⟩

/-- `ACC.MERGE.FRAMES`, bits [19:16], R307 of 09_accumulation.md. -/
def ACC.MERGE.FRAMES : Fld := ⟨0x380c, 16, 4, 0, .ro⟩

/-- `ACC.CHn_STK_CFG.EN`, bits [0:0], R309 of 09_accumulation.md. -/
def ACC.CHn_STK_CFG.EN (n : Nat) : Fld := ⟨0x3880 + 0x40 * n, 0, 1, 0, .rwl⟩

/-- `ACC.CHn_STK_CFG.SQUARES`, bits [1:1], R309 of 09_accumulation.md. -/
def ACC.CHn_STK_CFG.SQUARES (n : Nat) : Fld := ⟨0x3880 + 0x40 * n, 1, 1, 0, .rwl⟩

/-- `ACC.CHn_STK_CFG.PLACE`, bits [2:2], R309 of 09_accumulation.md. -/
def ACC.CHn_STK_CFG.PLACE (n : Nat) : Fld := ⟨0x3880 + 0x40 * n, 2, 1, 0, .rwl⟩

/-- `ACC.CHn_STK_CFG.AT_LIMIT`, bits [3:3], R309 of 09_accumulation.md. -/
def ACC.CHn_STK_CFG.AT_LIMIT (n : Nat) : Fld := ⟨0x3880 + 0x40 * n, 3, 1, 0, .rwl⟩

/-- `ACC.CHn_STK_FIRST.SAMPLE`, bits [30:0], R309 of 09_accumulation.md. -/
def ACC.CHn_STK_FIRST.SAMPLE (n : Nat) : Fld := ⟨0x3884 + 0x40 * n, 0, 31, 0, .rwl⟩

/-- `ACC.CHn_STK_POINTS.POINTS`, bits [24:0], R309 of 09_accumulation.md. -/
def ACC.CHn_STK_POINTS.POINTS (n : Nat) : Fld := ⟨0x3888 + 0x40 * n, 0, 25, 0x400, .rwl⟩

/-- `ACC.CHn_STK_LIMIT.FRAMES`, bits [20:0], R309 of 09_accumulation.md. -/
def ACC.CHn_STK_LIMIT.FRAMES (n : Nat) : Fld := ⟨0x388c + 0x40 * n, 0, 21, 0x10000, .rwl⟩

/-- `ACC.CHn_MAP_CFG.EN`, bits [0:0], R309 of 09_accumulation.md. -/
def ACC.CHn_MAP_CFG.EN (n : Nat) : Fld := ⟨0x3890 + 0x40 * n, 0, 1, 0, .rwl⟩

/-- `ACC.CHn_MAP_CFG.DECAY`, bits [1:1], R309 of 09_accumulation.md. -/
def ACC.CHn_MAP_CFG.DECAY (n : Nat) : Fld := ⟨0x3890 + 0x40 * n, 1, 1, 0, .rwl⟩

/-- `ACC.CHn_MAP_CFG.ROW_SHIFT`, bits [6:4], R309 of 09_accumulation.md. -/
def ACC.CHn_MAP_CFG.ROW_SHIFT (n : Nat) : Fld := ⟨0x3890 + 0x40 * n, 4, 3, 3, .rwl⟩

/-- `ACC.CHn_MAP_CFG.CURVE`, bits [11:8], R309 of 09_accumulation.md. -/
def ACC.CHn_MAP_CFG.CURVE (n : Nat) : Fld := ⟨0x3890 + 0x40 * n, 8, 4, 0, .rwl⟩

/-- `ACC.CHn_MAP_CFG.COL_WIDTH`, bits [30:16], R309 of 09_accumulation.md. -/
def ACC.CHn_MAP_CFG.COL_WIDTH (n : Nat) : Fld := ⟨0x3890 + 0x40 * n, 16, 15, 1, .rwl⟩

/-- `ACC.CHn_MAP_FIRST.SAMPLE`, bits [30:0], R309 of 09_accumulation.md. -/
def ACC.CHn_MAP_FIRST.SAMPLE (n : Nat) : Fld := ⟨0x3894 + 0x40 * n, 0, 31, 0, .rwl⟩

/-- `ACC.CHn_MAP_LOW.LOW`, bits [15:0], R309 of 09_accumulation.md. -/
def ACC.CHn_MAP_LOW.LOW (n : Nat) : Fld := ⟨0x3898 + 0x40 * n, 0, 16, 0xf800, .rwl⟩

/-- `ACC.CHn_SNAP_CFG.PERIOD_MS`, bits [15:0], R309 of 09_accumulation.md. -/
def ACC.CHn_SNAP_CFG.PERIOD_MS (n : Nat) : Fld := ⟨0x389c + 0x40 * n, 0, 16, 0, .rwl⟩

/-- `ACC.CHn_SNAP_CFG.DECAY_MS`, bits [31:16], R309 of 09_accumulation.md. -/
def ACC.CHn_SNAP_CFG.DECAY_MS (n : Nat) : Fld := ⟨0x389c + 0x40 * n, 16, 16, 0x64, .rwl⟩

/-- `ACC.CHn_CTL.SNAP_STK`, bits [0:0], R309 of 09_accumulation.md. -/
def ACC.CHn_CTL.SNAP_STK (n : Nat) : Fld := ⟨0x38a0 + 0x40 * n, 0, 1, 0, .wo⟩

/-- `ACC.CHn_CTL.SNAP_MAP`, bits [1:1], R309 of 09_accumulation.md. -/
def ACC.CHn_CTL.SNAP_MAP (n : Nat) : Fld := ⟨0x38a0 + 0x40 * n, 1, 1, 0, .wo⟩

/-- `ACC.CHn_CTL.CLEAR_STK`, bits [2:2], R309 of 09_accumulation.md. -/
def ACC.CHn_CTL.CLEAR_STK (n : Nat) : Fld := ⟨0x38a0 + 0x40 * n, 2, 1, 0, .wo⟩

/-- `ACC.CHn_CTL.CLEAR_MAP`, bits [3:3], R309 of 09_accumulation.md. -/
def ACC.CHn_CTL.CLEAR_MAP (n : Nat) : Fld := ⟨0x38a0 + 0x40 * n, 3, 1, 0, .wo⟩

/-- `ACC.CHn_STK_STATUS.FRAMES`, bits [20:0], R309 of 09_accumulation.md. -/
def ACC.CHn_STK_STATUS.FRAMES (n : Nat) : Fld := ⟨0x38a4 + 0x40 * n, 0, 21, 0, .ro⟩

/-- `ACC.CHn_STK_STATUS.STATE`, bits [26:24], R309 of 09_accumulation.md. -/
def ACC.CHn_STK_STATUS.STATE (n : Nat) : Fld := ⟨0x38a4 + 0x40 * n, 24, 3, 0, .ro⟩

/-- `ACC.CHn_MAP_STATUS.FRAMES`, bits [30:0], R309 of 09_accumulation.md. -/
def ACC.CHn_MAP_STATUS.FRAMES (n : Nat) : Fld := ⟨0x38a8 + 0x40 * n, 0, 31, 0, .ro⟩

/-- `ACC.CHn_SNAP_STK.FRAME`, bits [19:0], R309 of 09_accumulation.md. -/
def ACC.CHn_SNAP_STK.FRAME (n : Nat) : Fld := ⟨0x38ac + 0x40 * n, 0, 20, 0, .ro⟩

/-- `ACC.CHn_SNAP_STK.VALID`, bits [31:31], R309 of 09_accumulation.md. -/
def ACC.CHn_SNAP_STK.VALID (n : Nat) : Fld := ⟨0x38ac + 0x40 * n, 31, 1, 0, .ro⟩

/-- `ACC.CHn_SNAP_MAP.FRAME`, bits [19:0], R309 of 09_accumulation.md. -/
def ACC.CHn_SNAP_MAP.FRAME (n : Nat) : Fld := ⟨0x38b0 + 0x40 * n, 0, 20, 0, .ro⟩

/-- `ACC.CHn_SNAP_MAP.VALID`, bits [31:31], R309 of 09_accumulation.md. -/
def ACC.CHn_SNAP_MAP.VALID (n : Nat) : Fld := ⟨0x38b0 + 0x40 * n, 31, 1, 0, .ro⟩

/-- `ACC.CHn_PASSED.STK`, bits [14:0], R309 of 09_accumulation.md. -/
def ACC.CHn_PASSED.STK (n : Nat) : Fld := ⟨0x38b4 + 0x40 * n, 0, 15, 0, .ro⟩

/-- `ACC.CHn_PASSED.STK_SAT`, bits [15:15], R309 of 09_accumulation.md. -/
def ACC.CHn_PASSED.STK_SAT (n : Nat) : Fld := ⟨0x38b4 + 0x40 * n, 15, 1, 0, .w1c⟩

/-- `ACC.CHn_PASSED.MAP`, bits [30:16], R309 of 09_accumulation.md. -/
def ACC.CHn_PASSED.MAP (n : Nat) : Fld := ⟨0x38b4 + 0x40 * n, 16, 15, 0, .ro⟩

/-- `ACC.CHn_PASSED.MAP_SAT`, bits [31:31], R309 of 09_accumulation.md. -/
def ACC.CHn_PASSED.MAP_SAT (n : Nat) : Fld := ⟨0x38b4 + 0x40 * n, 31, 1, 0, .w1c⟩

/-- `ACC.CHn_MAP_LOST.COUNT`, bits [30:0], R309 of 09_accumulation.md. -/
def ACC.CHn_MAP_LOST.COUNT (n : Nat) : Fld := ⟨0x38b8 + 0x40 * n, 0, 31, 0, .ro⟩

/-- `ACC.CHn_MAP_LOST.SAT`, bits [31:31], R309 of 09_accumulation.md. -/
def ACC.CHn_MAP_LOST.SAT (n : Nat) : Fld := ⟨0x38b8 + 0x40 * n, 31, 1, 0, .w1c⟩

/-- `ACC.CHn_MAP_OFF.COUNT`, bits [30:0], R309 of 09_accumulation.md. -/
def ACC.CHn_MAP_OFF.COUNT (n : Nat) : Fld := ⟨0x38bc + 0x40 * n, 0, 31, 0, .ro⟩

/-- `ACC.CHn_MAP_OFF.SAT`, bits [31:31], R309 of 09_accumulation.md. -/
def ACC.CHn_MAP_OFF.SAT (n : Nat) : Fld := ⟨0x38bc + 0x40 * n, 31, 1, 0, .w1c⟩

/-- The registers of block ACC. -/
def ACC.regs : List Reg := [
  ⟨0x3800, 0x0, 1, 0, 1, fun _ _ => [ACC.REGION.PAGES],
    fun _ _ => []⟩,
  ⟨0x3804, 0x0, 1, 0, 1, fun _ _ => [ACC.REGION_USE.NEED],
    fun _ _ => []⟩,
  ⟨0x3808, 0x0, 1, 0, 1, fun _ _ => [ACC.REFUSED.CAUSE, ACC.REFUSED.CHANNEL],
    fun _ _ => []⟩,
  ⟨0x380c, 0x0, 1, 0, 1, fun _ _ => [ACC.MERGE.TILES, ACC.MERGE.FRAMES],
    fun _ _ => []⟩,
  ⟨0x3880, 0x40, 8, 0, 1, fun n _ => [ACC.CHn_STK_CFG.EN n, ACC.CHn_STK_CFG.SQUARES n, ACC.CHn_STK_CFG.PLACE n, ACC.CHn_STK_CFG.AT_LIMIT n],
    fun _ _ => []⟩,
  ⟨0x3884, 0x40, 8, 0, 1, fun n _ => [ACC.CHn_STK_FIRST.SAMPLE n],
    fun _ _ => []⟩,
  ⟨0x3888, 0x40, 8, 0, 1, fun n _ => [ACC.CHn_STK_POINTS.POINTS n],
    fun _ _ => []⟩,
  ⟨0x388c, 0x40, 8, 0, 1, fun n _ => [ACC.CHn_STK_LIMIT.FRAMES n],
    fun _ _ => []⟩,
  ⟨0x3890, 0x40, 8, 0, 1, fun n _ => [ACC.CHn_MAP_CFG.EN n, ACC.CHn_MAP_CFG.DECAY n, ACC.CHn_MAP_CFG.ROW_SHIFT n, ACC.CHn_MAP_CFG.CURVE n, ACC.CHn_MAP_CFG.COL_WIDTH n],
    fun _ _ => []⟩,
  ⟨0x3894, 0x40, 8, 0, 1, fun n _ => [ACC.CHn_MAP_FIRST.SAMPLE n],
    fun _ _ => []⟩,
  ⟨0x3898, 0x40, 8, 0, 1, fun n _ => [ACC.CHn_MAP_LOW.LOW n],
    fun _ _ => []⟩,
  ⟨0x389c, 0x40, 8, 0, 1, fun n _ => [ACC.CHn_SNAP_CFG.PERIOD_MS n, ACC.CHn_SNAP_CFG.DECAY_MS n],
    fun _ _ => []⟩,
  ⟨0x38a0, 0x40, 8, 0, 1, fun n _ => [ACC.CHn_CTL.SNAP_STK n, ACC.CHn_CTL.SNAP_MAP n, ACC.CHn_CTL.CLEAR_STK n, ACC.CHn_CTL.CLEAR_MAP n],
    fun _ _ => []⟩,
  ⟨0x38a4, 0x40, 8, 0, 1, fun n _ => [ACC.CHn_STK_STATUS.FRAMES n, ACC.CHn_STK_STATUS.STATE n],
    fun _ _ => []⟩,
  ⟨0x38a8, 0x40, 8, 0, 1, fun n _ => [ACC.CHn_MAP_STATUS.FRAMES n],
    fun _ _ => []⟩,
  ⟨0x38ac, 0x40, 8, 0, 1, fun n _ => [ACC.CHn_SNAP_STK.FRAME n, ACC.CHn_SNAP_STK.VALID n],
    fun _ _ => []⟩,
  ⟨0x38b0, 0x40, 8, 0, 1, fun n _ => [ACC.CHn_SNAP_MAP.FRAME n, ACC.CHn_SNAP_MAP.VALID n],
    fun _ _ => []⟩,
  ⟨0x38b4, 0x40, 8, 0, 1, fun n _ => [ACC.CHn_PASSED.STK n, ACC.CHn_PASSED.STK_SAT n, ACC.CHn_PASSED.MAP n, ACC.CHn_PASSED.MAP_SAT n],
    fun n _ => [(ACC.CHn_PASSED.STK_SAT n, [ACC.CHn_PASSED.STK n]), (ACC.CHn_PASSED.MAP_SAT n, [ACC.CHn_PASSED.MAP n])]⟩,
  ⟨0x38b8, 0x40, 8, 0, 1, fun n _ => [ACC.CHn_MAP_LOST.COUNT n, ACC.CHn_MAP_LOST.SAT n],
    fun n _ => [(ACC.CHn_MAP_LOST.SAT n, [ACC.CHn_MAP_LOST.COUNT n])]⟩,
  ⟨0x38bc, 0x40, 8, 0, 1, fun n _ => [ACC.CHn_MAP_OFF.COUNT n, ACC.CHn_MAP_OFF.SAT n],
    fun n _ => [(ACC.CHn_MAP_OFF.SAT n, [ACC.CHn_MAP_OFF.COUNT n])]⟩]

end Sys2Proof.Machine
end

