-- ==== Sys2Proof/Machine/RegsConv.lean ====
section
/-! DEFINITION. The registers of the blocks ADC, CAL, CLK, TB, TDC: every field of the field tables of spec/,
with its address, lowest bit, width, reset value and access code, and the list of registers of each block.
A field of a replicated register takes the replica (and for a slice register also the slice) as argument. -/

namespace Sys2Proof.Machine

/-! Block ADC -/

/-- `ADC.RANGE.CODE`, bits [1:0], R79 of 02_converters.md. -/
def ADC.RANGE.CODE (n : Nat) : Fld := ⟨0x1000 + 0x100 * n, 0, 2, 2, .rws⟩

/-- `ADC.RANGE.ACTIVE`, bits [9:8], R79 of 02_converters.md. -/
def ADC.RANGE.ACTIVE (n : Nat) : Fld := ⟨0x1000 + 0x100 * n, 8, 2, 2, .ro⟩

/-- `ADC.RANGE.PENDING`, bits [16:16], R79 of 02_converters.md. -/
def ADC.RANGE.PENDING (n : Nat) : Fld := ⟨0x1000 + 0x100 * n, 16, 1, 0, .ro⟩

/-- `ADC.CTL.COMMIT`, bits [0:0], R79 of 02_converters.md. -/
def ADC.CTL.COMMIT (n : Nat) : Fld := ⟨0x1004 + 0x100 * n, 0, 1, 0, .wo⟩

/-- `ADC.STATUS.LEAD`, bits [0:0], R79 of 02_converters.md. -/
def ADC.STATUS.LEAD (n : Nat) : Fld := ⟨0x1008 + 0x100 * n, 0, 1, 1, .ro⟩

/-- `ADC.STATUS.MEMBER`, bits [1:1], R79 of 02_converters.md. -/
def ADC.STATUS.MEMBER (n : Nat) : Fld := ⟨0x1008 + 0x100 * n, 1, 1, 0, .ro⟩

/-- `ADC.STATUS.INVALID`, bits [2:2], R79 of 02_converters.md. -/
def ADC.STATUS.INVALID (n : Nat) : Fld := ⟨0x1008 + 0x100 * n, 2, 1, 0, .ro⟩

/-- `ADC.STATUS.SWAP_PENDING`, bits [3:3], R79 of 02_converters.md. -/
def ADC.STATUS.SWAP_PENDING (n : Nat) : Fld := ⟨0x1008 + 0x100 * n, 3, 1, 0, .ro⟩

/-- `ADC.STATUS.SPARE`, bits [12:8], R79 of 02_converters.md. -/
def ADC.STATUS.SPARE (n : Nat) : Fld := ⟨0x1008 + 0x100 * n, 8, 5, 0x10, .ro⟩

/-- `ADC.STATUS.LEAD_CHANNEL`, bits [18:16], R79 of 02_converters.md. -/
def ADC.STATUS.LEAD_CHANNEL (n : Nat) : Fld := ⟨0x1008 + 0x100 * n, 16, 3, n, .ro⟩

/-- `ADC.OVR.COUNT`, bits [30:0], R79 of 02_converters.md. -/
def ADC.OVR.COUNT (n : Nat) : Fld := ⟨0x100c + 0x100 * n, 0, 31, 0, .ro⟩

/-- `ADC.OVR.SAT`, bits [31:31], R79 of 02_converters.md. -/
def ADC.OVR.SAT (n : Nat) : Fld := ⟨0x100c + 0x100 * n, 31, 1, 0, .w1c⟩

/-- `ADC.SLICEk.TRIM`, bits [9:0], R79 of 02_converters.md. -/
def ADC.SLICEk.TRIM (n k : Nat) : Fld := ⟨0x1040 + 0x100 * n + 4 * k, 0, 10, 0, .ro⟩

/-- `ADC.SLICEk.ROLE`, bits [18:16], R79 of 02_converters.md. -/
def ADC.SLICEk.ROLE (n k : Nat) : Fld := ⟨0x1040 + 0x100 * n + 4 * k, 16, 3, if k = 16 then 1 else 0, .ro⟩

/-- `ADC.SLICEk.MUX`, bits [22:20], R79 of 02_converters.md. -/
def ADC.SLICEk.MUX (n k : Nat) : Fld := ⟨0x1040 + 0x100 * n + 4 * k, 20, 3, 0, .ro⟩

/-- `ADC.SLICEk.POSITION`, bits [28:24], R79 of 02_converters.md. -/
def ADC.SLICEk.POSITION (n k : Nat) : Fld := ⟨0x1040 + 0x100 * n + 4 * k, 24, 5, if k = 16 then 31 else k, .ro⟩

/-- `ADC.MODE.MODE`, bits [1:0], R81 of 02_converters.md. -/
def ADC.MODE.MODE : Fld := ⟨0x10e0, 0, 2, 0, .rwl⟩

/-- `ADC.MODE.ACTIVE`, bits [9:8], R81 of 02_converters.md. -/
def ADC.MODE.ACTIVE : Fld := ⟨0x10e0, 8, 2, 0, .ro⟩

/-- `ADC.SCLK.FREQ_KHZ`, bits [23:0], R81 of 02_converters.md. -/
def ADC.SCLK.FREQ_KHZ : Fld := ⟨0x10e4, 0, 24, 0, .ro⟩

/-- `ADC.SCLK.OK`, bits [31:31], R81 of 02_converters.md. -/
def ADC.SCLK.OK : Fld := ⟨0x10e4, 31, 1, 0, .ro⟩

/-- `ADC.SCLK_START.FREQ_KHZ`, bits [23:0], R81 of 02_converters.md. -/
def ADC.SCLK_START.FREQ_KHZ : Fld := ⟨0x10e8, 0, 24, 0, .ro⟩

/-- `ADC.SCLK_LOSS.COUNT`, bits [15:0], R81 of 02_converters.md. -/
def ADC.SCLK_LOSS.COUNT : Fld := ⟨0x10ec, 0, 16, 0, .ro⟩

/-- `ADC.SCLK_LOSS.LAST_CAUSE`, bits [19:16], R81 of 02_converters.md. -/
def ADC.SCLK_LOSS.LAST_CAUSE : Fld := ⟨0x10ec, 16, 4, 0, .ro⟩

/-- `ADC.SCLK_LOSS.SAT`, bits [31:31], R81 of 02_converters.md. -/
def ADC.SCLK_LOSS.SAT : Fld := ⟨0x10ec, 31, 1, 0, .w1c⟩

/-- The registers of block ADC. -/
def ADC.regs : List Reg := [
  ⟨0x1000, 0x100, 8, 0, 1, fun n _ => [ADC.RANGE.CODE n, ADC.RANGE.ACTIVE n, ADC.RANGE.PENDING n],
    fun _ _ => []⟩,
  ⟨0x1004, 0x100, 8, 0, 1, fun n _ => [ADC.CTL.COMMIT n],
    fun _ _ => []⟩,
  ⟨0x1008, 0x100, 8, 0, 1, fun n _ => [ADC.STATUS.LEAD n, ADC.STATUS.MEMBER n, ADC.STATUS.INVALID n, ADC.STATUS.SWAP_PENDING n, ADC.STATUS.SPARE n, ADC.STATUS.LEAD_CHANNEL n],
    fun _ _ => []⟩,
  ⟨0x100c, 0x100, 8, 0, 1, fun n _ => [ADC.OVR.COUNT n, ADC.OVR.SAT n],
    fun n _ => [(ADC.OVR.SAT n, [ADC.OVR.COUNT n])]⟩,
  ⟨0x1040, 0x100, 8, 4, 17, fun n k => [ADC.SLICEk.TRIM n k, ADC.SLICEk.ROLE n k, ADC.SLICEk.MUX n k, ADC.SLICEk.POSITION n k],
    fun _ _ => []⟩,
  ⟨0x10e0, 0x0, 1, 0, 1, fun _ _ => [ADC.MODE.MODE, ADC.MODE.ACTIVE],
    fun _ _ => []⟩,
  ⟨0x10e4, 0x0, 1, 0, 1, fun _ _ => [ADC.SCLK.FREQ_KHZ, ADC.SCLK.OK],
    fun _ _ => []⟩,
  ⟨0x10e8, 0x0, 1, 0, 1, fun _ _ => [ADC.SCLK_START.FREQ_KHZ],
    fun _ _ => []⟩,
  ⟨0x10ec, 0x0, 1, 0, 1, fun _ _ => [ADC.SCLK_LOSS.COUNT, ADC.SCLK_LOSS.LAST_CAUSE, ADC.SCLK_LOSS.SAT],
    fun _ _ => [(ADC.SCLK_LOSS.SAT, [ADC.SCLK_LOSS.COUNT, ADC.SCLK_LOSS.LAST_CAUSE])]⟩]

/-! Block CAL -/

/-- `CAL.CTL.PASS_REQ`, bits [7:0], R117 of 03_calibration.md. -/
def CAL.CTL.PASS_REQ : Fld := ⟨0x1800, 0, 8, 0, .wo⟩

/-- `CAL.CTL.RANGE_CHECK`, bits [15:8], R117 of 03_calibration.md. -/
def CAL.CTL.RANGE_CHECK : Fld := ⟨0x1800, 8, 8, 0, .wo⟩

/-- `CAL.DELTA_T.VALUE`, bits [9:0], R117 of 03_calibration.md. -/
def CAL.DELTA_T.VALUE : Fld := ⟨0x1804, 0, 10, 0x19, .rwi⟩

/-- `CAL.OVERDUE.SECONDS`, bits [16:0], R117 of 03_calibration.md. -/
def CAL.OVERDUE.SECONDS : Fld := ⟨0x1808, 0, 17, 0x258, .rwi⟩

/-- `CAL.CERT_VALUE.NV`, bits [31:0], R117 of 03_calibration.md. -/
def CAL.CERT_VALUE.NV : Fld := ⟨0x180c, 0, 32, 0, .rwi⟩

/-- `CAL.CERT_UNC.NV`, bits [31:0], R117 of 03_calibration.md. -/
def CAL.CERT_UNC.NV : Fld := ⟨0x1810, 0, 32, 0, .rwi⟩

/-- `CAL.CERT_META.K`, bits [7:0], R117 of 03_calibration.md. -/
def CAL.CERT_META.K : Fld := ⟨0x1814, 0, 8, 0, .rwi⟩

/-- `CAL.CERT_META.CERT_ID`, bits [31:8], R117 of 03_calibration.md. -/
def CAL.CERT_META.CERT_ID : Fld := ⟨0x1814, 8, 24, 0, .rwi⟩

/-- `CAL.CERT_CTL.COMMIT`, bits [0:0], R117 of 03_calibration.md. -/
def CAL.CERT_CTL.COMMIT : Fld := ⟨0x1818, 0, 1, 0, .rwi⟩

/-- `CAL.CERT_STATUS.INDEX`, bits [7:0], R117 of 03_calibration.md. -/
def CAL.CERT_STATUS.INDEX : Fld := ⟨0x181c, 0, 8, 0, .ro⟩

/-- `CAL.CERT_STATUS.WAITING`, bits [15:8], R117 of 03_calibration.md. -/
def CAL.CERT_STATUS.WAITING : Fld := ⟨0x181c, 8, 8, 0, .ro⟩

/-- `CAL.REF.SENSE_UV`, bits [19:0], R117 of 03_calibration.md. -/
def CAL.REF.SENSE_UV : Fld := ⟨0x1820, 0, 20, 0, .ro⟩

/-- `CAL.REF.OK`, bits [31:31], R117 of 03_calibration.md. -/
def CAL.REF.OK : Fld := ⟨0x1820, 31, 1, 0, .ro⟩

/-- `CAL.BG_RATIO.RATIO`, bits [31:0], R117 of 03_calibration.md. -/
def CAL.BG_RATIO.RATIO : Fld := ⟨0x1824, 0, 32, 0, .ro⟩

/-- `CAL.REJECTS.COUNT`, bits [30:0], R117 of 03_calibration.md. -/
def CAL.REJECTS.COUNT : Fld := ⟨0x1828, 0, 31, 0, .ro⟩

/-- `CAL.REJECTS.SAT`, bits [31:31], R117 of 03_calibration.md. -/
def CAL.REJECTS.SAT : Fld := ⟨0x1828, 31, 1, 0, .w1c⟩

/-- `CAL.DEFERS.COUNT`, bits [30:0], R117 of 03_calibration.md. -/
def CAL.DEFERS.COUNT : Fld := ⟨0x182c, 0, 31, 0, .ro⟩

/-- `CAL.DEFERS.SAT`, bits [31:31], R117 of 03_calibration.md. -/
def CAL.DEFERS.SAT : Fld := ⟨0x182c, 31, 1, 0, .w1c⟩

/-- `CAL.VIEW.SOURCE`, bits [0:0], R117 of 03_calibration.md. -/
def CAL.VIEW.SOURCE : Fld := ⟨0x1830, 0, 1, 0, .rw⟩

/-- `CAL.VIEW.CHANNEL`, bits [6:4], R117 of 03_calibration.md. -/
def CAL.VIEW.CHANNEL : Fld := ⟨0x1830, 4, 3, 0, .rw⟩

/-- `CAL.VIEW.SLOT`, bits [25:16], R117 of 03_calibration.md. -/
def CAL.VIEW.SLOT : Fld := ⟨0x1830, 16, 10, 0, .rw⟩

/-- `CAL.LEDGER.NEWEST`, bits [9:0], R117 of 03_calibration.md. -/
def CAL.LEDGER.NEWEST : Fld := ⟨0x1834, 0, 10, 0, .ro⟩

/-- `CAL.LEDGER.VALID`, bits [26:16], R117 of 03_calibration.md. -/
def CAL.LEDGER.VALID : Fld := ⟨0x1834, 16, 11, 0, .ro⟩

/-- `CAL.STATE.PASS`, bits [2:0], R119 of 03_calibration.md. -/
def CAL.STATE.PASS (n : Nat) : Fld := ⟨0x1880 + 0x40 * n, 0, 3, 0, .ro⟩

/-- `CAL.STATE.CAUSE`, bits [6:4], R119 of 03_calibration.md. -/
def CAL.STATE.CAUSE (n : Nat) : Fld := ⟨0x1880 + 0x40 * n, 4, 3, 0, .ro⟩

/-- `CAL.STATE.SLICE`, bits [12:8], R119 of 03_calibration.md. -/
def CAL.STATE.SLICE (n : Nat) : Fld := ⟨0x1880 + 0x40 * n, 8, 5, 0x1f, .ro⟩

/-- `CAL.STATE.DONE`, bits [20:16], R119 of 03_calibration.md. -/
def CAL.STATE.DONE (n : Nat) : Fld := ⟨0x1880 + 0x40 * n, 16, 5, 0, .ro⟩

/-- `CAL.STATE.OVERDUE`, bits [24:24], R119 of 03_calibration.md. -/
def CAL.STATE.OVERDUE (n : Nat) : Fld := ⟨0x1880 + 0x40 * n, 24, 1, 0, .ro⟩

/-- `CAL.STATE.STRIKES`, bits [27:26], R119 of 03_calibration.md. -/
def CAL.STATE.STRIKES (n : Nat) : Fld := ⟨0x1880 + 0x40 * n, 26, 2, 0, .ro⟩

/-- `CAL.COUNT.COUNT`, bits [31:0], R119 of 03_calibration.md. -/
def CAL.COUNT.COUNT (n : Nat) : Fld := ⟨0x1884 + 0x40 * n, 0, 32, 0, .ro⟩

/-- `CAL.LAST_TB_LO.TICKS`, bits [31:0], R119 of 03_calibration.md. -/
def CAL.LAST_TB_LO.TICKS (n : Nat) : Fld := ⟨0x1888 + 0x40 * n, 0, 32, 0, .ro⟩

/-- `CAL.LAST_TB_HI.TICKS`, bits [31:0], R119 of 03_calibration.md. -/
def CAL.LAST_TB_HI.TICKS (n : Nat) : Fld := ⟨0x188c + 0x40 * n, 0, 32, 0, .ro⟩

/-- `CAL.TEMP.LAST`, bits [15:0], R119 of 03_calibration.md. -/
def CAL.TEMP.LAST (n : Nat) : Fld := ⟨0x1890 + 0x40 * n, 0, 16, 0, .ro⟩

/-- `CAL.TEMP.NOW`, bits [31:16], R119 of 03_calibration.md. -/
def CAL.TEMP.NOW (n : Nat) : Fld := ⟨0x1890 + 0x40 * n, 16, 16, 0, .ro⟩

/-- `CAL.EPOCH.EPOCH`, bits [31:0], R119 of 03_calibration.md. -/
def CAL.EPOCH.EPOCH (n : Nat) : Fld := ⟨0x1894 + 0x40 * n, 0, 32, 0, .ro⟩

/-- `CAL.SUFF_VAR.VAR`, bits [31:0], R119 of 03_calibration.md. -/
def CAL.SUFF_VAR.VAR (n : Nat) : Fld := ⟨0x1898 + 0x40 * n, 0, 32, 0, .ro⟩

/-- `CAL.SUFF.FLAT`, bits [15:0], R119 of 03_calibration.md. -/
def CAL.SUFF.FLAT (n : Nat) : Fld := ⟨0x189c + 0x40 * n, 0, 16, 0, .ro⟩

/-- `CAL.SUFF.TONE`, bits [16:16], R119 of 03_calibration.md. -/
def CAL.SUFF.TONE (n : Nat) : Fld := ⟨0x189c + 0x40 * n, 16, 1, 0, .ro⟩

/-- `CAL.SUFF.OFFSET_OK`, bits [20:20], R119 of 03_calibration.md. -/
def CAL.SUFF.OFFSET_OK (n : Nat) : Fld := ⟨0x189c + 0x40 * n, 20, 1, 0, .ro⟩

/-- `CAL.SUFF.GAIN_OK`, bits [21:21], R119 of 03_calibration.md. -/
def CAL.SUFF.GAIN_OK (n : Nat) : Fld := ⟨0x189c + 0x40 * n, 21, 1, 0, .ro⟩

/-- `CAL.SUFF.SKEW_OK`, bits [22:22], R119 of 03_calibration.md. -/
def CAL.SUFF.SKEW_OK (n : Nat) : Fld := ⟨0x189c + 0x40 * n, 22, 1, 0, .ro⟩

/-- `CAL.SUFF.BW_OK`, bits [23:23], R119 of 03_calibration.md. -/
def CAL.SUFF.BW_OK (n : Nat) : Fld := ⟨0x189c + 0x40 * n, 23, 1, 0, .ro⟩

/-- `CAL.AGE.PASS_AGE_S`, bits [15:0], R119 of 03_calibration.md. -/
def CAL.AGE.PASS_AGE_S (n : Nat) : Fld := ⟨0x18a0 + 0x40 * n, 0, 16, 0, .ro⟩

/-- `CAL.AGE.BG_AGE_S`, bits [31:16], R119 of 03_calibration.md. -/
def CAL.AGE.BG_AGE_S (n : Nat) : Fld := ⟨0x18a0 + 0x40 * n, 16, 16, 0, .ro⟩

/-- `CAL.CH_REJECTS.COUNT`, bits [30:0], R119 of 03_calibration.md. -/
def CAL.CH_REJECTS.COUNT (n : Nat) : Fld := ⟨0x18a4 + 0x40 * n, 0, 31, 0, .ro⟩

/-- `CAL.CH_REJECTS.SAT`, bits [31:31], R119 of 03_calibration.md. -/
def CAL.CH_REJECTS.SAT (n : Nat) : Fld := ⟨0x18a4 + 0x40 * n, 31, 1, 0, .w1c⟩

/-- The registers of block CAL. -/
def CAL.regs : List Reg := [
  ⟨0x1800, 0x0, 1, 0, 1, fun _ _ => [CAL.CTL.PASS_REQ, CAL.CTL.RANGE_CHECK],
    fun _ _ => []⟩,
  ⟨0x1804, 0x0, 1, 0, 1, fun _ _ => [CAL.DELTA_T.VALUE],
    fun _ _ => []⟩,
  ⟨0x1808, 0x0, 1, 0, 1, fun _ _ => [CAL.OVERDUE.SECONDS],
    fun _ _ => []⟩,
  ⟨0x180c, 0x0, 1, 0, 1, fun _ _ => [CAL.CERT_VALUE.NV],
    fun _ _ => []⟩,
  ⟨0x1810, 0x0, 1, 0, 1, fun _ _ => [CAL.CERT_UNC.NV],
    fun _ _ => []⟩,
  ⟨0x1814, 0x0, 1, 0, 1, fun _ _ => [CAL.CERT_META.K, CAL.CERT_META.CERT_ID],
    fun _ _ => []⟩,
  ⟨0x1818, 0x0, 1, 0, 1, fun _ _ => [CAL.CERT_CTL.COMMIT],
    fun _ _ => []⟩,
  ⟨0x181c, 0x0, 1, 0, 1, fun _ _ => [CAL.CERT_STATUS.INDEX, CAL.CERT_STATUS.WAITING],
    fun _ _ => []⟩,
  ⟨0x1820, 0x0, 1, 0, 1, fun _ _ => [CAL.REF.SENSE_UV, CAL.REF.OK],
    fun _ _ => []⟩,
  ⟨0x1824, 0x0, 1, 0, 1, fun _ _ => [CAL.BG_RATIO.RATIO],
    fun _ _ => []⟩,
  ⟨0x1828, 0x0, 1, 0, 1, fun _ _ => [CAL.REJECTS.COUNT, CAL.REJECTS.SAT],
    fun _ _ => [(CAL.REJECTS.SAT, [CAL.REJECTS.COUNT])]⟩,
  ⟨0x182c, 0x0, 1, 0, 1, fun _ _ => [CAL.DEFERS.COUNT, CAL.DEFERS.SAT],
    fun _ _ => [(CAL.DEFERS.SAT, [CAL.DEFERS.COUNT])]⟩,
  ⟨0x1830, 0x0, 1, 0, 1, fun _ _ => [CAL.VIEW.SOURCE, CAL.VIEW.CHANNEL, CAL.VIEW.SLOT],
    fun _ _ => []⟩,
  ⟨0x1834, 0x0, 1, 0, 1, fun _ _ => [CAL.LEDGER.NEWEST, CAL.LEDGER.VALID],
    fun _ _ => []⟩,
  ⟨0x1880, 0x40, 8, 0, 1, fun n _ => [CAL.STATE.PASS n, CAL.STATE.CAUSE n, CAL.STATE.SLICE n, CAL.STATE.DONE n, CAL.STATE.OVERDUE n, CAL.STATE.STRIKES n],
    fun _ _ => []⟩,
  ⟨0x1884, 0x40, 8, 0, 1, fun n _ => [CAL.COUNT.COUNT n],
    fun _ _ => []⟩,
  ⟨0x1888, 0x40, 8, 0, 1, fun n _ => [CAL.LAST_TB_LO.TICKS n],
    fun _ _ => []⟩,
  ⟨0x188c, 0x40, 8, 0, 1, fun n _ => [CAL.LAST_TB_HI.TICKS n],
    fun _ _ => []⟩,
  ⟨0x1890, 0x40, 8, 0, 1, fun n _ => [CAL.TEMP.LAST n, CAL.TEMP.NOW n],
    fun _ _ => []⟩,
  ⟨0x1894, 0x40, 8, 0, 1, fun n _ => [CAL.EPOCH.EPOCH n],
    fun _ _ => []⟩,
  ⟨0x1898, 0x40, 8, 0, 1, fun n _ => [CAL.SUFF_VAR.VAR n],
    fun _ _ => []⟩,
  ⟨0x189c, 0x40, 8, 0, 1, fun n _ => [CAL.SUFF.FLAT n, CAL.SUFF.TONE n, CAL.SUFF.OFFSET_OK n, CAL.SUFF.GAIN_OK n, CAL.SUFF.SKEW_OK n, CAL.SUFF.BW_OK n],
    fun _ _ => []⟩,
  ⟨0x18a0, 0x40, 8, 0, 1, fun n _ => [CAL.AGE.PASS_AGE_S n, CAL.AGE.BG_AGE_S n],
    fun _ _ => []⟩,
  ⟨0x18a4, 0x40, 8, 0, 1, fun n _ => [CAL.CH_REJECTS.COUNT n, CAL.CH_REJECTS.SAT n],
    fun n _ => [(CAL.CH_REJECTS.SAT n, [CAL.CH_REJECTS.COUNT n])]⟩]

/-! Block CLK -/

/-- `CLK.REF.FREQ_SEL`, bits [0:0], R152 of 04_clocks_and_time_base.md. -/
def CLK.REF.FREQ_SEL : Fld := ⟨0x2000, 0, 1, 0, .ro⟩

/-- `CLK.REF.OK`, bits [1:1], R152 of 04_clocks_and_time_base.md. -/
def CLK.REF.OK : Fld := ⟨0x2000, 1, 1, 0, .ro⟩

/-- `CLK.REF.WARM`, bits [2:2], R152 of 04_clocks_and_time_base.md. -/
def CLK.REF.WARM : Fld := ⟨0x2000, 2, 1, 0, .ro⟩

/-- `CLK.REF.SAFELIGHT_SRC`, bits [3:3], R152 of 04_clocks_and_time_base.md. -/
def CLK.REF.SAFELIGHT_SRC : Fld := ⟨0x2000, 3, 1, 0, .ro⟩

/-- `CLK.REF.MEAS_KHZ`, bits [31:8], R152 of 04_clocks_and_time_base.md. -/
def CLK.REF.MEAS_KHZ : Fld := ⟨0x2000, 8, 24, 0, .ro⟩

/-- `CLK.REF_LOSS.COUNT`, bits [15:0], R152 of 04_clocks_and_time_base.md. -/
def CLK.REF_LOSS.COUNT : Fld := ⟨0x2004, 0, 16, 0, .ro⟩

/-- `CLK.REF_LOSS.SAT`, bits [31:31], R152 of 04_clocks_and_time_base.md. -/
def CLK.REF_LOSS.SAT : Fld := ⟨0x2004, 31, 1, 0, .w1c⟩

/-- `CLK.CTL.COMMIT`, bits [0:0], R152 of 04_clocks_and_time_base.md. -/
def CLK.CTL.COMMIT : Fld := ⟨0x2008, 0, 1, 0, .wo⟩

/-- `CLK.CTL.PENDING`, bits [8:8], R152 of 04_clocks_and_time_base.md. -/
def CLK.CTL.PENDING : Fld := ⟨0x2008, 8, 1, 0, .ro⟩

/-- `CLK.SYNC.MASK`, bits [5:1], R152 of 04_clocks_and_time_base.md. -/
def CLK.SYNC.MASK : Fld := ⟨0x200c, 1, 5, 0, .rwl⟩

/-- `CLK.SYNC.IGNORED`, bits [23:16], R152 of 04_clocks_and_time_base.md. -/
def CLK.SYNC.IGNORED : Fld := ⟨0x200c, 16, 8, 0, .ro⟩

/-- `CLK.SYNC.SAT`, bits [31:31], R152 of 04_clocks_and_time_base.md. -/
def CLK.SYNC.SAT : Fld := ⟨0x200c, 31, 1, 0, .w1c⟩

/-- `CLK.PLLn_CTL.GATE_ON_RELOCK`, bits [0:0], R152 of 04_clocks_and_time_base.md. -/
def CLK.PLLn_CTL.GATE_ON_RELOCK (n : Nat) : Fld := ⟨0x2040 + 0x10 * n, 0, 1, 0, if n = 3 ∨ n = 4 then .rw else .ro⟩

/-- `CLK.PLLn_FREQ.FREQ_KHZ`, bits [23:0], R152 of 04_clocks_and_time_base.md. -/
def CLK.PLLn_FREQ.FREQ_KHZ (n : Nat) : Fld := ⟨0x2044 + 0x10 * n, 0, 24, 0, if n = 1 then .rws else .ro⟩

/-- `CLK.PLLn_STATUS.LOCKED`, bits [0:0], R152 of 04_clocks_and_time_base.md. -/
def CLK.PLLn_STATUS.LOCKED (n : Nat) : Fld := ⟨0x2048 + 0x10 * n, 0, 1, 0, .ro⟩

/-- `CLK.PLLn_STATUS.COAST`, bits [1:1], R152 of 04_clocks_and_time_base.md. -/
def CLK.PLLn_STATUS.COAST (n : Nat) : Fld := ⟨0x2048 + 0x10 * n, 1, 1, 0, .ro⟩

/-- `CLK.PLLn_STATUS.RELOCK`, bits [2:2], R152 of 04_clocks_and_time_base.md. -/
def CLK.PLLn_STATUS.RELOCK (n : Nat) : Fld := ⟨0x2048 + 0x10 * n, 2, 1, 0, .ro⟩

/-- `CLK.PLLn_STATUS.GATED`, bits [3:3], R152 of 04_clocks_and_time_base.md. -/
def CLK.PLLn_STATUS.GATED (n : Nat) : Fld := ⟨0x2048 + 0x10 * n, 3, 1, 0, .ro⟩

/-- `CLK.PLLn_STATUS.BAND`, bits [12:8], R152 of 04_clocks_and_time_base.md. -/
def CLK.PLLn_STATUS.BAND (n : Nat) : Fld := ⟨0x2048 + 0x10 * n, 8, 5, 0, .ro⟩

/-- `CLK.PLLn_STATUS.ERROR`, bits [23:16], R152 of 04_clocks_and_time_base.md. -/
def CLK.PLLn_STATUS.ERROR (n : Nat) : Fld := ⟨0x2048 + 0x10 * n, 16, 8, 0, .ro⟩

/-- `CLK.PLLn_LOSS.COUNT`, bits [15:0], R152 of 04_clocks_and_time_base.md. -/
def CLK.PLLn_LOSS.COUNT (n : Nat) : Fld := ⟨0x204c + 0x10 * n, 0, 16, 0, .ro⟩

/-- `CLK.PLLn_LOSS.SAT`, bits [31:31], R152 of 04_clocks_and_time_base.md. -/
def CLK.PLLn_LOSS.SAT (n : Nat) : Fld := ⟨0x204c + 0x10 * n, 31, 1, 0, .w1c⟩

/-- The registers of block CLK. -/
def CLK.regs : List Reg := [
  ⟨0x2000, 0x0, 1, 0, 1, fun _ _ => [CLK.REF.FREQ_SEL, CLK.REF.OK, CLK.REF.WARM, CLK.REF.SAFELIGHT_SRC, CLK.REF.MEAS_KHZ],
    fun _ _ => []⟩,
  ⟨0x2004, 0x0, 1, 0, 1, fun _ _ => [CLK.REF_LOSS.COUNT, CLK.REF_LOSS.SAT],
    fun _ _ => [(CLK.REF_LOSS.SAT, [CLK.REF_LOSS.COUNT])]⟩,
  ⟨0x2008, 0x0, 1, 0, 1, fun _ _ => [CLK.CTL.COMMIT, CLK.CTL.PENDING],
    fun _ _ => []⟩,
  ⟨0x200c, 0x0, 1, 0, 1, fun _ _ => [CLK.SYNC.MASK, CLK.SYNC.IGNORED, CLK.SYNC.SAT],
    fun _ _ => [(CLK.SYNC.SAT, [CLK.SYNC.IGNORED])]⟩,
  ⟨0x2040, 0x10, 6, 0, 1, fun n _ => [CLK.PLLn_CTL.GATE_ON_RELOCK n],
    fun _ _ => []⟩,
  ⟨0x2044, 0x10, 6, 0, 1, fun n _ => [CLK.PLLn_FREQ.FREQ_KHZ n],
    fun _ _ => []⟩,
  ⟨0x2048, 0x10, 6, 0, 1, fun n _ => [CLK.PLLn_STATUS.LOCKED n, CLK.PLLn_STATUS.COAST n, CLK.PLLn_STATUS.RELOCK n, CLK.PLLn_STATUS.GATED n, CLK.PLLn_STATUS.BAND n, CLK.PLLn_STATUS.ERROR n],
    fun _ _ => []⟩,
  ⟨0x204c, 0x10, 6, 0, 1, fun n _ => [CLK.PLLn_LOSS.COUNT n, CLK.PLLn_LOSS.SAT n],
    fun n _ => [(CLK.PLLn_LOSS.SAT n, [CLK.PLLn_LOSS.COUNT n])]⟩]

/-! Block TB -/

/-- `TB.NOW_LO.TICKS`, bits [31:0], R154 of 04_clocks_and_time_base.md. -/
def TB.NOW_LO.TICKS : Fld := ⟨0x2400, 0, 32, 0, .ro⟩

/-- `TB.NOW_HI.TICKS`, bits [31:0], R154 of 04_clocks_and_time_base.md. -/
def TB.NOW_HI.TICKS : Fld := ⟨0x2404, 0, 32, 0, .ro⟩

/-- `TB.NOW_FRAC.FRAC`, bits [15:0], R154 of 04_clocks_and_time_base.md. -/
def TB.NOW_FRAC.FRAC : Fld := ⟨0x2408, 0, 16, 0, .ro⟩

/-- `TB.STATE.TB_STATE`, bits [4:0], R154 of 04_clocks_and_time_base.md. -/
def TB.STATE.TB_STATE : Fld := ⟨0x240c, 0, 5, 0, .ro⟩

/-- `TB.STATE.REPHASE`, bits [8:8], R154 of 04_clocks_and_time_base.md. -/
def TB.STATE.REPHASE : Fld := ⟨0x240c, 8, 1, 0, .ro⟩

/-- `TB.SET_LO.TICKS`, bits [31:0], R154 of 04_clocks_and_time_base.md. -/
def TB.SET_LO.TICKS : Fld := ⟨0x2410, 0, 32, 0, .rwi⟩

/-- `TB.SET_HI.TICKS`, bits [31:0], R154 of 04_clocks_and_time_base.md. -/
def TB.SET_HI.TICKS : Fld := ⟨0x2414, 0, 32, 0, .rwi⟩

/-- `TB.SET_CTL.ARM`, bits [0:0], R154 of 04_clocks_and_time_base.md. -/
def TB.SET_CTL.ARM : Fld := ⟨0x2418, 0, 1, 0, .rwi⟩

/-- `TB.SET_CTL.REFUSED`, bits [10:8], R154 of 04_clocks_and_time_base.md. -/
def TB.SET_CTL.REFUSED : Fld := ⟨0x2418, 8, 3, 0, .ro⟩

/-- `TB.KEEPER_LO.COUNT`, bits [31:0], R154 of 04_clocks_and_time_base.md. -/
def TB.KEEPER_LO.COUNT : Fld := ⟨0x241c, 0, 32, 0, .ro⟩

/-- `TB.KEEPER_HI.COUNT`, bits [31:0], R154 of 04_clocks_and_time_base.md. -/
def TB.KEEPER_HI.COUNT : Fld := ⟨0x2420, 0, 32, 0, .ro⟩

/-- `TB.HOLDOVER.MS`, bits [30:0], R154 of 04_clocks_and_time_base.md. -/
def TB.HOLDOVER.MS : Fld := ⟨0x2424, 0, 31, 0, .ro⟩

/-- `TB.HOLDOVER.SAT`, bits [31:31], R154 of 04_clocks_and_time_base.md. -/
def TB.HOLDOVER.SAT : Fld := ⟨0x2424, 31, 1, 0, .ro⟩

/-- `TB.SCLK_REF.RATIO`, bits [31:0], R154 of 04_clocks_and_time_base.md. -/
def TB.SCLK_REF.RATIO : Fld := ⟨0x2428, 0, 32, 0, .ro⟩

/-- `TB.SCLK_FIT.DEV_PPB`, bits [23:0], R154 of 04_clocks_and_time_base.md. -/
def TB.SCLK_FIT.DEV_PPB : Fld := ⟨0x242c, 0, 24, 0, .ro⟩

/-- `TB.SCLK_FIT.RESID`, bits [30:24], R154 of 04_clocks_and_time_base.md. -/
def TB.SCLK_FIT.RESID : Fld := ⟨0x242c, 24, 7, 0, .ro⟩

/-- `TB.SCLK_FIT.INCOHERENT`, bits [31:31], R154 of 04_clocks_and_time_base.md. -/
def TB.SCLK_FIT.INCOHERENT : Fld := ⟨0x242c, 31, 1, 0, .ro⟩

/-- `TB.SCLK_LIMIT.DEV_PPB`, bits [15:0], R154 of 04_clocks_and_time_base.md. -/
def TB.SCLK_LIMIT.DEV_PPB : Fld := ⟨0x2430, 0, 16, 0x3e8, .rw⟩

/-- `TB.SCLK_LIMIT.RESID`, bits [31:16], R154 of 04_clocks_and_time_base.md. -/
def TB.SCLK_LIMIT.RESID : Fld := ⟨0x2430, 16, 16, 0xc8, .rw⟩

/-- The registers of block TB. -/
def TB.regs : List Reg := [
  ⟨0x2400, 0x0, 1, 0, 1, fun _ _ => [TB.NOW_LO.TICKS],
    fun _ _ => []⟩,
  ⟨0x2404, 0x0, 1, 0, 1, fun _ _ => [TB.NOW_HI.TICKS],
    fun _ _ => []⟩,
  ⟨0x2408, 0x0, 1, 0, 1, fun _ _ => [TB.NOW_FRAC.FRAC],
    fun _ _ => []⟩,
  ⟨0x240c, 0x0, 1, 0, 1, fun _ _ => [TB.STATE.TB_STATE, TB.STATE.REPHASE],
    fun _ _ => []⟩,
  ⟨0x2410, 0x0, 1, 0, 1, fun _ _ => [TB.SET_LO.TICKS],
    fun _ _ => []⟩,
  ⟨0x2414, 0x0, 1, 0, 1, fun _ _ => [TB.SET_HI.TICKS],
    fun _ _ => []⟩,
  ⟨0x2418, 0x0, 1, 0, 1, fun _ _ => [TB.SET_CTL.ARM, TB.SET_CTL.REFUSED],
    fun _ _ => []⟩,
  ⟨0x241c, 0x0, 1, 0, 1, fun _ _ => [TB.KEEPER_LO.COUNT],
    fun _ _ => []⟩,
  ⟨0x2420, 0x0, 1, 0, 1, fun _ _ => [TB.KEEPER_HI.COUNT],
    fun _ _ => []⟩,
  ⟨0x2424, 0x0, 1, 0, 1, fun _ _ => [TB.HOLDOVER.MS, TB.HOLDOVER.SAT],
    fun _ _ => []⟩,
  ⟨0x2428, 0x0, 1, 0, 1, fun _ _ => [TB.SCLK_REF.RATIO],
    fun _ _ => []⟩,
  ⟨0x242c, 0x0, 1, 0, 1, fun _ _ => [TB.SCLK_FIT.DEV_PPB, TB.SCLK_FIT.RESID, TB.SCLK_FIT.INCOHERENT],
    fun _ _ => []⟩,
  ⟨0x2430, 0x0, 1, 0, 1, fun _ _ => [TB.SCLK_LIMIT.DEV_PPB, TB.SCLK_LIMIT.RESID],
    fun _ _ => []⟩]

/-! Block TDC -/

/-- `TDC.TEST.INPUT`, bits [6:0], R180 of 05_time_interval.md. -/
def TDC.TEST.INPUT : Fld := ⟨0x2480, 0, 7, 0, .rw⟩

/-- `TDC.TEST.ALL`, bits [7:7], R180 of 05_time_interval.md. -/
def TDC.TEST.ALL : Fld := ⟨0x2480, 7, 1, 0, .rw⟩

/-- `TDC.TEST.GO`, bits [8:8], R180 of 05_time_interval.md. -/
def TDC.TEST.GO : Fld := ⟨0x2480, 8, 1, 0, .wo⟩

/-- `TDC.TEST.BUSY`, bits [16:16], R180 of 05_time_interval.md. -/
def TDC.TEST.BUSY : Fld := ⟨0x2480, 16, 1, 0, .ro⟩

/-- `TDC.TEST.STATUS`, bits [18:17], R180 of 05_time_interval.md. -/
def TDC.TEST.STATUS : Fld := ⟨0x2480, 17, 2, 0, .ro⟩

/-- `TDC.TEST.REJECTS`, bits [31:24], R180 of 05_time_interval.md. -/
def TDC.TEST.REJECTS : Fld := ⟨0x2480, 24, 8, 0, .ro⟩

/-- `TDC.SPILL.ENTRIES`, bits [24:0], R180 of 05_time_interval.md. -/
def TDC.SPILL.ENTRIES : Fld := ⟨0x2484, 0, 25, 0, .ro⟩

/-- `TDC.SPILL.FULL`, bits [31:31], R180 of 05_time_interval.md. -/
def TDC.SPILL.FULL : Fld := ⟨0x2484, 31, 1, 0, .ro⟩

/-- `TDC.SPILL_LIMIT.PAGES`, bits [12:0], R180 of 05_time_interval.md. -/
def TDC.SPILL_LIMIT.PAGES : Fld := ⟨0x2488, 0, 13, 0x1000, .rwl⟩

/-- `TDC.LOSS.COUNT`, bits [30:0], R180 of 05_time_interval.md. -/
def TDC.LOSS.COUNT : Fld := ⟨0x248c, 0, 31, 0, .ro⟩

/-- `TDC.LOSS.SAT`, bits [31:31], R180 of 05_time_interval.md. -/
def TDC.LOSS.SAT : Fld := ⟨0x248c, 31, 1, 0, .w1c⟩

/-- `TDC.OVERRUN.COUNT`, bits [30:0], R180 of 05_time_interval.md. -/
def TDC.OVERRUN.COUNT : Fld := ⟨0x2490, 0, 31, 0, .ro⟩

/-- `TDC.OVERRUN.SAT`, bits [31:31], R180 of 05_time_interval.md. -/
def TDC.OVERRUN.SAT : Fld := ⟨0x2490, 31, 1, 0, .w1c⟩

/-- `TDC.DARKBUF.ENTRIES`, bits [8:0], R180 of 05_time_interval.md. -/
def TDC.DARKBUF.ENTRIES : Fld := ⟨0x2494, 0, 9, 0, .ro⟩

/-- `TDC.MEASm_CTL.EN`, bits [0:0], R180 of 05_time_interval.md. -/
def TDC.MEASm_CTL.EN (n : Nat) : Fld := ⟨0x24c0 + 0x10 * n, 0, 1, 0, .rw⟩

/-- `TDC.MEASm_CTL.START`, bits [14:8], R180 of 05_time_interval.md. -/
def TDC.MEASm_CTL.START (n : Nat) : Fld := ⟨0x24c0 + 0x10 * n, 8, 7, 0, .rw⟩

/-- `TDC.MEASm_CTL.STOP`, bits [22:16], R180 of 05_time_interval.md. -/
def TDC.MEASm_CTL.STOP (n : Nat) : Fld := ⟨0x24c0 + 0x10 * n, 16, 7, 0, .rw⟩

/-- `TDC.MEASm_OPEN.TICKS`, bits [31:0], R180 of 05_time_interval.md. -/
def TDC.MEASm_OPEN.TICKS (n : Nat) : Fld := ⟨0x24c4 + 0x10 * n, 0, 32, 0, .rw⟩

/-- `TDC.MEASm_CLOSE.TICKS`, bits [31:0], R180 of 05_time_interval.md. -/
def TDC.MEASm_CLOSE.TICKS (n : Nat) : Fld := ⟨0x24c8 + 0x10 * n, 0, 32, 0, .rw⟩

/-- `TDC.MEASm_COUNT.ACCEPT`, bits [14:0], R180 of 05_time_interval.md. -/
def TDC.MEASm_COUNT.ACCEPT (n : Nat) : Fld := ⟨0x24cc + 0x10 * n, 0, 15, 0, .ro⟩

/-- `TDC.MEASm_COUNT.ASAT`, bits [15:15], R180 of 05_time_interval.md. -/
def TDC.MEASm_COUNT.ASAT (n : Nat) : Fld := ⟨0x24cc + 0x10 * n, 15, 1, 0, .w1c⟩

/-- `TDC.MEASm_COUNT.REJECT`, bits [30:16], R180 of 05_time_interval.md. -/
def TDC.MEASm_COUNT.REJECT (n : Nat) : Fld := ⟨0x24cc + 0x10 * n, 16, 15, 0, .ro⟩

/-- `TDC.MEASm_COUNT.RSAT`, bits [31:31], R180 of 05_time_interval.md. -/
def TDC.MEASm_COUNT.RSAT (n : Nat) : Fld := ⟨0x24cc + 0x10 * n, 31, 1, 0, .w1c⟩

/-- `TDC.INi_CTL.EDGE`, bits [1:0], R180 of 05_time_interval.md. -/
def TDC.INi_CTL.EDGE (n : Nat) : Fld := ⟨0x25c0 + 0x8 * n, 0, 2, if n = 64 then 1 else 0, if n = 64 then .ro else .rw⟩

/-- `TDC.INi_CTL.DARK_STAMP`, bits [2:2], R180 of 05_time_interval.md. -/
def TDC.INi_CTL.DARK_STAMP (n : Nat) : Fld := ⟨0x25c0 + 0x8 * n, 2, 1, 0, if n = 64 then .ro else .rw⟩

/-- `TDC.INi_CTL.KEEP_REJECTED`, bits [3:3], R180 of 05_time_interval.md. -/
def TDC.INi_CTL.KEEP_REJECTED (n : Nat) : Fld := ⟨0x25c0 + 0x8 * n, 3, 1, 0, .rw⟩

/-- `TDC.INi_CTL.DELAY`, bits [31:12], R180 of 05_time_interval.md. -/
def TDC.INi_CTL.DELAY (n : Nat) : Fld := ⟨0x25c0 + 0x8 * n, 12, 20, if n = 64 then Config.markerDelayReset else 0, if n = 64 then .ro else .rwi⟩

/-- `TDC.INi_STATUS.VERNIER_OK`, bits [0:0], R180 of 05_time_interval.md. -/
def TDC.INi_STATUS.VERNIER_OK (n : Nat) : Fld := ⟨0x25c4 + 0x8 * n, 0, 1, 0, .ro⟩

/-- `TDC.INi_STATUS.METHOD`, bits [1:1], R180 of 05_time_interval.md, whose reset value 1 is taken against the 0 of R179 (DESIGN CHOICE,
notes/assumptions/112.md). -/
def TDC.INi_STATUS.METHOD (n : Nat) : Fld := ⟨0x25c4 + 0x8 * n, 1, 1, 1, .ro⟩

/-- `TDC.INi_STATUS.TESTING`, bits [2:2], R180 of 05_time_interval.md. -/
def TDC.INi_STATUS.TESTING (n : Nat) : Fld := ⟨0x25c4 + 0x8 * n, 2, 1, 0, .ro⟩

/-- `TDC.INi_STATUS.OVERRUN`, bits [3:3], R180 of 05_time_interval.md. -/
def TDC.INi_STATUS.OVERRUN (n : Nat) : Fld := ⟨0x25c4 + 0x8 * n, 3, 1, 0, .w1c⟩

/-- `TDC.INi_STATUS.LOSS`, bits [4:4], R180 of 05_time_interval.md. -/
def TDC.INi_STATUS.LOSS (n : Nat) : Fld := ⟨0x25c4 + 0x8 * n, 4, 1, 0, .w1c⟩

/-- `TDC.INi_STATUS.ON_DIE`, bits [29:16], R180 of 05_time_interval.md. -/
def TDC.INi_STATUS.ON_DIE (n : Nat) : Fld := ⟨0x25c4 + 0x8 * n, 16, 14, 0, .ro⟩

/-- The registers of block TDC. -/
def TDC.regs : List Reg := [
  ⟨0x2480, 0x0, 1, 0, 1, fun _ _ => [TDC.TEST.INPUT, TDC.TEST.ALL, TDC.TEST.GO, TDC.TEST.BUSY, TDC.TEST.STATUS, TDC.TEST.REJECTS],
    fun _ _ => []⟩,
  ⟨0x2484, 0x0, 1, 0, 1, fun _ _ => [TDC.SPILL.ENTRIES, TDC.SPILL.FULL],
    fun _ _ => []⟩,
  ⟨0x2488, 0x0, 1, 0, 1, fun _ _ => [TDC.SPILL_LIMIT.PAGES],
    fun _ _ => []⟩,
  ⟨0x248c, 0x0, 1, 0, 1, fun _ _ => [TDC.LOSS.COUNT, TDC.LOSS.SAT],
    fun _ _ => [(TDC.LOSS.SAT, [TDC.LOSS.COUNT])]⟩,
  ⟨0x2490, 0x0, 1, 0, 1, fun _ _ => [TDC.OVERRUN.COUNT, TDC.OVERRUN.SAT],
    fun _ _ => [(TDC.OVERRUN.SAT, [TDC.OVERRUN.COUNT])]⟩,
  ⟨0x2494, 0x0, 1, 0, 1, fun _ _ => [TDC.DARKBUF.ENTRIES],
    fun _ _ => []⟩,
  ⟨0x24c0, 0x10, 16, 0, 1, fun n _ => [TDC.MEASm_CTL.EN n, TDC.MEASm_CTL.START n, TDC.MEASm_CTL.STOP n],
    fun _ _ => []⟩,
  ⟨0x24c4, 0x10, 16, 0, 1, fun n _ => [TDC.MEASm_OPEN.TICKS n],
    fun _ _ => []⟩,
  ⟨0x24c8, 0x10, 16, 0, 1, fun n _ => [TDC.MEASm_CLOSE.TICKS n],
    fun _ _ => []⟩,
  ⟨0x24cc, 0x10, 16, 0, 1, fun n _ => [TDC.MEASm_COUNT.ACCEPT n, TDC.MEASm_COUNT.ASAT n, TDC.MEASm_COUNT.REJECT n, TDC.MEASm_COUNT.RSAT n],
    fun n _ => [(TDC.MEASm_COUNT.ASAT n, [TDC.MEASm_COUNT.ACCEPT n]), (TDC.MEASm_COUNT.RSAT n, [TDC.MEASm_COUNT.REJECT n])]⟩,
  ⟨0x25c0, 0x8, 65, 0, 1, fun n _ => [TDC.INi_CTL.EDGE n, TDC.INi_CTL.DARK_STAMP n, TDC.INi_CTL.KEEP_REJECTED n, TDC.INi_CTL.DELAY n],
    fun _ _ => []⟩,
  ⟨0x25c4, 0x8, 65, 0, 1, fun n _ => [TDC.INi_STATUS.VERNIER_OK n, TDC.INi_STATUS.METHOD n, TDC.INi_STATUS.TESTING n, TDC.INi_STATUS.OVERRUN n, TDC.INi_STATUS.LOSS n, TDC.INi_STATUS.ON_DIE n],
    fun _ _ => []⟩]

end Sys2Proof.Machine
end

