-- ==== Sys2Proof/Machine/RegsOut.lean ====
section
/-! DEFINITION. The registers of the blocks MCV, WIN, CMB, DRM, WAG, HPT, PRO: every field of the field tables of spec/,
with its address, lowest bit, width, reset value and access code, and the list of registers of each block.
A field of a replicated register takes the replica (and for a slice register also the slice) as argument. -/

namespace Sys2Proof.Machine

/-! Block MCV -/

/-- `MCV.CTL.CAL`, bits [0:0], R441 of 13_windows_and_monitor_converter.md. -/
def MCV.CTL.CAL : Fld := ⟨0x3c00, 0, 1, 0, .wo⟩

/-- `MCV.CTL.INJECT`, bits [1:1], R441 of 13_windows_and_monitor_converter.md. -/
def MCV.CTL.INJECT : Fld := ⟨0x3c00, 1, 1, 0, .wo⟩

/-- `MCV.CTL.POP`, bits [2:2], R441 of 13_windows_and_monitor_converter.md. -/
def MCV.CTL.POP : Fld := ⟨0x3c00, 2, 1, 0, .wo⟩

/-- `MCV.CFG.INJ_EN`, bits [0:0], R441 of 13_windows_and_monitor_converter.md. -/
def MCV.CFG.INJ_EN : Fld := ⟨0x3c04, 0, 1, 1, .rw⟩

/-- `MCV.CFG.USER`, bits [12:8], R441 of 13_windows_and_monitor_converter.md. -/
def MCV.CFG.USER : Fld := ⟨0x3c04, 8, 5, 0, .rw⟩

/-- `MCV.CFG.PERIOD_US`, bits [31:16], R441 of 13_windows_and_monitor_converter.md. -/
def MCV.CFG.PERIOD_US : Fld := ⟨0x3c04, 16, 16, 0x3e8, .rw⟩

/-- `MCV.STATUS.CAL_BUSY`, bits [0:0], R441 of 13_windows_and_monitor_converter.md. -/
def MCV.STATUS.CAL_BUSY : Fld := ⟨0x3c08, 0, 1, 0, .ro⟩

/-- `MCV.STATUS.CAL_DONE`, bits [1:1], R441 of 13_windows_and_monitor_converter.md. -/
def MCV.STATUS.CAL_DONE : Fld := ⟨0x3c08, 1, 1, 0, .ro⟩

/-- `MCV.STATUS.ENTRY`, bits [12:8], R441 of 13_windows_and_monitor_converter.md. -/
def MCV.STATUS.ENTRY : Fld := ⟨0x3c08, 8, 5, 0, .ro⟩

/-- `MCV.STATUS.QUEUE`, bits [18:16], R441 of 13_windows_and_monitor_converter.md. -/
def MCV.STATUS.QUEUE : Fld := ⟨0x3c08, 16, 3, 0, .ro⟩

/-- `MCV.STATUS.RESULTS`, bits [22:20], R441 of 13_windows_and_monitor_converter.md. -/
def MCV.STATUS.RESULTS : Fld := ⟨0x3c08, 20, 3, 0, .ro⟩

/-- `MCV.INJ_SEL.SEL`, bits [15:0], R441 of 13_windows_and_monitor_converter.md. -/
def MCV.INJ_SEL.SEL : Fld := ⟨0x3c0c, 0, 16, 0xffff, .rw⟩

/-- `MCV.INJ_SEL.TRIGGER`, bits [17:16], R441 of 13_windows_and_monitor_converter.md. -/
def MCV.INJ_SEL.TRIGGER : Fld := ⟨0x3c0c, 16, 2, 0, .rw⟩

/-- `MCV.INJ_SEL.WINDOW`, bits [24:20], R441 of 13_windows_and_monitor_converter.md. -/
def MCV.INJ_SEL.WINDOW : Fld := ⟨0x3c0c, 20, 5, 0, .rw⟩

/-- `MCV.INJ_TAG.VALID`, bits [0:0], R441 of 13_windows_and_monitor_converter.md. -/
def MCV.INJ_TAG.VALID : Fld := ⟨0x3c10, 0, 1, 0, .ro⟩

/-- `MCV.INJ_TAG.STATUS`, bits [2:1], R441 of 13_windows_and_monitor_converter.md. -/
def MCV.INJ_TAG.STATUS : Fld := ⟨0x3c10, 1, 2, 0, .ro⟩

/-- `MCV.INJ_TAG.DELAYED_BY_CAL`, bits [3:3], R441 of 13_windows_and_monitor_converter.md. -/
def MCV.INJ_TAG.DELAYED_BY_CAL : Fld := ⟨0x3c10, 3, 1, 0, .ro⟩

/-- `MCV.INJ_TAG.DARK_COARSE`, bits [4:4], R441 of 13_windows_and_monitor_converter.md. -/
def MCV.INJ_TAG.DARK_COARSE : Fld := ⟨0x3c10, 4, 1, 0, .ro⟩

/-- `MCV.INJ_TAG.TRIGGER`, bits [5:5], R441 of 13_windows_and_monitor_converter.md. -/
def MCV.INJ_TAG.TRIGGER : Fld := ⟨0x3c10, 5, 1, 0, .ro⟩

/-- `MCV.INJ_TAG.WINDOW`, bits [12:8], R441 of 13_windows_and_monitor_converter.md. -/
def MCV.INJ_TAG.WINDOW : Fld := ⟨0x3c10, 8, 5, 0, .ro⟩

/-- `MCV.INJ_TAG.SEQ`, bits [31:16], R441 of 13_windows_and_monitor_converter.md. -/
def MCV.INJ_TAG.SEQ : Fld := ⟨0x3c10, 16, 16, 0, .ro⟩

/-- `MCV.INJ_TB_LO.TICKS`, bits [31:0], R441 of 13_windows_and_monitor_converter.md. -/
def MCV.INJ_TB_LO.TICKS : Fld := ⟨0x3c14, 0, 32, 0, .ro⟩

/-- `MCV.INJ_TB_HI.TICKS`, bits [31:0], R441 of 13_windows_and_monitor_converter.md. -/
def MCV.INJ_TB_HI.TICKS : Fld := ⟨0x3c18, 0, 32, 0, .ro⟩

/-- `MCV.INJ_DATA01.CORE0`, bits [15:0], R441 of 13_windows_and_monitor_converter.md. -/
def MCV.INJ_DATA01.CORE0 : Fld := ⟨0x3c1c, 0, 16, 0, .ro⟩

/-- `MCV.INJ_DATA01.CORE1`, bits [31:16], R441 of 13_windows_and_monitor_converter.md. -/
def MCV.INJ_DATA01.CORE1 : Fld := ⟨0x3c1c, 16, 16, 0, .ro⟩

/-- `MCV.INJ_DATA23.CORE2`, bits [15:0], R441 of 13_windows_and_monitor_converter.md. -/
def MCV.INJ_DATA23.CORE2 : Fld := ⟨0x3c20, 0, 16, 0, .ro⟩

/-- `MCV.INJ_DATA23.CORE3`, bits [31:16], R441 of 13_windows_and_monitor_converter.md. -/
def MCV.INJ_DATA23.CORE3 : Fld := ⟨0x3c20, 16, 16, 0, .ro⟩

/-- `MCV.INJ_LOST.COUNT`, bits [30:0], R441 of 13_windows_and_monitor_converter.md. -/
def MCV.INJ_LOST.COUNT : Fld := ⟨0x3c24, 0, 31, 0, .ro⟩

/-- `MCV.INJ_LOST.SAT`, bits [31:31], R441 of 13_windows_and_monitor_converter.md. -/
def MCV.INJ_LOST.SAT : Fld := ⟨0x3c24, 31, 1, 0, .w1c⟩

/-- `MCV.OVERRUN.COUNT`, bits [30:0], R441 of 13_windows_and_monitor_converter.md. -/
def MCV.OVERRUN.COUNT : Fld := ⟨0x3c28, 0, 31, 0, .ro⟩

/-- `MCV.OVERRUN.SAT`, bits [31:31], R441 of 13_windows_and_monitor_converter.md. -/
def MCV.OVERRUN.SAT : Fld := ⟨0x3c28, 31, 1, 0, .w1c⟩

/-- `MCV.CALFk.OFFSET`, bits [15:0], R441 of 13_windows_and_monitor_converter.md. -/
def MCV.CALFk.OFFSET (n : Nat) : Fld := ⟨0x3c30 + 0x4 * n, 0, 16, 0, .ro⟩

/-- `MCV.CALFk.GAIN`, bits [31:16], R441 of 13_windows_and_monitor_converter.md. -/
def MCV.CALFk.GAIN (n : Nat) : Fld := ⟨0x3c30 + 0x4 * n, 16, 16, 0, .ro⟩

/-- `MCV.CAL_STATUS.COUNT`, bits [15:0], R441 of 13_windows_and_monitor_converter.md. -/
def MCV.CAL_STATUS.COUNT : Fld := ⟨0x3c40, 0, 16, 0, .ro⟩

/-- `MCV.CAL_STATUS.PENDING`, bits [16:16], R441 of 13_windows_and_monitor_converter.md. -/
def MCV.CAL_STATUS.PENDING : Fld := ⟨0x3c40, 16, 1, 0, .ro⟩

/-- `MCV.SEQe.SEL`, bits [15:0], R441 of 13_windows_and_monitor_converter.md. -/
def MCV.SEQe.SEL (n : Nat) : Fld := ⟨0x3c80 + 0x4 * n, 0, 16, [0x0000, 0x1111, 0x2222, 0x3333, 0x5555, 0x6666, 0x7777].getD n 0xFFFF, if n ≤ 6 then .ro else .rw⟩

/-- `MCV.INi.VALUE`, bits [15:0], R441 of 13_windows_and_monitor_converter.md. -/
def MCV.INi.VALUE (n : Nat) : Fld := ⟨0x3d00 + 0x4 * n, 0, 16, 0, .ro⟩

/-- `MCV.INi.PASS`, bits [30:16], R441 of 13_windows_and_monitor_converter.md. -/
def MCV.INi.PASS (n : Nat) : Fld := ⟨0x3d00 + 0x4 * n, 16, 15, 0, .ro⟩

/-- `MCV.INi.VALID`, bits [31:31], R441 of 13_windows_and_monitor_converter.md. -/
def MCV.INi.VALID (n : Nat) : Fld := ⟨0x3d00 + 0x4 * n, 31, 1, 0, .ro⟩

/-- The registers of block MCV. -/
def MCV.regs : List Reg := [
  ⟨0x3c00, 0x0, 1, 0, 1, fun _ _ => [MCV.CTL.CAL, MCV.CTL.INJECT, MCV.CTL.POP],
    fun _ _ => []⟩,
  ⟨0x3c04, 0x0, 1, 0, 1, fun _ _ => [MCV.CFG.INJ_EN, MCV.CFG.USER, MCV.CFG.PERIOD_US],
    fun _ _ => []⟩,
  ⟨0x3c08, 0x0, 1, 0, 1, fun _ _ => [MCV.STATUS.CAL_BUSY, MCV.STATUS.CAL_DONE, MCV.STATUS.ENTRY, MCV.STATUS.QUEUE, MCV.STATUS.RESULTS],
    fun _ _ => []⟩,
  ⟨0x3c0c, 0x0, 1, 0, 1, fun _ _ => [MCV.INJ_SEL.SEL, MCV.INJ_SEL.TRIGGER, MCV.INJ_SEL.WINDOW],
    fun _ _ => []⟩,
  ⟨0x3c10, 0x0, 1, 0, 1, fun _ _ => [MCV.INJ_TAG.VALID, MCV.INJ_TAG.STATUS, MCV.INJ_TAG.DELAYED_BY_CAL, MCV.INJ_TAG.DARK_COARSE, MCV.INJ_TAG.TRIGGER, MCV.INJ_TAG.WINDOW, MCV.INJ_TAG.SEQ],
    fun _ _ => []⟩,
  ⟨0x3c14, 0x0, 1, 0, 1, fun _ _ => [MCV.INJ_TB_LO.TICKS],
    fun _ _ => []⟩,
  ⟨0x3c18, 0x0, 1, 0, 1, fun _ _ => [MCV.INJ_TB_HI.TICKS],
    fun _ _ => []⟩,
  ⟨0x3c1c, 0x0, 1, 0, 1, fun _ _ => [MCV.INJ_DATA01.CORE0, MCV.INJ_DATA01.CORE1],
    fun _ _ => []⟩,
  ⟨0x3c20, 0x0, 1, 0, 1, fun _ _ => [MCV.INJ_DATA23.CORE2, MCV.INJ_DATA23.CORE3],
    fun _ _ => []⟩,
  ⟨0x3c24, 0x0, 1, 0, 1, fun _ _ => [MCV.INJ_LOST.COUNT, MCV.INJ_LOST.SAT],
    fun _ _ => [(MCV.INJ_LOST.SAT, [MCV.INJ_LOST.COUNT])]⟩,
  ⟨0x3c28, 0x0, 1, 0, 1, fun _ _ => [MCV.OVERRUN.COUNT, MCV.OVERRUN.SAT],
    fun _ _ => [(MCV.OVERRUN.SAT, [MCV.OVERRUN.COUNT])]⟩,
  ⟨0x3c30, 0x4, 4, 0, 1, fun n _ => [MCV.CALFk.OFFSET n, MCV.CALFk.GAIN n],
    fun _ _ => []⟩,
  ⟨0x3c40, 0x0, 1, 0, 1, fun _ _ => [MCV.CAL_STATUS.COUNT, MCV.CAL_STATUS.PENDING],
    fun _ _ => []⟩,
  ⟨0x3c80, 0x4, 32, 0, 1, fun n _ => [MCV.SEQe.SEL n],
    fun _ _ => []⟩,
  ⟨0x3d00, 0x4, 32, 0, 1, fun n _ => [MCV.INi.VALUE n, MCV.INi.PASS n, MCV.INi.VALID n],
    fun _ _ => []⟩]

/-! Block WIN -/

/-- `WIN.OUT.OUT`, bits [23:0], R439 of 13_windows_and_monitor_converter.md. -/
def WIN.OUT.OUT : Fld := ⟨0x4000, 0, 24, 0, .ro⟩

/-- `WIN.UNRESOLVED.WINDOWS`, bits [23:0], R439 of 13_windows_and_monitor_converter.md. -/
def WIN.UNRESOLVED.WINDOWS : Fld := ⟨0x4004, 0, 24, 16777215, .ro⟩

/-- `WIN.PENDING.WINDOWS`, bits [23:0], R439 of 13_windows_and_monitor_converter.md. -/
def WIN.PENDING.WINDOWS : Fld := ⟨0x4008, 0, 24, 0, .w1c⟩

/-- `WIN.RB_CTL.WINDOW`, bits [4:0], R439 of 13_windows_and_monitor_converter.md. -/
def WIN.RB_CTL.WINDOW : Fld := ⟨0x400c, 0, 5, 0, .rw⟩

/-- `WIN.RB_CTL.COMP`, bits [8:8], R439 of 13_windows_and_monitor_converter.md. -/
def WIN.RB_CTL.COMP : Fld := ⟨0x400c, 8, 1, 0, .rw⟩

/-- `WIN.RB_CTL.CHANNEL`, bits [14:12], R439 of 13_windows_and_monitor_converter.md. -/
def WIN.RB_CTL.CHANNEL : Fld := ⟨0x400c, 12, 3, 0, .rw⟩

/-- `WIN.RB_CTL.ANY`, bits [15:15], R439 of 13_windows_and_monitor_converter.md. -/
def WIN.RB_CTL.ANY : Fld := ⟨0x400c, 15, 1, 1, .rw⟩

/-- `WIN.RB_CTL.RANGE`, bits [17:16], R439 of 13_windows_and_monitor_converter.md. -/
def WIN.RB_CTL.RANGE : Fld := ⟨0x400c, 16, 2, 2, .rw⟩

/-- `WIN.RB_CTL.GO`, bits [24:24], R439 of 13_windows_and_monitor_converter.md. -/
def WIN.RB_CTL.GO : Fld := ⟨0x400c, 24, 1, 0, .wo⟩

/-- `WIN.RB_RESULT.VALUE`, bits [23:0], R439 of 13_windows_and_monitor_converter.md. -/
def WIN.RB_RESULT.VALUE : Fld := ⟨0x4010, 0, 24, 0, .ro⟩

/-- `WIN.RB_RESULT.STATUS`, bits [25:24], R439 of 13_windows_and_monitor_converter.md. -/
def WIN.RB_RESULT.STATUS : Fld := ⟨0x4010, 24, 2, 0, .ro⟩

/-- `WIN.RB_RESULT.BUSY`, bits [26:26], R439 of 13_windows_and_monitor_converter.md. -/
def WIN.RB_RESULT.BUSY : Fld := ⟨0x4010, 26, 1, 0, .ro⟩

/-- `WIN.RB_RESULT.CHANNEL`, bits [30:28], R439 of 13_windows_and_monitor_converter.md. -/
def WIN.RB_RESULT.CHANNEL : Fld := ⟨0x4010, 28, 3, 0, .ro⟩

/-- `WIN.Ww_CFG.EN`, bits [0:0], R439 of 13_windows_and_monitor_converter.md. -/
def WIN.Ww_CFG.EN (n : Nat) : Fld := ⟨0x4080 + 0x10 * n, 0, 1, 0, .rw⟩

/-- `WIN.Ww_CFG.OUT`, bits [2:1], R439 of 13_windows_and_monitor_converter.md. -/
def WIN.Ww_CFG.OUT (n : Nat) : Fld := ⟨0x4080 + 0x10 * n, 1, 2, 0, .rw⟩

/-- `WIN.Ww_CFG.RANGE`, bits [5:4], R439 of 13_windows_and_monitor_converter.md. -/
def WIN.Ww_CFG.RANGE (n : Nat) : Fld := ⟨0x4080 + 0x10 * n, 4, 2, 2, .rw⟩

/-- `WIN.Ww_CFG.HYST_U`, bits [11:8], R439 of 13_windows_and_monitor_converter.md. -/
def WIN.Ww_CFG.HYST_U (n : Nat) : Fld := ⟨0x4080 + 0x10 * n, 8, 4, 0, .rw⟩

/-- `WIN.Ww_CFG.HYST_L`, bits [15:12], R439 of 13_windows_and_monitor_converter.md. -/
def WIN.Ww_CFG.HYST_L (n : Nat) : Fld := ⟨0x4080 + 0x10 * n, 12, 4, 0, .rw⟩

/-- `WIN.Ww_CFG.IRQ`, bits [17:16], R439 of 13_windows_and_monitor_converter.md. -/
def WIN.Ww_CFG.IRQ (n : Nat) : Fld := ⟨0x4080 + 0x10 * n, 16, 2, 0, .rw⟩

/-- `WIN.Ww_CFG.ATTN`, bits [18:18], R439 of 13_windows_and_monitor_converter.md. -/
def WIN.Ww_CFG.ATTN (n : Nat) : Fld := ⟨0x4080 + 0x10 * n, 18, 1, 0, .rw⟩

/-- `WIN.Ww_CFG.IBI`, bits [19:19], R439 of 13_windows_and_monitor_converter.md. -/
def WIN.Ww_CFG.IBI (n : Nat) : Fld := ⟨0x4080 + 0x10 * n, 19, 1, 0, .rw⟩

/-- `WIN.Ww_CFG.WAKE`, bits [20:20], R439 of 13_windows_and_monitor_converter.md. -/
def WIN.Ww_CFG.WAKE (n : Nat) : Fld := ⟨0x4080 + 0x10 * n, 20, 1, 0, .rw⟩

/-- `WIN.Ww_THR.U`, bits [11:0], R439 of 13_windows_and_monitor_converter.md. -/
def WIN.Ww_THR.U (n : Nat) : Fld := ⟨0x4084 + 0x10 * n, 0, 12, 0xc00, .rw⟩

/-- `WIN.Ww_THR.L`, bits [27:16], R439 of 13_windows_and_monitor_converter.md. -/
def WIN.Ww_THR.L (n : Nat) : Fld := ⟨0x4084 + 0x10 * n, 16, 12, 0x400, .rw⟩

/-- `WIN.Ww_STATUS.ABOVE`, bits [0:0], R439 of 13_windows_and_monitor_converter.md. -/
def WIN.Ww_STATUS.ABOVE (n : Nat) : Fld := ⟨0x4088 + 0x10 * n, 0, 1, 0, .ro⟩

/-- `WIN.Ww_STATUS.BELOW`, bits [1:1], R439 of 13_windows_and_monitor_converter.md. -/
def WIN.Ww_STATUS.BELOW (n : Nat) : Fld := ⟨0x4088 + 0x10 * n, 1, 1, 0, .ro⟩

/-- `WIN.Ww_STATUS.OUT`, bits [2:2], R439 of 13_windows_and_monitor_converter.md. -/
def WIN.Ww_STATUS.OUT (n : Nat) : Fld := ⟨0x4088 + 0x10 * n, 2, 1, 0, .ro⟩

/-- `WIN.Ww_STATUS.UNRES_U`, bits [3:3], R439 of 13_windows_and_monitor_converter.md. -/
def WIN.Ww_STATUS.UNRES_U (n : Nat) : Fld := ⟨0x4088 + 0x10 * n, 3, 1, 1, .ro⟩

/-- `WIN.Ww_STATUS.UNRES_L`, bits [4:4], R439 of 13_windows_and_monitor_converter.md. -/
def WIN.Ww_STATUS.UNRES_L (n : Nat) : Fld := ⟨0x4088 + 0x10 * n, 4, 1, 1, .ro⟩

/-- `WIN.Ww_EVENTS.COUNT`, bits [30:0], R439 of 13_windows_and_monitor_converter.md. -/
def WIN.Ww_EVENTS.COUNT (n : Nat) : Fld := ⟨0x408c + 0x10 * n, 0, 31, 0, .ro⟩

/-- `WIN.Ww_EVENTS.SAT`, bits [31:31], R439 of 13_windows_and_monitor_converter.md. -/
def WIN.Ww_EVENTS.SAT (n : Nat) : Fld := ⟨0x408c + 0x10 * n, 31, 1, 0, .w1c⟩

/-- The registers of block WIN. -/
def WIN.regs : List Reg := [
  ⟨0x4000, 0x0, 1, 0, 1, fun _ _ => [WIN.OUT.OUT],
    fun _ _ => []⟩,
  ⟨0x4004, 0x0, 1, 0, 1, fun _ _ => [WIN.UNRESOLVED.WINDOWS],
    fun _ _ => []⟩,
  ⟨0x4008, 0x0, 1, 0, 1, fun _ _ => [WIN.PENDING.WINDOWS],
    fun _ _ => []⟩,
  ⟨0x400c, 0x0, 1, 0, 1, fun _ _ => [WIN.RB_CTL.WINDOW, WIN.RB_CTL.COMP, WIN.RB_CTL.CHANNEL, WIN.RB_CTL.ANY, WIN.RB_CTL.RANGE, WIN.RB_CTL.GO],
    fun _ _ => []⟩,
  ⟨0x4010, 0x0, 1, 0, 1, fun _ _ => [WIN.RB_RESULT.VALUE, WIN.RB_RESULT.STATUS, WIN.RB_RESULT.BUSY, WIN.RB_RESULT.CHANNEL],
    fun _ _ => []⟩,
  ⟨0x4080, 0x10, 24, 0, 1, fun n _ => [WIN.Ww_CFG.EN n, WIN.Ww_CFG.OUT n, WIN.Ww_CFG.RANGE n, WIN.Ww_CFG.HYST_U n, WIN.Ww_CFG.HYST_L n, WIN.Ww_CFG.IRQ n, WIN.Ww_CFG.ATTN n, WIN.Ww_CFG.IBI n, WIN.Ww_CFG.WAKE n],
    fun _ _ => []⟩,
  ⟨0x4084, 0x10, 24, 0, 1, fun n _ => [WIN.Ww_THR.U n, WIN.Ww_THR.L n],
    fun _ _ => []⟩,
  ⟨0x4088, 0x10, 24, 0, 1, fun n _ => [WIN.Ww_STATUS.ABOVE n, WIN.Ww_STATUS.BELOW n, WIN.Ww_STATUS.OUT n, WIN.Ww_STATUS.UNRES_U n, WIN.Ww_STATUS.UNRES_L n],
    fun _ _ => []⟩,
  ⟨0x408c, 0x10, 24, 0, 1, fun n _ => [WIN.Ww_EVENTS.COUNT n, WIN.Ww_EVENTS.SAT n],
    fun n _ => [(WIN.Ww_EVENTS.SAT n, [WIN.Ww_EVENTS.COUNT n])]⟩]

/-! Block CMB -/

/-- `CMB.CTL.CELLS`, bits [22:0], R350 of 10_comb.md. -/
def CMB.CTL.CELLS : Fld := ⟨0x4400, 0, 23, 0, .wo⟩

/-- `CMB.CTL.SUPER`, bits [26:24], R350 of 10_comb.md. -/
def CMB.CTL.SUPER : Fld := ⟨0x4400, 24, 3, 0, .wo⟩

/-- `CMB.CTL.CMD`, bits [29:28], R350 of 10_comb.md. -/
def CMB.CTL.CMD : Fld := ⟨0x4400, 28, 2, 0, .wo⟩

/-- `CMB.STATUS.RUNNING`, bits [7:0], R350 of 10_comb.md. -/
def CMB.STATUS.RUNNING : Fld := ⟨0x4404, 0, 8, 0, .ro⟩

/-- `CMB.STATUS.WAITING`, bits [15:8], R350 of 10_comb.md. -/
def CMB.STATUS.WAITING : Fld := ⟨0x4404, 8, 8, 0, .ro⟩

/-- `CMB.STATUS.TRAPPED`, bits [23:16], R350 of 10_comb.md. -/
def CMB.STATUS.TRAPPED : Fld := ⟨0x4404, 16, 8, 0, .ro⟩

/-- `CMB.STATUS.HALTED`, bits [31:24], R350 of 10_comb.md. -/
def CMB.STATUS.HALTED : Fld := ⟨0x4404, 24, 8, 0, .ro⟩

/-- `CMB.STORE.PROGRAMS`, bits [7:0], R350 of 10_comb.md. -/
def CMB.STORE.PROGRAMS : Fld := ⟨0x4408, 0, 8, 0, .ro⟩

/-- `CMB.STORE.BYTES`, bits [31:8], R350 of 10_comb.md. -/
def CMB.STORE.BYTES : Fld := ⟨0x4408, 8, 24, 0, .ro⟩

/-- `CMB.VIEW.CELL`, bits [7:0], R350 of 10_comb.md. -/
def CMB.VIEW.CELL : Fld := ⟨0x440c, 0, 8, 0, .rw⟩

/-- `CMB.ECC.COUNT`, bits [30:0], R350 of 10_comb.md. -/
def CMB.ECC.COUNT : Fld := ⟨0x4410, 0, 31, 0, .ro⟩

/-- `CMB.ECC.SAT`, bits [31:31], R350 of 10_comb.md. -/
def CMB.ECC.SAT : Fld := ⟨0x4410, 31, 1, 0, .w1c⟩

/-- `CMB.REFUSED.CAUSE`, bits [3:0], R350 of 10_comb.md. -/
def CMB.REFUSED.CAUSE : Fld := ⟨0x4414, 0, 4, 0, .ro⟩

/-- `CMB.REFUSED.CELL`, bits [15:8], R350 of 10_comb.md. -/
def CMB.REFUSED.CELL : Fld := ⟨0x4414, 8, 8, 0, .ro⟩

/-- `CMB.TRAPS.COUNT`, bits [30:0], R350 of 10_comb.md. -/
def CMB.TRAPS.COUNT : Fld := ⟨0x4418, 0, 31, 0, .ro⟩

/-- `CMB.TRAPS.SAT`, bits [31:31], R350 of 10_comb.md. -/
def CMB.TRAPS.SAT : Fld := ⟨0x4418, 31, 1, 0, .w1c⟩

/-- `CMB.SUPn_TAP.FRAMES`, bits [30:0], R350 of 10_comb.md. -/
def CMB.SUPn_TAP.FRAMES (n : Nat) : Fld := ⟨0x4440 + 0x10 * n, 0, 31, 0, .ro⟩

/-- `CMB.SUPn_TAP.SAT`, bits [31:31], R350 of 10_comb.md. -/
def CMB.SUPn_TAP.SAT (n : Nat) : Fld := ⟨0x4440 + 0x10 * n, 31, 1, 0, .w1c⟩

/-- `CMB.SUPn_SKIP.BUSY`, bits [14:0], R350 of 10_comb.md. -/
def CMB.SUPn_SKIP.BUSY (n : Nat) : Fld := ⟨0x4444 + 0x10 * n, 0, 15, 0, .ro⟩

/-- `CMB.SUPn_SKIP.BUSY_SAT`, bits [15:15], R350 of 10_comb.md. -/
def CMB.SUPn_SKIP.BUSY_SAT (n : Nat) : Fld := ⟨0x4444 + 0x10 * n, 15, 1, 0, .w1c⟩

/-- `CMB.SUPn_SKIP.LONG`, bits [30:16], R350 of 10_comb.md. -/
def CMB.SUPn_SKIP.LONG (n : Nat) : Fld := ⟨0x4444 + 0x10 * n, 16, 15, 0, .ro⟩

/-- `CMB.SUPn_SKIP.LONG_SAT`, bits [31:31], R350 of 10_comb.md. -/
def CMB.SUPn_SKIP.LONG_SAT (n : Nat) : Fld := ⟨0x4444 + 0x10 * n, 31, 1, 0, .w1c⟩

/-- `CMB.SUPn_RESULT.DROPPED`, bits [30:0], R350 of 10_comb.md. -/
def CMB.SUPn_RESULT.DROPPED (n : Nat) : Fld := ⟨0x4448 + 0x10 * n, 0, 31, 0, .ro⟩

/-- `CMB.SUPn_RESULT.SAT`, bits [31:31], R350 of 10_comb.md. -/
def CMB.SUPn_RESULT.SAT (n : Nat) : Fld := ⟨0x4448 + 0x10 * n, 31, 1, 0, .w1c⟩

/-- `CMB.SUPn_EST.STATE`, bits [2:0], R350 of 10_comb.md. -/
def CMB.SUPn_EST.STATE (n : Nat) : Fld := ⟨0x444c + 0x10 * n, 0, 3, 0, .ro⟩

/-- `CMB.SUPn_EST.VERSION`, bits [15:8], R350 of 10_comb.md. -/
def CMB.SUPn_EST.VERSION (n : Nat) : Fld := ⟨0x444c + 0x10 * n, 8, 8, 0, .ro⟩

/-- `CMB.SUPn_EST.WINDOWS`, bits [31:16], R350 of 10_comb.md. -/
def CMB.SUPn_EST.WINDOWS (n : Nat) : Fld := ⟨0x444c + 0x10 * n, 16, 16, 0, .ro⟩

/-- `CMB.CELLc.PROGRAM`, bits [7:0], R350 of 10_comb.md. -/
def CMB.CELLc.PROGRAM (n : Nat) : Fld := ⟨0x4500 + 0x4 * n, 0, 8, 0, .wo⟩

/-- `CMB.CELLc.CMD`, bits [10:8], R350 of 10_comb.md. -/
def CMB.CELLc.CMD (n : Nat) : Fld := ⟨0x4500 + 0x4 * n, 8, 3, 0, .wo⟩

/-- `CMB.CELLc.STATE`, bits [15:12], R350 of 10_comb.md. -/
def CMB.CELLc.STATE (n : Nat) : Fld := ⟨0x4500 + 0x4 * n, 12, 4, 0, .ro⟩

/-- `CMB.CELLc.LOADED`, bits [23:16], R350 of 10_comb.md. -/
def CMB.CELLc.LOADED (n : Nat) : Fld := ⟨0x4500 + 0x4 * n, 16, 8, 0xff, .ro⟩

/-- `CMB.CELLc.TRAP`, bits [27:24], R350 of 10_comb.md. -/
def CMB.CELLc.TRAP (n : Nat) : Fld := ⟨0x4500 + 0x4 * n, 24, 4, 0, .ro⟩

/-- `CMB.CELLc.RESERVED`, bits [28:28], R350 of 10_comb.md. -/
def CMB.CELLc.RESERVED (n : Nat) : Fld := ⟨0x4500 + 0x4 * n, 28, 1, if n % 24 = 23 then 1 else 0, .ro⟩

/-- The registers of block CMB. -/
def CMB.regs : List Reg := [
  ⟨0x4400, 0x0, 1, 0, 1, fun _ _ => [CMB.CTL.CELLS, CMB.CTL.SUPER, CMB.CTL.CMD],
    fun _ _ => []⟩,
  ⟨0x4404, 0x0, 1, 0, 1, fun _ _ => [CMB.STATUS.RUNNING, CMB.STATUS.WAITING, CMB.STATUS.TRAPPED, CMB.STATUS.HALTED],
    fun _ _ => []⟩,
  ⟨0x4408, 0x0, 1, 0, 1, fun _ _ => [CMB.STORE.PROGRAMS, CMB.STORE.BYTES],
    fun _ _ => []⟩,
  ⟨0x440c, 0x0, 1, 0, 1, fun _ _ => [CMB.VIEW.CELL],
    fun _ _ => []⟩,
  ⟨0x4410, 0x0, 1, 0, 1, fun _ _ => [CMB.ECC.COUNT, CMB.ECC.SAT],
    fun _ _ => [(CMB.ECC.SAT, [CMB.ECC.COUNT])]⟩,
  ⟨0x4414, 0x0, 1, 0, 1, fun _ _ => [CMB.REFUSED.CAUSE, CMB.REFUSED.CELL],
    fun _ _ => []⟩,
  ⟨0x4418, 0x0, 1, 0, 1, fun _ _ => [CMB.TRAPS.COUNT, CMB.TRAPS.SAT],
    fun _ _ => [(CMB.TRAPS.SAT, [CMB.TRAPS.COUNT])]⟩,
  ⟨0x4440, 0x10, 8, 0, 1, fun n _ => [CMB.SUPn_TAP.FRAMES n, CMB.SUPn_TAP.SAT n],
    fun n _ => [(CMB.SUPn_TAP.SAT n, [CMB.SUPn_TAP.FRAMES n])]⟩,
  ⟨0x4444, 0x10, 8, 0, 1, fun n _ => [CMB.SUPn_SKIP.BUSY n, CMB.SUPn_SKIP.BUSY_SAT n, CMB.SUPn_SKIP.LONG n, CMB.SUPn_SKIP.LONG_SAT n],
    fun n _ => [(CMB.SUPn_SKIP.BUSY_SAT n, [CMB.SUPn_SKIP.BUSY n]), (CMB.SUPn_SKIP.LONG_SAT n, [CMB.SUPn_SKIP.LONG n])]⟩,
  ⟨0x4448, 0x10, 8, 0, 1, fun n _ => [CMB.SUPn_RESULT.DROPPED n, CMB.SUPn_RESULT.SAT n],
    fun n _ => [(CMB.SUPn_RESULT.SAT n, [CMB.SUPn_RESULT.DROPPED n])]⟩,
  ⟨0x444c, 0x10, 8, 0, 1, fun n _ => [CMB.SUPn_EST.STATE n, CMB.SUPn_EST.VERSION n, CMB.SUPn_EST.WINDOWS n],
    fun _ _ => []⟩,
  ⟨0x4500, 0x4, 192, 0, 1, fun n _ => [CMB.CELLc.PROGRAM n, CMB.CELLc.CMD n, CMB.CELLc.STATE n, CMB.CELLc.LOADED n, CMB.CELLc.TRAP n, CMB.CELLc.RESERVED n],
    fun _ _ => []⟩]

/-! Block DRM -/

/-- `DRM.CFG.RATE`, bits [2:0], R380 of 11_archive_memory.md. -/
def DRM.CFG.RATE : Fld := ⟨0x4800, 0, 3, 0, .ro⟩

/-- `DRM.CFG.RANKS`, bits [4:4], R380 of 11_archive_memory.md. -/
def DRM.CFG.RANKS : Fld := ⟨0x4800, 4, 1, 0, .ro⟩

/-- `DRM.CFG.DENSITY`, bits [9:8], R380 of 11_archive_memory.md. -/
def DRM.CFG.DENSITY : Fld := ⟨0x4800, 8, 2, 0, .ro⟩

/-- `DRM.CFG.CAPACITY_GB`, bits [23:16], R380 of 11_archive_memory.md. -/
def DRM.CFG.CAPACITY_GB : Fld := ⟨0x4800, 16, 8, 0, .ro⟩

/-- `DRM.MAP.GRAIN`, bits [4:0], R380 of 11_archive_memory.md. -/
def DRM.MAP.GRAIN : Fld := ⟨0x4804, 0, 5, 0xc, .rwi⟩

/-- `DRM.STATE.STATE`, bits [2:0], R380 of 11_archive_memory.md. -/
def DRM.STATE.STATE : Fld := ⟨0x4808, 0, 3, 0, .ro⟩

/-- `DRM.STATE.REFRESH_2X`, bits [4:4], R380 of 11_archive_memory.md. -/
def DRM.STATE.REFRESH_2X : Fld := ⟨0x4808, 4, 1, 0, .ro⟩

/-- `DRM.WM.LOW`, bits [5:0], R380 of 11_archive_memory.md. -/
def DRM.WM.LOW : Fld := ⟨0x480c, 0, 6, 0x10, .rw⟩

/-- `DRM.WM.HIGH`, bits [13:8], R380 of 11_archive_memory.md. -/
def DRM.WM.HIGH : Fld := ⟨0x480c, 8, 6, 0x30, .rw⟩

/-- `DRM.PORTk_TARGET.US`, bits [9:0], R380 of 11_archive_memory.md. -/
def DRM.PORTk_TARGET.US (n : Nat) : Fld := ⟨0x4810 + 0x4 * n, 0, 10, [2, 5, 20, 50].getD n 0, .rw⟩

/-- `DRM.LATE.COUNT`, bits [30:0], R380 of 11_archive_memory.md. -/
def DRM.LATE.COUNT : Fld := ⟨0x4820, 0, 31, 0, .ro⟩

/-- `DRM.LATE.SAT`, bits [31:31], R380 of 11_archive_memory.md. -/
def DRM.LATE.SAT : Fld := ⟨0x4820, 31, 1, 0, .w1c⟩

/-- `DRM.HAZARD.COUNT`, bits [30:0], R380 of 11_archive_memory.md. -/
def DRM.HAZARD.COUNT : Fld := ⟨0x4824, 0, 31, 0, .ro⟩

/-- `DRM.HAZARD.SAT`, bits [31:31], R380 of 11_archive_memory.md. -/
def DRM.HAZARD.SAT : Fld := ⟨0x4824, 31, 1, 0, .w1c⟩

/-- `DRM.SR_CTL.IDLE_EN`, bits [0:0], R380 of 11_archive_memory.md. -/
def DRM.SR_CTL.IDLE_EN : Fld := ⟨0x4828, 0, 1, 1, .rw⟩

/-- `DRM.SR_CTL.IDLE_US`, bits [31:16], R380 of 11_archive_memory.md. -/
def DRM.SR_CTL.IDLE_US : Fld := ⟨0x4828, 16, 16, 0x64, .rw⟩

/-- `DRM.SR_STATUS.ENTRIES`, bits [30:0], R380 of 11_archive_memory.md. -/
def DRM.SR_STATUS.ENTRIES : Fld := ⟨0x482c, 0, 31, 0, .ro⟩

/-- `DRM.ECC.COUNT`, bits [30:0], R380 of 11_archive_memory.md. -/
def DRM.ECC.COUNT : Fld := ⟨0x4830, 0, 31, 0, .ro⟩

/-- `DRM.ECC.SAT`, bits [31:31], R380 of 11_archive_memory.md. -/
def DRM.ECC.SAT : Fld := ⟨0x4830, 31, 1, 0, .w1c⟩

/-- `DRM.SCRUB.PASSES`, bits [31:0], R380 of 11_archive_memory.md. -/
def DRM.SCRUB.PASSES : Fld := ⟨0x4834, 0, 32, 0, .ro⟩

/-- `DRM.TRACK.FORCED`, bits [30:0], R380 of 11_archive_memory.md. -/
def DRM.TRACK.FORCED : Fld := ⟨0x4838, 0, 31, 0, .ro⟩

/-- `DRM.TRACK.SAT`, bits [31:31], R380 of 11_archive_memory.md. -/
def DRM.TRACK.SAT : Fld := ⟨0x4838, 31, 1, 0, .w1c⟩

/-- `DRM.ARCH_CFG.IDX_PAGES`, bits [12:0], R380 of 11_archive_memory.md. -/
def DRM.ARCH_CFG.IDX_PAGES : Fld := ⟨0x483c, 0, 13, 0x40, .rwl⟩

/-- `DRM.ARCH_CFG.FULL`, bits [16:16], R380 of 11_archive_memory.md. -/
def DRM.ARCH_CFG.FULL : Fld := ⟨0x483c, 16, 1, 0, .rwl⟩

/-- `DRM.ARCH_BASE.PAGES`, bits [21:0], R380 of 11_archive_memory.md. -/
def DRM.ARCH_BASE.PAGES : Fld := ⟨0x4840, 0, 22, 0, .rwl⟩

/-- `DRM.ARCH_SIZE.PAGES`, bits [21:0], R380 of 11_archive_memory.md. -/
def DRM.ARCH_SIZE.PAGES : Fld := ⟨0x4844, 0, 22, 0, .rwl⟩

/-- `DRM.ARCH_HEAD.RECORD`, bits [31:0], R380 of 11_archive_memory.md. -/
def DRM.ARCH_HEAD.RECORD : Fld := ⟨0x4848, 0, 32, 0, .ro⟩

/-- `DRM.ARCH_TAIL.RECORD`, bits [31:0], R380 of 11_archive_memory.md. -/
def DRM.ARCH_TAIL.RECORD : Fld := ⟨0x484c, 0, 32, 0, .ro⟩

/-- `DRM.ARCH_TRIM.RECORD`, bits [31:0], R380 of 11_archive_memory.md. -/
def DRM.ARCH_TRIM.RECORD : Fld := ⟨0x4850, 0, 32, 0, .wo⟩

/-- `DRM.ARCH_STATUS.USED`, bits [21:0], R380 of 11_archive_memory.md. -/
def DRM.ARCH_STATUS.USED : Fld := ⟨0x4854, 0, 22, 0, .ro⟩

/-- `DRM.ARCH_STATUS.STAGING`, bits [28:24], R380 of 11_archive_memory.md. -/
def DRM.ARCH_STATUS.STAGING : Fld := ⟨0x4854, 24, 5, 0, .ro⟩

/-- `DRM.ARCH_STATUS.FULL`, bits [29:29], R380 of 11_archive_memory.md. -/
def DRM.ARCH_STATUS.FULL : Fld := ⟨0x4854, 29, 1, 0, .ro⟩

/-- `DRM.ARCH_STATUS.TOO_LONG`, bits [30:30], R380 of 11_archive_memory.md. -/
def DRM.ARCH_STATUS.TOO_LONG : Fld := ⟨0x4854, 30, 1, 0, .ro⟩

/-- The registers of block DRM. -/
def DRM.regs : List Reg := [
  ⟨0x4800, 0x0, 1, 0, 1, fun _ _ => [DRM.CFG.RATE, DRM.CFG.RANKS, DRM.CFG.DENSITY, DRM.CFG.CAPACITY_GB],
    fun _ _ => []⟩,
  ⟨0x4804, 0x0, 1, 0, 1, fun _ _ => [DRM.MAP.GRAIN],
    fun _ _ => []⟩,
  ⟨0x4808, 0x0, 1, 0, 1, fun _ _ => [DRM.STATE.STATE, DRM.STATE.REFRESH_2X],
    fun _ _ => []⟩,
  ⟨0x480c, 0x0, 1, 0, 1, fun _ _ => [DRM.WM.LOW, DRM.WM.HIGH],
    fun _ _ => []⟩,
  ⟨0x4810, 0x4, 4, 0, 1, fun n _ => [DRM.PORTk_TARGET.US n],
    fun _ _ => []⟩,
  ⟨0x4820, 0x0, 1, 0, 1, fun _ _ => [DRM.LATE.COUNT, DRM.LATE.SAT],
    fun _ _ => [(DRM.LATE.SAT, [DRM.LATE.COUNT])]⟩,
  ⟨0x4824, 0x0, 1, 0, 1, fun _ _ => [DRM.HAZARD.COUNT, DRM.HAZARD.SAT],
    fun _ _ => [(DRM.HAZARD.SAT, [DRM.HAZARD.COUNT])]⟩,
  ⟨0x4828, 0x0, 1, 0, 1, fun _ _ => [DRM.SR_CTL.IDLE_EN, DRM.SR_CTL.IDLE_US],
    fun _ _ => []⟩,
  ⟨0x482c, 0x0, 1, 0, 1, fun _ _ => [DRM.SR_STATUS.ENTRIES],
    fun _ _ => []⟩,
  ⟨0x4830, 0x0, 1, 0, 1, fun _ _ => [DRM.ECC.COUNT, DRM.ECC.SAT],
    fun _ _ => [(DRM.ECC.SAT, [DRM.ECC.COUNT])]⟩,
  ⟨0x4834, 0x0, 1, 0, 1, fun _ _ => [DRM.SCRUB.PASSES],
    fun _ _ => []⟩,
  ⟨0x4838, 0x0, 1, 0, 1, fun _ _ => [DRM.TRACK.FORCED, DRM.TRACK.SAT],
    fun _ _ => [(DRM.TRACK.SAT, [DRM.TRACK.FORCED])]⟩,
  ⟨0x483c, 0x0, 1, 0, 1, fun _ _ => [DRM.ARCH_CFG.IDX_PAGES, DRM.ARCH_CFG.FULL],
    fun _ _ => []⟩,
  ⟨0x4840, 0x0, 1, 0, 1, fun _ _ => [DRM.ARCH_BASE.PAGES],
    fun _ _ => []⟩,
  ⟨0x4844, 0x0, 1, 0, 1, fun _ _ => [DRM.ARCH_SIZE.PAGES],
    fun _ _ => []⟩,
  ⟨0x4848, 0x0, 1, 0, 1, fun _ _ => [DRM.ARCH_HEAD.RECORD],
    fun _ _ => []⟩,
  ⟨0x484c, 0x0, 1, 0, 1, fun _ _ => [DRM.ARCH_TAIL.RECORD],
    fun _ _ => []⟩,
  ⟨0x4850, 0x0, 1, 0, 1, fun _ _ => [DRM.ARCH_TRIM.RECORD],
    fun _ _ => []⟩,
  ⟨0x4854, 0x0, 1, 0, 1, fun _ _ => [DRM.ARCH_STATUS.USED, DRM.ARCH_STATUS.STAGING, DRM.ARCH_STATUS.FULL, DRM.ARCH_STATUS.TOO_LONG],
    fun _ _ => []⟩]

/-! Block WAG -/

/-- `WAG.CFG.ETHERTYPE`, bits [15:0], R417 of 12_host_ports_and_waggle.md. -/
def WAG.CFG.ETHERTYPE : Fld := ⟨0x5000, 0, 16, 0x88b5, .rwi⟩

/-- `WAG.CFG.TAG_ALL`, bits [16:16], R417 of 12_host_ports_and_waggle.md. -/
def WAG.CFG.TAG_ALL : Fld := ⟨0x5000, 16, 1, 0, .rwi⟩

/-- `WAG.TIMERS.RTO_US`, bits [15:0], R417 of 12_host_ports_and_waggle.md. -/
def WAG.TIMERS.RTO_US : Fld := ⟨0x5004, 0, 16, 0xc8, .rwi⟩

/-- `WAG.TIMERS.ABSENT_MS`, bits [31:16], R417 of 12_host_ports_and_waggle.md. -/
def WAG.TIMERS.ABSENT_MS : Fld := ⟨0x5004, 16, 16, 0x1f4, .rwi⟩

/-- `WAG.LEASE.MS`, bits [15:0], R417 of 12_host_ports_and_waggle.md. -/
def WAG.LEASE.MS : Fld := ⟨0x5008, 0, 16, 0x7d0, .rwi⟩

/-- `WAG.LEASE.RESUME_S`, bits [31:16], R417 of 12_host_ports_and_waggle.md. -/
def WAG.LEASE.RESUME_S : Fld := ⟨0x5008, 16, 16, 0x3c, .rwi⟩

/-- `WAG.HOLD_LO.PORTS`, bits [31:0], R417 of 12_host_ports_and_waggle.md. -/
def WAG.HOLD_LO.PORTS : Fld := ⟨0x500c, 0, 32, 4294967295, .ro⟩

/-- `WAG.HOLD_HI.PORTS`, bits [31:0], R417 of 12_host_ports_and_waggle.md. -/
def WAG.HOLD_HI.PORTS : Fld := ⟨0x5010, 0, 32, 4294967295, .ro⟩

/-- `WAG.HOLD_DEV.PORT`, bits [7:0], R417 of 12_host_ports_and_waggle.md. -/
def WAG.HOLD_DEV.PORT : Fld := ⟨0x5014, 0, 8, 0xff, .ro⟩

/-- `WAG.SESSIONS.OPEN`, bits [6:0], R417 of 12_host_ports_and_waggle.md. -/
def WAG.SESSIONS.OPEN : Fld := ⟨0x5018, 0, 7, 0, .ro⟩

/-- `WAG.SESSIONS.ABSENT`, bits [14:8], R417 of 12_host_ports_and_waggle.md. -/
def WAG.SESSIONS.ABSENT : Fld := ⟨0x5018, 8, 7, 0, .ro⟩

/-- `WAG.SKIP.COUNT`, bits [30:0], R417 of 12_host_ports_and_waggle.md. -/
def WAG.SKIP.COUNT : Fld := ⟨0x501c, 0, 31, 0, .ro⟩

/-- `WAG.SKIP.SAT`, bits [31:31], R417 of 12_host_ports_and_waggle.md. -/
def WAG.SKIP.SAT : Fld := ⟨0x501c, 31, 1, 0, .w1c⟩

/-- `WAG.HOSTILE.COUNT`, bits [30:0], R417 of 12_host_ports_and_waggle.md. -/
def WAG.HOSTILE.COUNT : Fld := ⟨0x5020, 0, 31, 0, .ro⟩

/-- `WAG.HOSTILE.SAT`, bits [31:31], R417 of 12_host_ports_and_waggle.md. -/
def WAG.HOSTILE.SAT : Fld := ⟨0x5020, 31, 1, 0, .w1c⟩

/-- `WAG.VIEW.PORT`, bits [5:0], R417 of 12_host_ports_and_waggle.md. -/
def WAG.VIEW.PORT : Fld := ⟨0x5024, 0, 6, 0, .rw⟩

/-- `WAG.VIEW.CLEAR`, bits [8:8], R417 of 12_host_ports_and_waggle.md. -/
def WAG.VIEW.CLEAR : Fld := ⟨0x5024, 8, 1, 0, .wo⟩

/-- `WAG.REFUSED.STATUS`, bits [3:0], R417 of 12_host_ports_and_waggle.md. -/
def WAG.REFUSED.STATUS : Fld := ⟨0x5028, 0, 4, 0, .ro⟩

/-- `WAG.REFUSED.PORT`, bits [13:8], R417 of 12_host_ports_and_waggle.md. -/
def WAG.REFUSED.PORT : Fld := ⟨0x5028, 8, 6, 0, .ro⟩

/-- `WAG.MAC_LO.ADDR`, bits [31:0], R417 of 12_host_ports_and_waggle.md. -/
def WAG.MAC_LO.ADDR : Fld := ⟨0x502c, 0, 32, 0, .ro⟩

/-- `WAG.MAC_HI.ADDR`, bits [15:0], R417 of 12_host_ports_and_waggle.md. -/
def WAG.MAC_HI.ADDR : Fld := ⟨0x5030, 0, 16, 0, .ro⟩

/-- The registers of block WAG. -/
def WAG.regs : List Reg := [
  ⟨0x5000, 0x0, 1, 0, 1, fun _ _ => [WAG.CFG.ETHERTYPE, WAG.CFG.TAG_ALL],
    fun _ _ => []⟩,
  ⟨0x5004, 0x0, 1, 0, 1, fun _ _ => [WAG.TIMERS.RTO_US, WAG.TIMERS.ABSENT_MS],
    fun _ _ => []⟩,
  ⟨0x5008, 0x0, 1, 0, 1, fun _ _ => [WAG.LEASE.MS, WAG.LEASE.RESUME_S],
    fun _ _ => []⟩,
  ⟨0x500c, 0x0, 1, 0, 1, fun _ _ => [WAG.HOLD_LO.PORTS],
    fun _ _ => []⟩,
  ⟨0x5010, 0x0, 1, 0, 1, fun _ _ => [WAG.HOLD_HI.PORTS],
    fun _ _ => []⟩,
  ⟨0x5014, 0x0, 1, 0, 1, fun _ _ => [WAG.HOLD_DEV.PORT],
    fun _ _ => []⟩,
  ⟨0x5018, 0x0, 1, 0, 1, fun _ _ => [WAG.SESSIONS.OPEN, WAG.SESSIONS.ABSENT],
    fun _ _ => []⟩,
  ⟨0x501c, 0x0, 1, 0, 1, fun _ _ => [WAG.SKIP.COUNT, WAG.SKIP.SAT],
    fun _ _ => [(WAG.SKIP.SAT, [WAG.SKIP.COUNT])]⟩,
  ⟨0x5020, 0x0, 1, 0, 1, fun _ _ => [WAG.HOSTILE.COUNT, WAG.HOSTILE.SAT],
    fun _ _ => [(WAG.HOSTILE.SAT, [WAG.HOSTILE.COUNT])]⟩,
  ⟨0x5024, 0x0, 1, 0, 1, fun _ _ => [WAG.VIEW.PORT, WAG.VIEW.CLEAR],
    fun _ _ => []⟩,
  ⟨0x5028, 0x0, 1, 0, 1, fun _ _ => [WAG.REFUSED.STATUS, WAG.REFUSED.PORT],
    fun _ _ => []⟩,
  ⟨0x502c, 0x0, 1, 0, 1, fun _ _ => [WAG.MAC_LO.ADDR],
    fun _ _ => []⟩,
  ⟨0x5030, 0x0, 1, 0, 1, fun _ _ => [WAG.MAC_HI.ADDR],
    fun _ _ => []⟩]

/-! Block HPT -/

/-- `HPT.Gg_CFG.MODE`, bits [0:0], R417 of 12_host_ports_and_waggle.md. -/
def HPT.Gg_CFG.MODE (n : Nat) : Fld := ⟨0x5040 + 0x4 * n, 0, 1, 0, .rwi⟩

/-- `HPT.Gg_CFG.MEDIUM`, bits [1:1], R417 of 12_host_ports_and_waggle.md. -/
def HPT.Gg_CFG.MEDIUM (n : Nat) : Fld := ⟨0x5040 + 0x4 * n, 1, 1, 0, .rwi⟩

/-- `HPT.Gg_CFG.FEC`, bits [2:2], R417 of 12_host_ports_and_waggle.md. -/
def HPT.Gg_CFG.FEC (n : Nat) : Fld := ⟨0x5040 + 0x4 * n, 2, 1, 0, .rwi⟩

/-- `HPT.Gg_STATUS.LINK`, bits [3:0], R417 of 12_host_ports_and_waggle.md. -/
def HPT.Gg_STATUS.LINK (n : Nat) : Fld := ⟨0x5080 + 0x4 * n, 0, 4, 0, .ro⟩

/-- `HPT.Gg_STATUS.TRAINED`, bits [7:4], R417 of 12_host_ports_and_waggle.md. -/
def HPT.Gg_STATUS.TRAINED (n : Nat) : Fld := ⟨0x5080 + 0x4 * n, 4, 4, 0, .ro⟩

/-- `HPT.Gg_STATUS.DROPS`, bits [23:8], R417 of 12_host_ports_and_waggle.md. -/
def HPT.Gg_STATUS.DROPS (n : Nat) : Fld := ⟨0x5080 + 0x4 * n, 8, 16, 0, .ro⟩

/-- `HPT.Pp_CTL.EN`, bits [0:0], R417 of 12_host_ports_and_waggle.md. -/
def HPT.Pp_CTL.EN (n : Nat) : Fld := ⟨0x5400 + 0x10 * n, 0, 1, 0, .rwi⟩

/-- `HPT.Pp_CTL.JUMBO`, bits [1:1], R417 of 12_host_ports_and_waggle.md. -/
def HPT.Pp_CTL.JUMBO (n : Nat) : Fld := ⟨0x5400 + 0x10 * n, 1, 1, 0, .rwi⟩

/-- `HPT.Pp_CTL.REOPEN`, bits [2:2], R417 of 12_host_ports_and_waggle.md. -/
def HPT.Pp_CTL.REOPEN (n : Nat) : Fld := ⟨0x5400 + 0x10 * n, 2, 1, 0, .wo⟩

/-- `HPT.Pp_VLAN.VID`, bits [11:0], R417 of 12_host_ports_and_waggle.md. -/
def HPT.Pp_VLAN.VID (n : Nat) : Fld := ⟨0x5404 + 0x10 * n, 0, 12, 0, .rwi⟩

/-- `HPT.Pp_VLAN.PCP`, bits [14:12], R417 of 12_host_ports_and_waggle.md. -/
def HPT.Pp_VLAN.PCP (n : Nat) : Fld := ⟨0x5404 + 0x10 * n, 12, 3, 0, .rwi⟩

/-- `HPT.Pp_VLAN.TAGGED`, bits [15:15], R417 of 12_host_ports_and_waggle.md. -/
def HPT.Pp_VLAN.TAGGED (n : Nat) : Fld := ⟨0x5404 + 0x10 * n, 15, 1, 0, .rwi⟩

/-- `HPT.Pp_STATUS.STATE`, bits [2:0], R417 of 12_host_ports_and_waggle.md. -/
def HPT.Pp_STATUS.STATE (n : Nat) : Fld := ⟨0x5408 + 0x10 * n, 0, 3, 0, .ro⟩

/-- `HPT.Pp_STATUS.LINK`, bits [3:3], R417 of 12_host_ports_and_waggle.md. -/
def HPT.Pp_STATUS.LINK (n : Nat) : Fld := ⟨0x5408 + 0x10 * n, 3, 1, 0, .ro⟩

/-- `HPT.Pp_STATUS.CLOSED`, bits [4:4], R417 of 12_host_ports_and_waggle.md. -/
def HPT.Pp_STATUS.CLOSED (n : Nat) : Fld := ⟨0x5408 + 0x10 * n, 4, 1, 0, .ro⟩

/-- `HPT.Pp_STATUS.TAGS`, bits [5:5], R417 of 12_host_ports_and_waggle.md. -/
def HPT.Pp_STATUS.TAGS (n : Nat) : Fld := ⟨0x5408 + 0x10 * n, 5, 1, 0, .ro⟩

/-- `HPT.Pp_STATUS.ABSENT_PORT`, bits [6:6], R417 of 12_host_ports_and_waggle.md. -/
def HPT.Pp_STATUS.ABSENT_PORT (n : Nat) : Fld := ⟨0x5408 + 0x10 * n, 6, 1, 0, .ro⟩

/-- `HPT.Pp_STATUS.STREAMS`, bits [15:8], R417 of 12_host_ports_and_waggle.md. -/
def HPT.Pp_STATUS.STREAMS (n : Nat) : Fld := ⟨0x5408 + 0x10 * n, 8, 8, 0, .ro⟩

/-- `HPT.Pp_STATUS.P_MAX`, bits [23:16], R417 of 12_host_ports_and_waggle.md. -/
def HPT.Pp_STATUS.P_MAX (n : Nat) : Fld := ⟨0x5408 + 0x10 * n, 16, 8, 0, .ro⟩

/-- `HPT.Pp_HOST.HOST_ID`, bits [31:0], R417 of 12_host_ports_and_waggle.md. -/
def HPT.Pp_HOST.HOST_ID (n : Nat) : Fld := ⟨0x540c + 0x10 * n, 0, 32, 0, .ro⟩

/-- The registers of block HPT. -/
def HPT.regs : List Reg := [
  ⟨0x5040, 0x4, 16, 0, 1, fun n _ => [HPT.Gg_CFG.MODE n, HPT.Gg_CFG.MEDIUM n, HPT.Gg_CFG.FEC n],
    fun _ _ => []⟩,
  ⟨0x5080, 0x4, 16, 0, 1, fun n _ => [HPT.Gg_STATUS.LINK n, HPT.Gg_STATUS.TRAINED n, HPT.Gg_STATUS.DROPS n],
    fun _ _ => []⟩,
  ⟨0x5400, 0x10, 64, 0, 1, fun n _ => [HPT.Pp_CTL.EN n, HPT.Pp_CTL.JUMBO n, HPT.Pp_CTL.REOPEN n],
    fun _ _ => []⟩,
  ⟨0x5404, 0x10, 64, 0, 1, fun n _ => [HPT.Pp_VLAN.VID n, HPT.Pp_VLAN.PCP n, HPT.Pp_VLAN.TAGGED n],
    fun _ _ => []⟩,
  ⟨0x5408, 0x10, 64, 0, 1, fun n _ => [HPT.Pp_STATUS.STATE n, HPT.Pp_STATUS.LINK n, HPT.Pp_STATUS.CLOSED n, HPT.Pp_STATUS.TAGS n, HPT.Pp_STATUS.ABSENT_PORT n, HPT.Pp_STATUS.STREAMS n, HPT.Pp_STATUS.P_MAX n],
    fun _ _ => []⟩,
  ⟨0x540c, 0x10, 64, 0, 1, fun n _ => [HPT.Pp_HOST.HOST_ID n],
    fun _ _ => []⟩]

/-! Block PRO -/

/-- `PRO.CTL.COMMIT`, bits [0:0], R460 of 14_proof_display.md. -/
def PRO.CTL.COMMIT : Fld := ⟨0x5800, 0, 1, 0, .wo⟩

/-- `PRO.CTL.PENDING`, bits [8:8], R460 of 14_proof_display.md. -/
def PRO.CTL.PENDING : Fld := ⟨0x5800, 8, 1, 0, .ro⟩

/-- `PRO.CFG.EN`, bits [0:0], R460 of 14_proof_display.md. -/
def PRO.CFG.EN : Fld := ⟨0x5804, 0, 1, 0, .rws⟩

/-- `PRO.CFG.DEPTH`, bits [1:1], R460 of 14_proof_display.md. -/
def PRO.CFG.DEPTH : Fld := ⟨0x5804, 1, 1, 0, .rws⟩

/-- `PRO.CFG.SUBSAMPLE`, bits [3:2], R460 of 14_proof_display.md. -/
def PRO.CFG.SUBSAMPLE : Fld := ⟨0x5804, 2, 2, 0, .rws⟩

/-- `PRO.CFG.CURVE`, bits [11:8], R460 of 14_proof_display.md. -/
def PRO.CFG.CURVE : Fld := ⟨0x5804, 8, 4, 0, .rws⟩

/-- `PRO.CFG.COLOURS`, bits [15:12], R460 of 14_proof_display.md. -/
def PRO.CFG.COLOURS : Fld := ⟨0x5804, 12, 4, 0, .rws⟩

/-- `PRO.PERIOD.MIN`, bits [15:0], R460 of 14_proof_display.md. -/
def PRO.PERIOD.MIN : Fld := ⟨0x5808, 0, 16, 0x53, .rws⟩

/-- `PRO.PERIOD.MAX`, bits [31:16], R460 of 14_proof_display.md. -/
def PRO.PERIOD.MAX : Fld := ⟨0x5808, 16, 16, 0x1f4, .rws⟩

/-- `PRO.STATIC.FRAMES`, bits [7:0], R460 of 14_proof_display.md. -/
def PRO.STATIC.FRAMES : Fld := ⟨0x580c, 0, 8, 4, .rws⟩

/-- `PRO.STATIC.FLOOR`, bits [31:16], R460 of 14_proof_display.md. -/
def PRO.STATIC.FLOOR : Fld := ⟨0x580c, 16, 16, 0x3e8, .rws⟩

/-- `PRO.OVL.SHOW`, bits [0:0], R460 of 14_proof_display.md. -/
def PRO.OVL.SHOW : Fld := ⟨0x5810, 0, 1, 0, .rws⟩

/-- `PRO.OVL.EN`, bits [1:1], R460 of 14_proof_display.md. -/
def PRO.OVL.EN : Fld := ⟨0x5810, 1, 1, 1, .rws⟩

/-- `PRO.OVL.WRITE`, bits [8:8], R460 of 14_proof_display.md. -/
def PRO.OVL.WRITE : Fld := ⟨0x5810, 8, 1, 0, .rw⟩

/-- `PRO.OVL_PALk.R`, bits [9:0], R460 of 14_proof_display.md. -/
def PRO.OVL_PALk.R (n : Nat) : Fld := ⟨0x5814 + 0x4 * n, 0, 10, 1023, .rws⟩

/-- `PRO.OVL_PALk.G`, bits [19:10], R460 of 14_proof_display.md. -/
def PRO.OVL_PALk.G (n : Nat) : Fld := ⟨0x5814 + 0x4 * n, 10, 10, 1023, .rws⟩

/-- `PRO.OVL_PALk.B`, bits [29:20], R460 of 14_proof_display.md. -/
def PRO.OVL_PALk.B (n : Nat) : Fld := ⟨0x5814 + 0x4 * n, 20, 10, 1023, .rws⟩

/-- `PRO.STATUS.STATE`, bits [2:0], R460 of 14_proof_display.md. -/
def PRO.STATUS.STATE : Fld := ⟨0x5820, 0, 3, 0, .ro⟩

/-- `PRO.STATUS.COMMAND`, bits [3:3], R460 of 14_proof_display.md. -/
def PRO.STATUS.COMMAND : Fld := ⟨0x5820, 3, 1, 0, .ro⟩

/-- `PRO.STATUS.TE_OK`, bits [4:4], R460 of 14_proof_display.md. -/
def PRO.STATUS.TE_OK : Fld := ⟨0x5820, 4, 1, 0, .ro⟩

/-- `PRO.STATUS.TABLE_ABSENT`, bits [5:5], R460 of 14_proof_display.md. -/
def PRO.STATUS.TABLE_ABSENT : Fld := ⟨0x5820, 5, 1, 0, .ro⟩

/-- `PRO.FLIP_COUNT.COUNT`, bits [31:0], R460 of 14_proof_display.md. -/
def PRO.FLIP_COUNT.COUNT : Fld := ⟨0x5824, 0, 32, 0, .ro⟩

/-- `PRO.FLIP_TB_LO.TICKS`, bits [31:0], R460 of 14_proof_display.md. -/
def PRO.FLIP_TB_LO.TICKS : Fld := ⟨0x5828, 0, 32, 0, .ro⟩

/-- `PRO.FLIP_TB_HI.TICKS`, bits [31:0], R460 of 14_proof_display.md. -/
def PRO.FLIP_TB_HI.TICKS : Fld := ⟨0x582c, 0, 32, 0, .ro⟩

/-- `PRO.FLIP_FRAC.FRAC`, bits [15:0], R460 of 14_proof_display.md. -/
def PRO.FLIP_FRAC.FRAC : Fld := ⟨0x5830, 0, 16, 0, .ro⟩

/-- `PRO.UNDERRUN.COUNT`, bits [30:0], R460 of 14_proof_display.md. -/
def PRO.UNDERRUN.COUNT : Fld := ⟨0x5834, 0, 31, 0, .ro⟩

/-- `PRO.UNDERRUN.SAT`, bits [31:31], R460 of 14_proof_display.md. -/
def PRO.UNDERRUN.SAT : Fld := ⟨0x5834, 31, 1, 0, .w1c⟩

/-- `PRO.LATENCY.US`, bits [31:0], R460 of 14_proof_display.md. -/
def PRO.LATENCY.US : Fld := ⟨0x5838, 0, 32, 0, .ro⟩

/-- `PRO.CHn_PLACE.X`, bits [11:0], R460 of 14_proof_display.md. -/
def PRO.CHn_PLACE.X (n : Nat) : Fld := ⟨0x5840 + 0x8 * n, 0, 12, 0, .rws⟩

/-- `PRO.CHn_PLACE.Y`, bits [23:12], R460 of 14_proof_display.md. -/
def PRO.CHn_PLACE.Y (n : Nat) : Fld := ⟨0x5840 + 0x8 * n, 12, 12, 0, .rws⟩

/-- `PRO.CHn_PLACE.XS`, bits [25:24], R460 of 14_proof_display.md. -/
def PRO.CHn_PLACE.XS (n : Nat) : Fld := ⟨0x5840 + 0x8 * n, 24, 2, 0, .rws⟩

/-- `PRO.CHn_PLACE.YS`, bits [27:26], R460 of 14_proof_display.md. -/
def PRO.CHn_PLACE.YS (n : Nat) : Fld := ⟨0x5840 + 0x8 * n, 26, 2, 0, .rws⟩

/-- `PRO.CHn_PLACE.EN`, bits [31:31], R460 of 14_proof_display.md. -/
def PRO.CHn_PLACE.EN (n : Nat) : Fld := ⟨0x5840 + 0x8 * n, 31, 1, 0, .rws⟩

/-- `PRO.CHn_SHOWN.FRAME`, bits [19:0], R460 of 14_proof_display.md. -/
def PRO.CHn_SHOWN.FRAME (n : Nat) : Fld := ⟨0x5844 + 0x8 * n, 0, 20, 0, .ro⟩

/-- `PRO.CHn_SHOWN.VALID`, bits [31:31], R460 of 14_proof_display.md. -/
def PRO.CHn_SHOWN.VALID (n : Nat) : Fld := ⟨0x5844 + 0x8 * n, 31, 1, 0, .ro⟩

/-- The registers of block PRO. -/
def PRO.regs : List Reg := [
  ⟨0x5800, 0x0, 1, 0, 1, fun _ _ => [PRO.CTL.COMMIT, PRO.CTL.PENDING],
    fun _ _ => []⟩,
  ⟨0x5804, 0x0, 1, 0, 1, fun _ _ => [PRO.CFG.EN, PRO.CFG.DEPTH, PRO.CFG.SUBSAMPLE, PRO.CFG.CURVE, PRO.CFG.COLOURS],
    fun _ _ => []⟩,
  ⟨0x5808, 0x0, 1, 0, 1, fun _ _ => [PRO.PERIOD.MIN, PRO.PERIOD.MAX],
    fun _ _ => []⟩,
  ⟨0x580c, 0x0, 1, 0, 1, fun _ _ => [PRO.STATIC.FRAMES, PRO.STATIC.FLOOR],
    fun _ _ => []⟩,
  ⟨0x5810, 0x0, 1, 0, 1, fun _ _ => [PRO.OVL.SHOW, PRO.OVL.EN, PRO.OVL.WRITE],
    fun _ _ => []⟩,
  ⟨0x5814, 0x4, 3, 0, 1, fun n _ => [PRO.OVL_PALk.R n, PRO.OVL_PALk.G n, PRO.OVL_PALk.B n],
    fun _ _ => []⟩,
  ⟨0x5820, 0x0, 1, 0, 1, fun _ _ => [PRO.STATUS.STATE, PRO.STATUS.COMMAND, PRO.STATUS.TE_OK, PRO.STATUS.TABLE_ABSENT],
    fun _ _ => []⟩,
  ⟨0x5824, 0x0, 1, 0, 1, fun _ _ => [PRO.FLIP_COUNT.COUNT],
    fun _ _ => []⟩,
  ⟨0x5828, 0x0, 1, 0, 1, fun _ _ => [PRO.FLIP_TB_LO.TICKS],
    fun _ _ => []⟩,
  ⟨0x582c, 0x0, 1, 0, 1, fun _ _ => [PRO.FLIP_TB_HI.TICKS],
    fun _ _ => []⟩,
  ⟨0x5830, 0x0, 1, 0, 1, fun _ _ => [PRO.FLIP_FRAC.FRAC],
    fun _ _ => []⟩,
  ⟨0x5834, 0x0, 1, 0, 1, fun _ _ => [PRO.UNDERRUN.COUNT, PRO.UNDERRUN.SAT],
    fun _ _ => [(PRO.UNDERRUN.SAT, [PRO.UNDERRUN.COUNT])]⟩,
  ⟨0x5838, 0x0, 1, 0, 1, fun _ _ => [PRO.LATENCY.US],
    fun _ _ => []⟩,
  ⟨0x5840, 0x8, 8, 0, 1, fun n _ => [PRO.CHn_PLACE.X n, PRO.CHn_PLACE.Y n, PRO.CHn_PLACE.XS n, PRO.CHn_PLACE.YS n, PRO.CHn_PLACE.EN n],
    fun _ _ => []⟩,
  ⟨0x5844, 0x8, 8, 0, 1, fun n _ => [PRO.CHn_SHOWN.FRAME n, PRO.CHn_SHOWN.VALID n],
    fun _ _ => []⟩]

end Sys2Proof.Machine
end

