-- ==== Sys2Proof/Machine/RegsSys.lean ====
section
/-! DEFINITION. The registers of the blocks ID, SYS, FLT, PRF, SEC, LGR, I3C: every field of the field tables of spec/,
with its address, lowest bit, width, reset value and access code, and the list of registers of each block.
A field of a replicated register takes the replica (and for a slice register also the slice) as argument. -/

namespace Sys2Proof.Machine

/-! Block ID -/

/-- `ID.PART.FAMILY`, bits [31:16], R4 of 00_scope.md. -/
def ID.PART.FAMILY : Fld := ⟨0x0, 16, 16, 1, .ro⟩

/-- `ID.PART.NUMBER`, bits [15:0], R4 of 00_scope.md. -/
def ID.PART.NUMBER : Fld := ⟨0x0, 0, 16, 0x880, .ro⟩

/-- `ID.STEPPING.STEP`, bits [7:0], R4 of 00_scope.md. -/
def ID.STEPPING.STEP : Fld := ⟨0x4, 0, 8, 1, .ro⟩

/-- `ID.CONVERTERS.CHANNELS`, bits [7:0], R4 of 00_scope.md. -/
def ID.CONVERTERS.CHANNELS : Fld := ⟨0x8, 0, 8, 8, .ro⟩

/-- `ID.CONVERTERS.SLICES`, bits [15:8], R4 of 00_scope.md. -/
def ID.CONVERTERS.SLICES : Fld := ⟨0x8, 8, 8, 0x11, .ro⟩

/-- `ID.CONVERTERS.MODES`, bits [18:16], R4 of 00_scope.md. -/
def ID.CONVERTERS.MODES : Fld := ⟨0x8, 16, 3, 7, .ro⟩

/-- `ID.COMB.CELLS`, bits [15:0], R4 of 00_scope.md. -/
def ID.COMB.CELLS : Fld := ⟨0xc, 0, 16, 0xc0, .ro⟩

/-- `ID.COMB.PER_SUPER`, bits [23:16], R4 of 00_scope.md. -/
def ID.COMB.PER_SUPER : Fld := ⟨0xc, 16, 8, 0x18, .ro⟩

/-- `ID.MEMORY.DIES`, bits [7:0], R4 of 00_scope.md. -/
def ID.MEMORY.DIES : Fld := ⟨0x10, 0, 8, 0x10, .ro⟩

/-- `ID.MEMORY.CAPACITY`, bits [31:16], R4 of 00_scope.md. -/
def ID.MEMORY.CAPACITY : Fld := ⟨0x10, 16, 16, 0x200, .ro⟩

/-- `ID.PORTS.LANES`, bits [7:0], R4 of 00_scope.md. -/
def ID.PORTS.LANES : Fld := ⟨0x14, 0, 8, 0x40, .ro⟩

/-- `ID.PORTS.EVENTS`, bits [15:8], R4 of 00_scope.md. -/
def ID.PORTS.EVENTS : Fld := ⟨0x14, 8, 8, 0x20, .ro⟩

/-- `ID.PORTS.WINDOWS`, bits [23:16], R4 of 00_scope.md. -/
def ID.PORTS.WINDOWS : Fld := ⟨0x14, 16, 8, 0x18, .ro⟩

/-- `ID.PORTS.TRGIN`, bits [31:24], R4 of 00_scope.md. -/
def ID.PORTS.TRGIN : Fld := ⟨0x14, 24, 8, 8, .ro⟩

/-- `ID.DOC.NUMBER`, bits [15:0], R4 of 00_scope.md. -/
def ID.DOC.NUMBER : Fld := ⟨0x18, 0, 16, 1, .ro⟩

/-- `ID.DOC.ISSUE`, bits [23:16], R4 of 00_scope.md. -/
def ID.DOC.ISSUE : Fld := ⟨0x18, 16, 8, 1, .ro⟩

/-- The registers of block ID. -/
def ID.regs : List Reg := [
  ⟨0x0, 0x0, 1, 0, 1, fun _ _ => [ID.PART.FAMILY, ID.PART.NUMBER],
    fun _ _ => []⟩,
  ⟨0x4, 0x0, 1, 0, 1, fun _ _ => [ID.STEPPING.STEP],
    fun _ _ => []⟩,
  ⟨0x8, 0x0, 1, 0, 1, fun _ _ => [ID.CONVERTERS.CHANNELS, ID.CONVERTERS.SLICES, ID.CONVERTERS.MODES],
    fun _ _ => []⟩,
  ⟨0xc, 0x0, 1, 0, 1, fun _ _ => [ID.COMB.CELLS, ID.COMB.PER_SUPER],
    fun _ _ => []⟩,
  ⟨0x10, 0x0, 1, 0, 1, fun _ _ => [ID.MEMORY.DIES, ID.MEMORY.CAPACITY],
    fun _ _ => []⟩,
  ⟨0x14, 0x0, 1, 0, 1, fun _ _ => [ID.PORTS.LANES, ID.PORTS.EVENTS, ID.PORTS.WINDOWS, ID.PORTS.TRGIN],
    fun _ _ => []⟩,
  ⟨0x18, 0x0, 1, 0, 1, fun _ _ => [ID.DOC.NUMBER, ID.DOC.ISSUE],
    fun _ _ => []⟩]

/-! Block SYS -/

/-- `SYS.STATE.STATE`, bits [2:0], R531 of 17_start_up_and_power_states.md. -/
def SYS.STATE.STATE : Fld := ⟨0x400, 0, 3, 0, .ro⟩

/-- `SYS.STATE.STEP`, bits [11:8], R531 of 17_start_up_and_power_states.md. -/
def SYS.STATE.STEP : Fld := ⟨0x400, 8, 4, 1, .ro⟩

/-- `SYS.STATE.WAIT`, bits [13:12], R531 of 17_start_up_and_power_states.md. -/
def SYS.STATE.WAIT : Fld := ⟨0x400, 12, 2, 0, .ro⟩

/-- `SYS.STATE.RESET_SRC`, bits [16:16], R531 of 17_start_up_and_power_states.md. -/
def SYS.STATE.RESET_SRC : Fld := ⟨0x400, 16, 1, 0, .ro⟩

/-- `SYS.STATE.ENTERING`, bits [17:17], R531 of 17_start_up_and_power_states.md. -/
def SYS.STATE.ENTERING : Fld := ⟨0x400, 17, 1, 0, .ro⟩

/-- `SYS.CTL.DARK`, bits [0:0], R531 of 17_start_up_and_power_states.md. -/
def SYS.CTL.DARK : Fld := ⟨0x404, 0, 1, 0, .wo⟩

/-- `SYS.CTL.WAKE`, bits [1:1], R531 of 17_start_up_and_power_states.md. -/
def SYS.CTL.WAKE : Fld := ⟨0x404, 1, 1, 0, .wo⟩

/-- `SYS.WAKE_CFG.PIN`, bits [0:0], R531 of 17_start_up_and_power_states.md. -/
def SYS.WAKE_CFG.PIN : Fld := ⟨0x408, 0, 1, 1, .rw⟩

/-- `SYS.WAKE_CFG.PIN_EDGE`, bits [1:1], R531 of 17_start_up_and_power_states.md. -/
def SYS.WAKE_CFG.PIN_EDGE : Fld := ⟨0x408, 1, 1, 0, .rw⟩

/-- `SYS.WAKE_CFG.WINDOWS`, bits [2:2], R531 of 17_start_up_and_power_states.md. -/
def SYS.WAKE_CFG.WINDOWS : Fld := ⟨0x408, 2, 1, 0, .rw⟩

/-- `SYS.WAKE_CFG.ALARM`, bits [3:3], R531 of 17_start_up_and_power_states.md. -/
def SYS.WAKE_CFG.ALARM : Fld := ⟨0x408, 3, 1, 0, .rw⟩

/-- `SYS.WAKE_CFG.I3C`, bits [4:4], R531 of 17_start_up_and_power_states.md. -/
def SYS.WAKE_CFG.I3C : Fld := ⟨0x408, 4, 1, 1, .rw⟩

/-- `SYS.WAKE_AT_LO.KEEPER`, bits [31:0], R531 of 17_start_up_and_power_states.md. -/
def SYS.WAKE_AT_LO.KEEPER : Fld := ⟨0x40c, 0, 32, 0, .rw⟩

/-- `SYS.WAKE_AT_HI.KEEPER`, bits [31:0], R531 of 17_start_up_and_power_states.md. -/
def SYS.WAKE_AT_HI.KEEPER : Fld := ⟨0x410, 0, 32, 0, .rw⟩

/-- `SYS.WAKE_CAUSE.CAUSE`, bits [2:0], R531 of 17_start_up_and_power_states.md. -/
def SYS.WAKE_CAUSE.CAUSE : Fld := ⟨0x414, 0, 3, 0, .ro⟩

/-- `SYS.WAKE_CAUSE.WINDOW`, bits [12:8], R531 of 17_start_up_and_power_states.md. -/
def SYS.WAKE_CAUSE.WINDOW : Fld := ⟨0x414, 8, 5, 0, .ro⟩

/-- `SYS.WAKE_CAUSE.WAKES`, bits [31:16], R531 of 17_start_up_and_power_states.md. -/
def SYS.WAKE_CAUSE.WAKES : Fld := ⟨0x414, 16, 16, 0, .ro⟩

/-- `SYS.DARK.WAIT`, bits [5:0], R531 of 17_start_up_and_power_states.md. -/
def SYS.DARK.WAIT : Fld := ⟨0x418, 0, 6, 0, .ro⟩

/-- `SYS.DARK.ENTRIES`, bits [30:16], R531 of 17_start_up_and_power_states.md. -/
def SYS.DARK.ENTRIES : Fld := ⟨0x418, 16, 15, 0, .ro⟩

/-- `SYS.DARK.SAT`, bits [31:31], R531 of 17_start_up_and_power_states.md. -/
def SYS.DARK.SAT : Fld := ⟨0x418, 31, 1, 0, .w1c⟩

/-- `SYS.START_TIME.MS`, bits [15:0], R531 of 17_start_up_and_power_states.md. -/
def SYS.START_TIME.MS : Fld := ⟨0x41c, 0, 16, 0, .ro⟩

/-- `SYS.START_TIME.WAIT_S`, bits [31:16], R531 of 17_start_up_and_power_states.md. -/
def SYS.START_TIME.WAIT_S : Fld := ⟨0x41c, 16, 16, 0, .ro⟩

/-- `SYS.REFUSED.CAUSE`, bits [1:0], R531 of 17_start_up_and_power_states.md. -/
def SYS.REFUSED.CAUSE : Fld := ⟨0x420, 0, 2, 0, .ro⟩

/-- The registers of block SYS. -/
def SYS.regs : List Reg := [
  ⟨0x400, 0x0, 1, 0, 1, fun _ _ => [SYS.STATE.STATE, SYS.STATE.STEP, SYS.STATE.WAIT, SYS.STATE.RESET_SRC, SYS.STATE.ENTERING],
    fun _ _ => []⟩,
  ⟨0x404, 0x0, 1, 0, 1, fun _ _ => [SYS.CTL.DARK, SYS.CTL.WAKE],
    fun _ _ => []⟩,
  ⟨0x408, 0x0, 1, 0, 1, fun _ _ => [SYS.WAKE_CFG.PIN, SYS.WAKE_CFG.PIN_EDGE, SYS.WAKE_CFG.WINDOWS, SYS.WAKE_CFG.ALARM, SYS.WAKE_CFG.I3C],
    fun _ _ => []⟩,
  ⟨0x40c, 0x0, 1, 0, 1, fun _ _ => [SYS.WAKE_AT_LO.KEEPER],
    fun _ _ => []⟩,
  ⟨0x410, 0x0, 1, 0, 1, fun _ _ => [SYS.WAKE_AT_HI.KEEPER],
    fun _ _ => []⟩,
  ⟨0x414, 0x0, 1, 0, 1, fun _ _ => [SYS.WAKE_CAUSE.CAUSE, SYS.WAKE_CAUSE.WINDOW, SYS.WAKE_CAUSE.WAKES],
    fun _ _ => []⟩,
  ⟨0x418, 0x0, 1, 0, 1, fun _ _ => [SYS.DARK.WAIT, SYS.DARK.ENTRIES, SYS.DARK.SAT],
    fun _ _ => [(SYS.DARK.SAT, [SYS.DARK.ENTRIES])]⟩,
  ⟨0x41c, 0x0, 1, 0, 1, fun _ _ => [SYS.START_TIME.MS, SYS.START_TIME.WAIT_S],
    fun _ _ => []⟩,
  ⟨0x420, 0x0, 1, 0, 1, fun _ _ => [SYS.REFUSED.CAUSE],
    fun _ _ => []⟩]

/-! Block FLT -/

/-- `FLT.STATE.HALTED`, bits [0:0], R549 of 18_faults_recovery_and_ordering.md. -/
def FLT.STATE.HALTED : Fld := ⟨0x800, 0, 1, 0, .ro⟩

/-- `FLT.STATE.FAULT_N`, bits [1:1], R549 of 18_faults_recovery_and_ordering.md. -/
def FLT.STATE.FAULT_N : Fld := ⟨0x800, 1, 1, 0, .ro⟩

/-- `FLT.STATE.LATER`, bits [15:8], R549 of 18_faults_recovery_and_ordering.md. -/
def FLT.STATE.LATER : Fld := ⟨0x800, 8, 8, 0, .ro⟩

/-- `FLT.REASON.CODE`, bits [15:0], R549 of 18_faults_recovery_and_ordering.md. -/
def FLT.REASON.CODE : Fld := ⟨0x804, 0, 16, 0, .ro⟩

/-- `FLT.REASON.DETAIL`, bits [31:16], R549 of 18_faults_recovery_and_ordering.md. -/
def FLT.REASON.DETAIL : Fld := ⟨0x804, 16, 16, 0, .ro⟩

/-- `FLT.ADDR_LO.ADDR`, bits [31:0], R549 of 18_faults_recovery_and_ordering.md. -/
def FLT.ADDR_LO.ADDR : Fld := ⟨0x808, 0, 32, 0, .ro⟩

/-- `FLT.ADDR_HI.ADDR`, bits [15:0], R549 of 18_faults_recovery_and_ordering.md. -/
def FLT.ADDR_HI.ADDR : Fld := ⟨0x80c, 0, 16, 0, .ro⟩

/-- `FLT.HALT_TB_LO.TICKS`, bits [31:0], R549 of 18_faults_recovery_and_ordering.md. -/
def FLT.HALT_TB_LO.TICKS : Fld := ⟨0x810, 0, 32, 0, .ro⟩

/-- `FLT.HALT_TB_HI.TICKS`, bits [31:0], R549 of 18_faults_recovery_and_ordering.md. -/
def FLT.HALT_TB_HI.TICKS : Fld := ⟨0x814, 0, 32, 0, .ro⟩

/-- `FLT.LATER.CODE`, bits [15:0], R549 of 18_faults_recovery_and_ordering.md. -/
def FLT.LATER.CODE : Fld := ⟨0x818, 0, 16, 0, .ro⟩

/-- `FLT.LATER.DETAIL`, bits [31:16], R549 of 18_faults_recovery_and_ordering.md. -/
def FLT.LATER.DETAIL : Fld := ⟨0x818, 16, 16, 0, .ro⟩

/-- `FLT.LOG.NEWEST`, bits [9:0], R549 of 18_faults_recovery_and_ordering.md. -/
def FLT.LOG.NEWEST : Fld := ⟨0x81c, 0, 10, 0, .ro⟩

/-- `FLT.LOG.HELD`, bits [26:16], R549 of 18_faults_recovery_and_ordering.md. -/
def FLT.LOG.HELD : Fld := ⟨0x81c, 16, 11, 0, .ro⟩

/-- `FLT.LOG.WRAPPED`, bits [31:31], R549 of 18_faults_recovery_and_ordering.md. -/
def FLT.LOG.WRAPPED : Fld := ⟨0x81c, 31, 1, 0, .w1c⟩

/-- `FLT.LOG_SEQ.SEQ`, bits [31:0], R549 of 18_faults_recovery_and_ordering.md. -/
def FLT.LOG_SEQ.SEQ : Fld := ⟨0x820, 0, 32, 0, .ro⟩

/-- `FLT.SAT_SUMMARY.ADC`, bits [0:0], R549 of 18_faults_recovery_and_ordering.md. -/
def FLT.SAT_SUMMARY.ADC : Fld := ⟨0x824, 0, 1, 0, .ro⟩

/-- `FLT.SAT_SUMMARY.CAL`, bits [1:1], R549 of 18_faults_recovery_and_ordering.md. -/
def FLT.SAT_SUMMARY.CAL : Fld := ⟨0x824, 1, 1, 0, .ro⟩

/-- `FLT.SAT_SUMMARY.CLK_TB`, bits [2:2], R549 of 18_faults_recovery_and_ordering.md. -/
def FLT.SAT_SUMMARY.CLK_TB : Fld := ⟨0x824, 2, 1, 0, .ro⟩

/-- `FLT.SAT_SUMMARY.TDC`, bits [3:3], R549 of 18_faults_recovery_and_ordering.md. -/
def FLT.SAT_SUMMARY.TDC : Fld := ⟨0x824, 3, 1, 0, .ro⟩

/-- `FLT.SAT_SUMMARY.TRG`, bits [4:4], R549 of 18_faults_recovery_and_ordering.md. -/
def FLT.SAT_SUMMARY.TRG : Fld := ⟨0x824, 4, 1, 0, .ro⟩

/-- `FLT.SAT_SUMMARY.CAP`, bits [5:5], R549 of 18_faults_recovery_and_ordering.md. -/
def FLT.SAT_SUMMARY.CAP : Fld := ⟨0x824, 5, 1, 0, .ro⟩

/-- `FLT.SAT_SUMMARY.FIL`, bits [6:6], R549 of 18_faults_recovery_and_ordering.md. -/
def FLT.SAT_SUMMARY.FIL : Fld := ⟨0x824, 6, 1, 0, .ro⟩

/-- `FLT.SAT_SUMMARY.ACC`, bits [7:7], R549 of 18_faults_recovery_and_ordering.md. -/
def FLT.SAT_SUMMARY.ACC : Fld := ⟨0x824, 7, 1, 0, .ro⟩

/-- `FLT.SAT_SUMMARY.MCV_WIN`, bits [8:8], R549 of 18_faults_recovery_and_ordering.md. -/
def FLT.SAT_SUMMARY.MCV_WIN : Fld := ⟨0x824, 8, 1, 0, .ro⟩

/-- `FLT.SAT_SUMMARY.CMB`, bits [9:9], R549 of 18_faults_recovery_and_ordering.md. -/
def FLT.SAT_SUMMARY.CMB : Fld := ⟨0x824, 9, 1, 0, .ro⟩

/-- `FLT.SAT_SUMMARY.DRM`, bits [10:10], R549 of 18_faults_recovery_and_ordering.md. -/
def FLT.SAT_SUMMARY.DRM : Fld := ⟨0x824, 10, 1, 0, .ro⟩

/-- `FLT.SAT_SUMMARY.HPT_WAG`, bits [11:11], R549 of 18_faults_recovery_and_ordering.md. -/
def FLT.SAT_SUMMARY.HPT_WAG : Fld := ⟨0x824, 11, 1, 0, .ro⟩

/-- `FLT.SAT_SUMMARY.PRO`, bits [12:12], R549 of 18_faults_recovery_and_ordering.md. -/
def FLT.SAT_SUMMARY.PRO : Fld := ⟨0x824, 12, 1, 0, .ro⟩

/-- `FLT.SAT_SUMMARY.SEC_LGR`, bits [13:13], R549 of 18_faults_recovery_and_ordering.md. -/
def FLT.SAT_SUMMARY.SEC_LGR : Fld := ⟨0x824, 13, 1, 0, .ro⟩

/-- `FLT.SAT_SUMMARY.SYS_PRF`, bits [14:14], R549 of 18_faults_recovery_and_ordering.md. -/
def FLT.SAT_SUMMARY.SYS_PRF : Fld := ⟨0x824, 14, 1, 0, .ro⟩

/-- `FLT.SAT_SUMMARY.FLT`, bits [15:15], R549 of 18_faults_recovery_and_ordering.md. -/
def FLT.SAT_SUMMARY.FLT : Fld := ⟨0x824, 15, 1, 0, .ro⟩

/-- `FLT.PARTNER.SCLK`, bits [0:0], R549 of 18_faults_recovery_and_ordering.md. -/
def FLT.PARTNER.SCLK : Fld := ⟨0x828, 0, 1, 0, .ro⟩

/-- `FLT.PARTNER.REFIN`, bits [1:1], R549 of 18_faults_recovery_and_ordering.md. -/
def FLT.PARTNER.REFIN : Fld := ⟨0x828, 1, 1, 0, .ro⟩

/-- `FLT.PARTNER.COLD`, bits [2:2], R549 of 18_faults_recovery_and_ordering.md. -/
def FLT.PARTNER.COLD : Fld := ⟨0x828, 2, 1, 0, .ro⟩

/-- `FLT.PARTNER.COAST`, bits [3:3], R549 of 18_faults_recovery_and_ordering.md. -/
def FLT.PARTNER.COAST : Fld := ⟨0x828, 3, 1, 0, .ro⟩

/-- `FLT.PARTNER.INCOHERENT`, bits [4:4], R549 of 18_faults_recovery_and_ordering.md. -/
def FLT.PARTNER.INCOHERENT : Fld := ⟨0x828, 4, 1, 0, .ro⟩

/-- `FLT.PARTNER.CAL_DEFER`, bits [5:5], R549 of 18_faults_recovery_and_ordering.md. -/
def FLT.PARTNER.CAL_DEFER : Fld := ⟨0x828, 5, 1, 0, .ro⟩

/-- `FLT.PARTNER.CAL_OVERDUE`, bits [6:6], R549 of 18_faults_recovery_and_ordering.md. -/
def FLT.PARTNER.CAL_OVERDUE : Fld := ⟨0x828, 6, 1, 0, .ro⟩

/-- `FLT.PARTNER.TE`, bits [7:7], R549 of 18_faults_recovery_and_ordering.md. -/
def FLT.PARTNER.TE : Fld := ⟨0x828, 7, 1, 0, .ro⟩

/-- `FLT.PARTNER.ABSENT`, bits [8:8], R549 of 18_faults_recovery_and_ordering.md. -/
def FLT.PARTNER.ABSENT : Fld := ⟨0x828, 8, 1, 0, .ro⟩

/-- `FLT.PARTNER.CLOSED`, bits [9:9], R549 of 18_faults_recovery_and_ordering.md. -/
def FLT.PARTNER.CLOSED : Fld := ⟨0x828, 9, 1, 0, .ro⟩

/-- `FLT.SRAM_ECC.COUNT`, bits [30:0], R549 of 18_faults_recovery_and_ordering.md. -/
def FLT.SRAM_ECC.COUNT : Fld := ⟨0x82c, 0, 31, 0, .ro⟩

/-- `FLT.SRAM_ECC.SAT`, bits [31:31], R549 of 18_faults_recovery_and_ordering.md. -/
def FLT.SRAM_ECC.SAT : Fld := ⟨0x82c, 31, 1, 0, .w1c⟩

/-- The registers of block FLT. -/
def FLT.regs : List Reg := [
  ⟨0x800, 0x0, 1, 0, 1, fun _ _ => [FLT.STATE.HALTED, FLT.STATE.FAULT_N, FLT.STATE.LATER],
    fun _ _ => []⟩,
  ⟨0x804, 0x0, 1, 0, 1, fun _ _ => [FLT.REASON.CODE, FLT.REASON.DETAIL],
    fun _ _ => []⟩,
  ⟨0x808, 0x0, 1, 0, 1, fun _ _ => [FLT.ADDR_LO.ADDR],
    fun _ _ => []⟩,
  ⟨0x80c, 0x0, 1, 0, 1, fun _ _ => [FLT.ADDR_HI.ADDR],
    fun _ _ => []⟩,
  ⟨0x810, 0x0, 1, 0, 1, fun _ _ => [FLT.HALT_TB_LO.TICKS],
    fun _ _ => []⟩,
  ⟨0x814, 0x0, 1, 0, 1, fun _ _ => [FLT.HALT_TB_HI.TICKS],
    fun _ _ => []⟩,
  ⟨0x818, 0x0, 1, 0, 1, fun _ _ => [FLT.LATER.CODE, FLT.LATER.DETAIL],
    fun _ _ => []⟩,
  ⟨0x81c, 0x0, 1, 0, 1, fun _ _ => [FLT.LOG.NEWEST, FLT.LOG.HELD, FLT.LOG.WRAPPED],
    fun _ _ => []⟩,
  ⟨0x820, 0x0, 1, 0, 1, fun _ _ => [FLT.LOG_SEQ.SEQ],
    fun _ _ => []⟩,
  ⟨0x824, 0x0, 1, 0, 1, fun _ _ => [FLT.SAT_SUMMARY.ADC, FLT.SAT_SUMMARY.CAL, FLT.SAT_SUMMARY.CLK_TB, FLT.SAT_SUMMARY.TDC, FLT.SAT_SUMMARY.TRG, FLT.SAT_SUMMARY.CAP, FLT.SAT_SUMMARY.FIL, FLT.SAT_SUMMARY.ACC, FLT.SAT_SUMMARY.MCV_WIN, FLT.SAT_SUMMARY.CMB, FLT.SAT_SUMMARY.DRM, FLT.SAT_SUMMARY.HPT_WAG, FLT.SAT_SUMMARY.PRO, FLT.SAT_SUMMARY.SEC_LGR, FLT.SAT_SUMMARY.SYS_PRF, FLT.SAT_SUMMARY.FLT],
    fun _ _ => []⟩,
  ⟨0x828, 0x0, 1, 0, 1, fun _ _ => [FLT.PARTNER.SCLK, FLT.PARTNER.REFIN, FLT.PARTNER.COLD, FLT.PARTNER.COAST, FLT.PARTNER.INCOHERENT, FLT.PARTNER.CAL_DEFER, FLT.PARTNER.CAL_OVERDUE, FLT.PARTNER.TE, FLT.PARTNER.ABSENT, FLT.PARTNER.CLOSED],
    fun _ _ => []⟩,
  ⟨0x82c, 0x0, 1, 0, 1, fun _ _ => [FLT.SRAM_ECC.COUNT, FLT.SRAM_ECC.SAT],
    fun _ _ => [(FLT.SRAM_ECC.SAT, [FLT.SRAM_ECC.COUNT])]⟩]

/-! Block PRF -/

/-- `PRF.CTL.PROFILE`, bits [2:0], R516 of 16_configuration_image_and_profiles.md. -/
def PRF.CTL.PROFILE : Fld := ⟨0xc00, 0, 3, 0, .wo⟩

/-- `PRF.CTL.SWITCH`, bits [8:8], R516 of 16_configuration_image_and_profiles.md. -/
def PRF.CTL.SWITCH : Fld := ⟨0xc00, 8, 1, 0, .wo⟩

/-- `PRF.CTL.ABORT`, bits [9:9], R516 of 16_configuration_image_and_profiles.md. -/
def PRF.CTL.ABORT : Fld := ⟨0xc00, 9, 1, 0, .wo⟩

/-- `PRF.SOURCE.SOURCE`, bits [0:0], R516 of 16_configuration_image_and_profiles.md. -/
def PRF.SOURCE.SOURCE : Fld := ⟨0xc04, 0, 1, 0, .rwi⟩

/-- `PRF.STATUS.ACTIVE`, bits [2:0], R516 of 16_configuration_image_and_profiles.md. -/
def PRF.STATUS.ACTIVE : Fld := ⟨0xc08, 0, 3, 0, .ro⟩

/-- `PRF.STATUS.PENDING`, bits [6:4], R516 of 16_configuration_image_and_profiles.md. -/
def PRF.STATUS.PENDING : Fld := ⟨0xc08, 4, 3, 0, .ro⟩

/-- `PRF.STATUS.PENDING_VALID`, bits [7:7], R516 of 16_configuration_image_and_profiles.md. -/
def PRF.STATUS.PENDING_VALID : Fld := ⟨0xc08, 7, 1, 0, .ro⟩

/-- `PRF.STATUS.PSEL`, bits [10:8], R516 of 16_configuration_image_and_profiles.md. -/
def PRF.STATUS.PSEL : Fld := ⟨0xc08, 8, 3, 0, .ro⟩

/-- `PRF.STATUS.STATE`, bits [14:12], R516 of 16_configuration_image_and_profiles.md. -/
def PRF.STATUS.STATE : Fld := ⟨0xc08, 12, 3, 0, .ro⟩

/-- `PRF.STATUS.WRITE_INDEX`, bits [23:16], R516 of 16_configuration_image_and_profiles.md. -/
def PRF.STATUS.WRITE_INDEX : Fld := ⟨0xc08, 16, 8, 0, .ro⟩

/-- `PRF.STATUS.RESULT`, bits [27:24], R516 of 16_configuration_image_and_profiles.md. -/
def PRF.STATUS.RESULT : Fld := ⟨0xc08, 24, 4, 0, .ro⟩

/-- `PRF.PRESENT.MASK`, bits [7:0], R516 of 16_configuration_image_and_profiles.md. -/
def PRF.PRESENT.MASK : Fld := ⟨0xc0c, 0, 8, 0, .ro⟩

/-- `PRF.IMAGE.ROLLBACK`, bits [31:0], R516 of 16_configuration_image_and_profiles.md. -/
def PRF.IMAGE.ROLLBACK : Fld := ⟨0xc10, 0, 32, 0, .ro⟩

/-- `PRF.ROLLBACK.COUNTER`, bits [31:0], R516 of 16_configuration_image_and_profiles.md. -/
def PRF.ROLLBACK.COUNTER : Fld := ⟨0xc14, 0, 32, 0, .ro⟩

/-- `PRF.STAGE.ADDR`, bits [9:0], R516 of 16_configuration_image_and_profiles.md. -/
def PRF.STAGE.ADDR : Fld := ⟨0xc18, 0, 10, 0, .rwi⟩

/-- `PRF.STAGE.CHECK`, bits [16:16], R516 of 16_configuration_image_and_profiles.md. -/
def PRF.STAGE.CHECK : Fld := ⟨0xc18, 16, 1, 0, .wo⟩

/-- `PRF.STAGE_STATUS.STATE`, bits [2:0], R516 of 16_configuration_image_and_profiles.md. -/
def PRF.STAGE_STATUS.STATE : Fld := ⟨0xc1c, 0, 3, 0, .ro⟩

/-- `PRF.STAGE_STATUS.CAUSE`, bits [11:8], R516 of 16_configuration_image_and_profiles.md. -/
def PRF.STAGE_STATUS.CAUSE : Fld := ⟨0xc1c, 8, 4, 0, .ro⟩

/-- `PRF.STAGE_CNT.ROLLBACK`, bits [31:0], R516 of 16_configuration_image_and_profiles.md. -/
def PRF.STAGE_CNT.ROLLBACK : Fld := ⟨0xc20, 0, 32, 0, .ro⟩

/-- `PRF.FLASH.SIZE_MB`, bits [7:0], R516 of 16_configuration_image_and_profiles.md. -/
def PRF.FLASH.SIZE_MB : Fld := ⟨0xc24, 0, 8, 0, .ro⟩

/-- `PRF.FLASH.MODE`, bits [10:8], R516 of 16_configuration_image_and_profiles.md. -/
def PRF.FLASH.MODE : Fld := ⟨0xc24, 8, 3, 0, .ro⟩

/-- `PRF.FLASH.CLOCK_MHZ`, bits [23:16], R516 of 16_configuration_image_and_profiles.md. -/
def PRF.FLASH.CLOCK_MHZ : Fld := ⟨0xc24, 16, 8, 0, .ro⟩

/-- `PRF.SWITCHES.COUNT`, bits [30:0], R516 of 16_configuration_image_and_profiles.md. -/
def PRF.SWITCHES.COUNT : Fld := ⟨0xc28, 0, 31, 0, .ro⟩

/-- `PRF.SWITCHES.SAT`, bits [31:31], R516 of 16_configuration_image_and_profiles.md. -/
def PRF.SWITCHES.SAT : Fld := ⟨0xc28, 31, 1, 0, .w1c⟩

/-- `PRF.IMAGE_ADDR.ADDR`, bits [9:0], R516 of 16_configuration_image_and_profiles.md. -/
def PRF.IMAGE_ADDR.ADDR : Fld := ⟨0xc2c, 0, 10, 0, .ro⟩

/-- `PRF.DIGESTk.WORD`, bits [31:0], R516 of 16_configuration_image_and_profiles.md. -/
def PRF.DIGESTk.WORD (n : Nat) : Fld := ⟨0xc40 + 0x4 * n, 0, 32, 0, .ro⟩

/-- `PRF.STAGE_DIGESTk.WORD`, bits [31:0], R516 of 16_configuration_image_and_profiles.md. -/
def PRF.STAGE_DIGESTk.WORD (n : Nat) : Fld := ⟨0xc60 + 0x4 * n, 0, 32, 0, .ro⟩

/-- The registers of block PRF. -/
def PRF.regs : List Reg := [
  ⟨0xc00, 0x0, 1, 0, 1, fun _ _ => [PRF.CTL.PROFILE, PRF.CTL.SWITCH, PRF.CTL.ABORT],
    fun _ _ => []⟩,
  ⟨0xc04, 0x0, 1, 0, 1, fun _ _ => [PRF.SOURCE.SOURCE],
    fun _ _ => []⟩,
  ⟨0xc08, 0x0, 1, 0, 1, fun _ _ => [PRF.STATUS.ACTIVE, PRF.STATUS.PENDING, PRF.STATUS.PENDING_VALID, PRF.STATUS.PSEL, PRF.STATUS.STATE, PRF.STATUS.WRITE_INDEX, PRF.STATUS.RESULT],
    fun _ _ => []⟩,
  ⟨0xc0c, 0x0, 1, 0, 1, fun _ _ => [PRF.PRESENT.MASK],
    fun _ _ => []⟩,
  ⟨0xc10, 0x0, 1, 0, 1, fun _ _ => [PRF.IMAGE.ROLLBACK],
    fun _ _ => []⟩,
  ⟨0xc14, 0x0, 1, 0, 1, fun _ _ => [PRF.ROLLBACK.COUNTER],
    fun _ _ => []⟩,
  ⟨0xc18, 0x0, 1, 0, 1, fun _ _ => [PRF.STAGE.ADDR, PRF.STAGE.CHECK],
    fun _ _ => []⟩,
  ⟨0xc1c, 0x0, 1, 0, 1, fun _ _ => [PRF.STAGE_STATUS.STATE, PRF.STAGE_STATUS.CAUSE],
    fun _ _ => []⟩,
  ⟨0xc20, 0x0, 1, 0, 1, fun _ _ => [PRF.STAGE_CNT.ROLLBACK],
    fun _ _ => []⟩,
  ⟨0xc24, 0x0, 1, 0, 1, fun _ _ => [PRF.FLASH.SIZE_MB, PRF.FLASH.MODE, PRF.FLASH.CLOCK_MHZ],
    fun _ _ => []⟩,
  ⟨0xc28, 0x0, 1, 0, 1, fun _ _ => [PRF.SWITCHES.COUNT, PRF.SWITCHES.SAT],
    fun _ _ => [(PRF.SWITCHES.SAT, [PRF.SWITCHES.COUNT])]⟩,
  ⟨0xc2c, 0x0, 1, 0, 1, fun _ _ => [PRF.IMAGE_ADDR.ADDR],
    fun _ _ => []⟩,
  ⟨0xc40, 0x4, 8, 0, 1, fun n _ => [PRF.DIGESTk.WORD n],
    fun _ _ => []⟩,
  ⟨0xc60, 0x4, 8, 0, 1, fun n _ => [PRF.STAGE_DIGESTk.WORD n],
    fun _ _ => []⟩]

/-! Block SEC -/

/-- `SEC.SERIAL_LO.SERIAL`, bits [31:0], R488 of 15_roles_and_provenance.md. -/
def SEC.SERIAL_LO.SERIAL : Fld := ⟨0x6000, 0, 32, 0, .ro⟩

/-- `SEC.SERIAL_HI.SERIAL`, bits [31:0], R488 of 15_roles_and_provenance.md. -/
def SEC.SERIAL_HI.SERIAL : Fld := ⟨0x6004, 0, 32, 0, .ro⟩

/-- `SEC.STATE.CLAIMED`, bits [0:0], R488 of 15_roles_and_provenance.md. -/
def SEC.STATE.CLAIMED : Fld := ⟨0x6008, 0, 1, 0, .ro⟩

/-- `SEC.STATE.SERVICE`, bits [1:1], R488 of 15_roles_and_provenance.md. -/
def SEC.STATE.SERVICE : Fld := ⟨0x6008, 1, 1, 0, .ro⟩

/-- `SEC.STATE.RELEASE_PENDING`, bits [2:2], R488 of 15_roles_and_provenance.md. -/
def SEC.STATE.RELEASE_PENDING : Fld := ⟨0x6008, 2, 1, 0, .ro⟩

/-- `SEC.STATE.CLAIM_PIN`, bits [3:3], R488 of 15_roles_and_provenance.md. -/
def SEC.STATE.CLAIM_PIN : Fld := ⟨0x6008, 3, 1, 0, .ro⟩

/-- `SEC.STATE.CERT`, bits [9:8], R488 of 15_roles_and_provenance.md. -/
def SEC.STATE.CERT : Fld := ⟨0x6008, 8, 2, 0, .ro⟩

/-- `SEC.STATE.ROLE`, bits [13:12], R488 of 15_roles_and_provenance.md. -/
def SEC.STATE.ROLE : Fld := ⟨0x6008, 12, 2, 0, .ro⟩

/-- `SEC.TOKEN_CTL.LENGTH`, bits [14:0], R488 of 15_roles_and_provenance.md. -/
def SEC.TOKEN_CTL.LENGTH : Fld := ⟨0x600c, 0, 15, 0, .wo⟩

/-- `SEC.TOKEN_CTL.SUBMIT`, bits [16:16], R488 of 15_roles_and_provenance.md. -/
def SEC.TOKEN_CTL.SUBMIT : Fld := ⟨0x600c, 16, 1, 0, .wo⟩

/-- `SEC.TOKEN_STATUS.RESULT`, bits [3:0], R488 of 15_roles_and_provenance.md. -/
def SEC.TOKEN_STATUS.RESULT : Fld := ⟨0x6010, 0, 4, 0, .ro⟩

/-- `SEC.TOKEN_STATUS.BUSY`, bits [4:4], R488 of 15_roles_and_provenance.md. -/
def SEC.TOKEN_STATUS.BUSY : Fld := ⟨0x6010, 4, 1, 0, .ro⟩

/-- `SEC.TOKEN_STATUS.KIND`, bits [15:8], R488 of 15_roles_and_provenance.md. -/
def SEC.TOKEN_STATUS.KIND : Fld := ⟨0x6010, 8, 8, 0, .ro⟩

/-- `SEC.INST_CNT.COUNT`, bits [31:0], R488 of 15_roles_and_provenance.md. -/
def SEC.INST_CNT.COUNT : Fld := ⟨0x6014, 0, 32, 0, .ro⟩

/-- `SEC.MAKER_CNT.COUNT`, bits [31:0], R488 of 15_roles_and_provenance.md. -/
def SEC.MAKER_CNT.COUNT : Fld := ⟨0x6018, 0, 32, 0, .ro⟩

/-- `SEC.MANIFEST.PERIOD_MS`, bits [15:0], R488 of 15_roles_and_provenance.md. -/
def SEC.MANIFEST.PERIOD_MS : Fld := ⟨0x601c, 0, 16, 0x3e8, .rwi⟩

/-- `SEC.MAN_NEXT_LO.NUMBER`, bits [31:0], R488 of 15_roles_and_provenance.md. -/
def SEC.MAN_NEXT_LO.NUMBER : Fld := ⟨0x6020, 0, 32, 0, .ro⟩

/-- `SEC.MAN_NEXT_HI.NUMBER`, bits [7:0], R488 of 15_roles_and_provenance.md. -/
def SEC.MAN_NEXT_HI.NUMBER : Fld := ⟨0x6024, 0, 8, 0, .ro⟩

/-- `SEC.SIGN.QUEUE`, bits [6:0], R488 of 15_roles_and_provenance.md. -/
def SEC.SIGN.QUEUE : Fld := ⟨0x6028, 0, 7, 0, .ro⟩

/-- `SEC.SIGN.COALESCED`, bits [30:16], R488 of 15_roles_and_provenance.md. -/
def SEC.SIGN.COALESCED : Fld := ⟨0x6028, 16, 15, 0, .ro⟩

/-- `SEC.SIGN.SAT`, bits [31:31], R488 of 15_roles_and_provenance.md. -/
def SEC.SIGN.SAT : Fld := ⟨0x6028, 31, 1, 0, .w1c⟩

/-- `SEC.ATTEST_CTL.GO`, bits [0:0], R488 of 15_roles_and_provenance.md. -/
def SEC.ATTEST_CTL.GO : Fld := ⟨0x602c, 0, 1, 0, .wo⟩

/-- `SEC.ATTEST_CTL.BUSY`, bits [8:8], R488 of 15_roles_and_provenance.md. -/
def SEC.ATTEST_CTL.BUSY : Fld := ⟨0x602c, 8, 1, 0, .ro⟩

/-- `SEC.KAT.PASSES`, bits [31:0], R488 of 15_roles_and_provenance.md. -/
def SEC.KAT.PASSES : Fld := ⟨0x6030, 0, 32, 0, .ro⟩

/-- `SEC.NONCEk.WORD`, bits [31:0], R488 of 15_roles_and_provenance.md. -/
def SEC.NONCEk.WORD (n : Nat) : Fld := ⟨0x6040 + 0x4 * n, 0, 32, 0, .rw⟩

/-- The registers of block SEC. -/
def SEC.regs : List Reg := [
  ⟨0x6000, 0x0, 1, 0, 1, fun _ _ => [SEC.SERIAL_LO.SERIAL],
    fun _ _ => []⟩,
  ⟨0x6004, 0x0, 1, 0, 1, fun _ _ => [SEC.SERIAL_HI.SERIAL],
    fun _ _ => []⟩,
  ⟨0x6008, 0x0, 1, 0, 1, fun _ _ => [SEC.STATE.CLAIMED, SEC.STATE.SERVICE, SEC.STATE.RELEASE_PENDING, SEC.STATE.CLAIM_PIN, SEC.STATE.CERT, SEC.STATE.ROLE],
    fun _ _ => []⟩,
  ⟨0x600c, 0x0, 1, 0, 1, fun _ _ => [SEC.TOKEN_CTL.LENGTH, SEC.TOKEN_CTL.SUBMIT],
    fun _ _ => []⟩,
  ⟨0x6010, 0x0, 1, 0, 1, fun _ _ => [SEC.TOKEN_STATUS.RESULT, SEC.TOKEN_STATUS.BUSY, SEC.TOKEN_STATUS.KIND],
    fun _ _ => []⟩,
  ⟨0x6014, 0x0, 1, 0, 1, fun _ _ => [SEC.INST_CNT.COUNT],
    fun _ _ => []⟩,
  ⟨0x6018, 0x0, 1, 0, 1, fun _ _ => [SEC.MAKER_CNT.COUNT],
    fun _ _ => []⟩,
  ⟨0x601c, 0x0, 1, 0, 1, fun _ _ => [SEC.MANIFEST.PERIOD_MS],
    fun _ _ => []⟩,
  ⟨0x6020, 0x0, 1, 0, 1, fun _ _ => [SEC.MAN_NEXT_LO.NUMBER],
    fun _ _ => []⟩,
  ⟨0x6024, 0x0, 1, 0, 1, fun _ _ => [SEC.MAN_NEXT_HI.NUMBER],
    fun _ _ => []⟩,
  ⟨0x6028, 0x0, 1, 0, 1, fun _ _ => [SEC.SIGN.QUEUE, SEC.SIGN.COALESCED, SEC.SIGN.SAT],
    fun _ _ => [(SEC.SIGN.SAT, [SEC.SIGN.COALESCED])]⟩,
  ⟨0x602c, 0x0, 1, 0, 1, fun _ _ => [SEC.ATTEST_CTL.GO, SEC.ATTEST_CTL.BUSY],
    fun _ _ => []⟩,
  ⟨0x6030, 0x0, 1, 0, 1, fun _ _ => [SEC.KAT.PASSES],
    fun _ _ => []⟩,
  ⟨0x6040, 0x4, 8, 0, 1, fun n _ => [SEC.NONCEk.WORD n],
    fun _ _ => []⟩]

/-! Block LGR -/

/-- `LGR.AUDIT.HELD`, bits [14:0], R488 of 15_roles_and_provenance.md. -/
def LGR.AUDIT.HELD : Fld := ⟨0x6100, 0, 15, 0, .ro⟩

/-- `LGR.AUDIT.WARN`, bits [15:15], R488 of 15_roles_and_provenance.md. -/
def LGR.AUDIT.WARN : Fld := ⟨0x6100, 15, 1, 0, .ro⟩

/-- `LGR.AUDIT.FULL`, bits [16:16], R488 of 15_roles_and_provenance.md. -/
def LGR.AUDIT.FULL : Fld := ⟨0x6100, 16, 1, 0, .ro⟩

/-- `LGR.AUDIT.LOST`, bits [30:17], R488 of 15_roles_and_provenance.md. -/
def LGR.AUDIT.LOST : Fld := ⟨0x6100, 17, 14, 0, .ro⟩

/-- `LGR.AUDIT.LOST_SAT`, bits [31:31], R488 of 15_roles_and_provenance.md. -/
def LGR.AUDIT.LOST_SAT : Fld := ⟨0x6100, 31, 1, 0, .w1c⟩

/-- `LGR.AUDIT_SEQ_LO.SEQ`, bits [31:0], R488 of 15_roles_and_provenance.md. -/
def LGR.AUDIT_SEQ_LO.SEQ : Fld := ⟨0x6104, 0, 32, 0, .ro⟩

/-- `LGR.AUDIT_SEQ_HI.SEQ`, bits [31:0], R488 of 15_roles_and_provenance.md. -/
def LGR.AUDIT_SEQ_HI.SEQ : Fld := ⟨0x6108, 0, 32, 0, .ro⟩

/-- `LGR.EXPORT_CTL.GO`, bits [0:0], R488 of 15_roles_and_provenance.md. -/
def LGR.EXPORT_CTL.GO : Fld := ⟨0x610c, 0, 1, 0, .wo⟩

/-- `LGR.EXPORT_CTL.CAL`, bits [1:1], R488 of 15_roles_and_provenance.md. -/
def LGR.EXPORT_CTL.CAL : Fld := ⟨0x610c, 1, 1, 0, .wo⟩

/-- `LGR.EXPORT_STATUS.STATE`, bits [1:0], R488 of 15_roles_and_provenance.md. -/
def LGR.EXPORT_STATUS.STATE : Fld := ⟨0x6110, 0, 2, 0, .ro⟩

/-- `LGR.EXPORT_STATUS.LENGTH_KB`, bits [31:8], R488 of 15_roles_and_provenance.md. -/
def LGR.EXPORT_STATUS.LENGTH_KB : Fld := ⟨0x6110, 8, 24, 0, .ro⟩

/-- `LGR.HOSTS.COUNT`, bits [8:0], R488 of 15_roles_and_provenance.md. -/
def LGR.HOSTS.COUNT : Fld := ⟨0x6114, 0, 9, 0, .ro⟩

/-- `LGR.WEAR.PPM`, bits [15:0], R488 of 15_roles_and_provenance.md. -/
def LGR.WEAR.PPM : Fld := ⟨0x6118, 0, 16, 0, .ro⟩

/-- `LGR.OPLOG.NEWEST`, bits [11:0], R488 of 15_roles_and_provenance.md. -/
def LGR.OPLOG.NEWEST : Fld := ⟨0x611c, 0, 12, 0, .ro⟩

/-- `LGR.OPLOG.WRAPPED`, bits [12:12], R488 of 15_roles_and_provenance.md. -/
def LGR.OPLOG.WRAPPED : Fld := ⟨0x611c, 12, 1, 0, .ro⟩

/-- The registers of block LGR. -/
def LGR.regs : List Reg := [
  ⟨0x6100, 0x0, 1, 0, 1, fun _ _ => [LGR.AUDIT.HELD, LGR.AUDIT.WARN, LGR.AUDIT.FULL, LGR.AUDIT.LOST, LGR.AUDIT.LOST_SAT],
    fun _ _ => [(LGR.AUDIT.LOST_SAT, [LGR.AUDIT.LOST])]⟩,
  ⟨0x6104, 0x0, 1, 0, 1, fun _ _ => [LGR.AUDIT_SEQ_LO.SEQ],
    fun _ _ => []⟩,
  ⟨0x6108, 0x0, 1, 0, 1, fun _ _ => [LGR.AUDIT_SEQ_HI.SEQ],
    fun _ _ => []⟩,
  ⟨0x610c, 0x0, 1, 0, 1, fun _ _ => [LGR.EXPORT_CTL.GO, LGR.EXPORT_CTL.CAL],
    fun _ _ => []⟩,
  ⟨0x6110, 0x0, 1, 0, 1, fun _ _ => [LGR.EXPORT_STATUS.STATE, LGR.EXPORT_STATUS.LENGTH_KB],
    fun _ _ => []⟩,
  ⟨0x6114, 0x0, 1, 0, 1, fun _ _ => [LGR.HOSTS.COUNT],
    fun _ _ => []⟩,
  ⟨0x6118, 0x0, 1, 0, 1, fun _ _ => [LGR.WEAR.PPM],
    fun _ _ => []⟩,
  ⟨0x611c, 0x0, 1, 0, 1, fun _ _ => [LGR.OPLOG.NEWEST, LGR.OPLOG.WRAPPED],
    fun _ _ => []⟩]

/-! Block I3C -/

/-- `I3C.STATUS.DA`, bits [6:0], R568 of 19_i3c_and_register_map.md. -/
def I3C.STATUS.DA : Fld := ⟨0x7000, 0, 7, 0, .ro⟩

/-- `I3C.STATUS.DA_VALID`, bits [7:7], R568 of 19_i3c_and_register_map.md. -/
def I3C.STATUS.DA_VALID : Fld := ⟨0x7000, 7, 1, 0, .ro⟩

/-- `I3C.STATUS.ENINT`, bits [8:8], R568 of 19_i3c_and_register_map.md. -/
def I3C.STATUS.ENINT : Fld := ⟨0x7000, 8, 1, 0, .ro⟩

/-- `I3C.STATUS.ENHJ`, bits [9:9], R568 of 19_i3c_and_register_map.md. -/
def I3C.STATUS.ENHJ : Fld := ⟨0x7000, 9, 1, 1, .ro⟩

/-- `I3C.STATUS.AUTH`, bits [10:10], R568 of 19_i3c_and_register_map.md. -/
def I3C.STATUS.AUTH : Fld := ⟨0x7000, 10, 1, 0, .ro⟩

/-- `I3C.STATUS.ROLE`, bits [13:12], R568 of 19_i3c_and_register_map.md. -/
def I3C.STATUS.ROLE : Fld := ⟨0x7000, 12, 2, 1, .ro⟩

/-- `I3C.AUTH_HOST.HOST_ID`, bits [31:0], R568 of 19_i3c_and_register_map.md. -/
def I3C.AUTH_HOST.HOST_ID : Fld := ⟨0x7004, 0, 32, 0, .rw⟩

/-- `I3C.AUTH_CTL.NONCE`, bits [0:0], R568 of 19_i3c_and_register_map.md. -/
def I3C.AUTH_CTL.NONCE : Fld := ⟨0x7008, 0, 1, 0, .wo⟩

/-- `I3C.AUTH_CTL.GO`, bits [1:1], R568 of 19_i3c_and_register_map.md. -/
def I3C.AUTH_CTL.GO : Fld := ⟨0x7008, 1, 1, 0, .wo⟩

/-- `I3C.AUTH_CTL.LOGOUT`, bits [2:2], R568 of 19_i3c_and_register_map.md. -/
def I3C.AUTH_CTL.LOGOUT : Fld := ⟨0x7008, 2, 1, 0, .wo⟩

/-- `I3C.AUTH_CTL.RESULT`, bits [9:8], R568 of 19_i3c_and_register_map.md. -/
def I3C.AUTH_CTL.RESULT : Fld := ⟨0x7008, 8, 2, 0, .ro⟩

/-- `I3C.AUTH_CTL.BACKOFF_S`, bits [31:16], R568 of 19_i3c_and_register_map.md. -/
def I3C.AUTH_CTL.BACKOFF_S : Fld := ⟨0x7008, 16, 16, 0, .ro⟩

/-- `I3C.AUTH_IDLE.SECONDS`, bits [11:0], R568 of 19_i3c_and_register_map.md. -/
def I3C.AUTH_IDLE.SECONDS : Fld := ⟨0x700c, 0, 12, 0x3c, .rwi⟩

/-- `I3C.AUTH_NONCEk.WORD`, bits [31:0], R568 of 19_i3c_and_register_map.md. -/
def I3C.AUTH_NONCEk.WORD (n : Nat) : Fld := ⟨0x7010 + 0x4 * n, 0, 32, 0, .ro⟩

/-- `I3C.AUTH_MACk.WORD`, bits [31:0], R568 of 19_i3c_and_register_map.md. -/
def I3C.AUTH_MACk.WORD (n : Nat) : Fld := ⟨0x7030 + 0x4 * n, 0, 32, 0, .wo⟩

/-- `I3C.REFUSED.ADDRESS`, bits [15:0], R568 of 19_i3c_and_register_map.md. -/
def I3C.REFUSED.ADDRESS : Fld := ⟨0x7050, 0, 16, 0, .ro⟩

/-- `I3C.REFUSED.STATUS`, bits [19:16], R568 of 19_i3c_and_register_map.md. -/
def I3C.REFUSED.STATUS : Fld := ⟨0x7050, 16, 4, 0, .ro⟩

/-- `I3C.REFUSED.COUNT`, bits [30:24], R568 of 19_i3c_and_register_map.md. -/
def I3C.REFUSED.COUNT : Fld := ⟨0x7050, 24, 7, 0, .ro⟩

/-- `I3C.REFUSED.SAT`, bits [31:31], R568 of 19_i3c_and_register_map.md. -/
def I3C.REFUSED.SAT : Fld := ⟨0x7050, 31, 1, 0, .w1c⟩

/-- `I3C.IBI_CFG.CLASSES`, bits [4:0], R568 of 19_i3c_and_register_map.md. -/
def I3C.IBI_CFG.CLASSES : Fld := ⟨0x7054, 0, 5, 0xf, .rw⟩

/-- `I3C.IBI_EVENTS.MASK`, bits [31:0], R568 of 19_i3c_and_register_map.md. -/
def I3C.IBI_EVENTS.MASK : Fld := ⟨0x7058, 0, 32, 0, .rw⟩

/-- `I3C.ATTN_EVENTS.MASK`, bits [31:0], R568 of 19_i3c_and_register_map.md. -/
def I3C.ATTN_EVENTS.MASK : Fld := ⟨0x705c, 0, 32, 0, .rw⟩

/-- `I3C.ATTN.EVENT`, bits [0:0], R568 of 19_i3c_and_register_map.md. -/
def I3C.ATTN.EVENT : Fld := ⟨0x7060, 0, 1, 0, .w1c⟩

/-- `I3C.ATTN.WINDOW`, bits [1:1], R568 of 19_i3c_and_register_map.md. -/
def I3C.ATTN.WINDOW : Fld := ⟨0x7060, 1, 1, 0, .ro⟩

/-- `I3C.ATTN.HALTED`, bits [2:2], R568 of 19_i3c_and_register_map.md. -/
def I3C.ATTN.HALTED : Fld := ⟨0x7060, 2, 1, 0, .ro⟩

/-- `I3C.IBI_STATUS.SEQ`, bits [15:0], R568 of 19_i3c_and_register_map.md. -/
def I3C.IBI_STATUS.SEQ : Fld := ⟨0x7064, 0, 16, 0, .ro⟩

/-- `I3C.IBI_STATUS.WAITING`, bits [22:16], R568 of 19_i3c_and_register_map.md. -/
def I3C.IBI_STATUS.WAITING : Fld := ⟨0x7064, 16, 7, 0, .ro⟩

/-- `I3C.IBI_STATUS.OVERFLOW`, bits [24:24], R568 of 19_i3c_and_register_map.md. -/
def I3C.IBI_STATUS.OVERFLOW : Fld := ⟨0x7064, 24, 1, 0, .w1c⟩

/-- `I3C.WIN_SEL.REGION`, bits [7:0], R568 of 19_i3c_and_register_map.md. -/
def I3C.WIN_SEL.REGION : Fld := ⟨0x7070, 0, 8, 0, .rw⟩

/-- `I3C.WIN_SEL.INDEX`, bits [15:8], R568 of 19_i3c_and_register_map.md. -/
def I3C.WIN_SEL.INDEX : Fld := ⟨0x7070, 8, 8, 0, .rw⟩

/-- `I3C.WIN_SEL.UNAVAILABLE`, bits [31:31], R568 of 19_i3c_and_register_map.md. -/
def I3C.WIN_SEL.UNAVAILABLE : Fld := ⟨0x7070, 31, 1, 0, .ro⟩

/-- `I3C.WIN_BASE.PAGE`, bits [21:0], R568 of 19_i3c_and_register_map.md. -/
def I3C.WIN_BASE.PAGE : Fld := ⟨0x7074, 0, 22, 0, .rw⟩

/-- `I3C.FLASH_CTL.OP`, bits [2:0], R568 of 19_i3c_and_register_map.md. -/
def I3C.FLASH_CTL.OP : Fld := ⟨0x7080, 0, 3, 0, .wo⟩

/-- `I3C.FLASH_CTL.GO`, bits [8:8], R568 of 19_i3c_and_register_map.md. -/
def I3C.FLASH_CTL.GO : Fld := ⟨0x7080, 8, 1, 0, .wo⟩

/-- `I3C.FLASH_ADDR.ADDR`, bits [25:0], R568 of 19_i3c_and_register_map.md. -/
def I3C.FLASH_ADDR.ADDR : Fld := ⟨0x7084, 0, 26, 0, .rwi⟩

/-- `I3C.FLASH_LEN.BYTES`, bits [12:0], R568 of 19_i3c_and_register_map.md. -/
def I3C.FLASH_LEN.BYTES : Fld := ⟨0x7088, 0, 13, 0, .rwi⟩

/-- `I3C.FLASH_RANGE.FIRST`, bits [9:0], R568 of 19_i3c_and_register_map.md. -/
def I3C.FLASH_RANGE.FIRST : Fld := ⟨0x708c, 0, 10, 0, .rwi⟩

/-- `I3C.FLASH_RANGE.LAST`, bits [25:16], R568 of 19_i3c_and_register_map.md. -/
def I3C.FLASH_RANGE.LAST : Fld := ⟨0x708c, 16, 10, 0, .rwi⟩

/-- `I3C.FLASH_STATUS.STATE`, bits [1:0], R568 of 19_i3c_and_register_map.md. -/
def I3C.FLASH_STATUS.STATE : Fld := ⟨0x7090, 0, 2, 0, .ro⟩

/-- `I3C.FLASH_STATUS.RESULT`, bits [7:4], R568 of 19_i3c_and_register_map.md. -/
def I3C.FLASH_STATUS.RESULT : Fld := ⟨0x7090, 4, 4, 0, .ro⟩

/-- `I3C.FLASH_STATUS.OPS`, bits [31:16], R568 of 19_i3c_and_register_map.md. -/
def I3C.FLASH_STATUS.OPS : Fld := ⟨0x7090, 16, 16, 0, .ro⟩

/-- The registers of block I3C. -/
def I3C.regs : List Reg := [
  ⟨0x7000, 0x0, 1, 0, 1, fun _ _ => [I3C.STATUS.DA, I3C.STATUS.DA_VALID, I3C.STATUS.ENINT, I3C.STATUS.ENHJ, I3C.STATUS.AUTH, I3C.STATUS.ROLE],
    fun _ _ => []⟩,
  ⟨0x7004, 0x0, 1, 0, 1, fun _ _ => [I3C.AUTH_HOST.HOST_ID],
    fun _ _ => []⟩,
  ⟨0x7008, 0x0, 1, 0, 1, fun _ _ => [I3C.AUTH_CTL.NONCE, I3C.AUTH_CTL.GO, I3C.AUTH_CTL.LOGOUT, I3C.AUTH_CTL.RESULT, I3C.AUTH_CTL.BACKOFF_S],
    fun _ _ => []⟩,
  ⟨0x700c, 0x0, 1, 0, 1, fun _ _ => [I3C.AUTH_IDLE.SECONDS],
    fun _ _ => []⟩,
  ⟨0x7010, 0x4, 8, 0, 1, fun n _ => [I3C.AUTH_NONCEk.WORD n],
    fun _ _ => []⟩,
  ⟨0x7030, 0x4, 8, 0, 1, fun n _ => [I3C.AUTH_MACk.WORD n],
    fun _ _ => []⟩,
  ⟨0x7050, 0x0, 1, 0, 1, fun _ _ => [I3C.REFUSED.ADDRESS, I3C.REFUSED.STATUS, I3C.REFUSED.COUNT, I3C.REFUSED.SAT],
    fun _ _ => [(I3C.REFUSED.SAT, [I3C.REFUSED.COUNT, I3C.REFUSED.STATUS, I3C.REFUSED.ADDRESS])]⟩,
  ⟨0x7054, 0x0, 1, 0, 1, fun _ _ => [I3C.IBI_CFG.CLASSES],
    fun _ _ => []⟩,
  ⟨0x7058, 0x0, 1, 0, 1, fun _ _ => [I3C.IBI_EVENTS.MASK],
    fun _ _ => []⟩,
  ⟨0x705c, 0x0, 1, 0, 1, fun _ _ => [I3C.ATTN_EVENTS.MASK],
    fun _ _ => []⟩,
  ⟨0x7060, 0x0, 1, 0, 1, fun _ _ => [I3C.ATTN.EVENT, I3C.ATTN.WINDOW, I3C.ATTN.HALTED],
    fun _ _ => []⟩,
  ⟨0x7064, 0x0, 1, 0, 1, fun _ _ => [I3C.IBI_STATUS.SEQ, I3C.IBI_STATUS.WAITING, I3C.IBI_STATUS.OVERFLOW],
    fun _ _ => []⟩,
  ⟨0x7070, 0x0, 1, 0, 1, fun _ _ => [I3C.WIN_SEL.REGION, I3C.WIN_SEL.INDEX, I3C.WIN_SEL.UNAVAILABLE],
    fun _ _ => []⟩,
  ⟨0x7074, 0x0, 1, 0, 1, fun _ _ => [I3C.WIN_BASE.PAGE],
    fun _ _ => []⟩,
  ⟨0x7080, 0x0, 1, 0, 1, fun _ _ => [I3C.FLASH_CTL.OP, I3C.FLASH_CTL.GO],
    fun _ _ => []⟩,
  ⟨0x7084, 0x0, 1, 0, 1, fun _ _ => [I3C.FLASH_ADDR.ADDR],
    fun _ _ => []⟩,
  ⟨0x7088, 0x0, 1, 0, 1, fun _ _ => [I3C.FLASH_LEN.BYTES],
    fun _ _ => []⟩,
  ⟨0x708c, 0x0, 1, 0, 1, fun _ _ => [I3C.FLASH_RANGE.FIRST, I3C.FLASH_RANGE.LAST],
    fun _ _ => []⟩,
  ⟨0x7090, 0x0, 1, 0, 1, fun _ _ => [I3C.FLASH_STATUS.STATE, I3C.FLASH_STATUS.RESULT, I3C.FLASH_STATUS.OPS],
    fun _ _ => []⟩]

end Sys2Proof.Machine
end

