-- ==== Sys2Proof/Machine/State.lean ====
section
/-! DEFINITION. The state of the machine: the register file, what each block holds beside its registers, the memories,
the ledger, and the queue of commands that wait. Plain data throughout. `State.reset` is the machine right after reset
(R517, R530, and the reset columns of the register tables). -/

namespace Sys2Proof.Machine

/-! ### Attachments, roles, logs (R11, R461, R462, R481, R546) -/

/-- The three roles of R461. -/
inductive Role where
  | operator | installer | maker
  deriving DecidableEq, Repr

/-- One record of the event log (R546). -/
structure Event where
  code : Nat
  seq : Nat
  tb : Nat
  params : List Nat
  inHalted : Bool
  deriving DecidableEq, Repr

/-- One entry of the volatile operator log (R462). -/
structure OpEntry where
  tb : Nat
  hostId : Nat
  addr : Nat
  att : Nat
  result : Nat
  value : Nat
  seq : Nat
  deriving DecidableEq, Repr

/-- One entry of the audit log (R481); `prev` is the first 24 bytes of the digest of the entry before. -/
structure AuditEntry where
  seq : Nat
  tb : Nat
  kind : Nat
  role : Nat
  att : Nat
  hostId : Nat
  p0 : Nat
  p1 : Nat
  p2 : Nat
  p3 : Nat
  prev : List Nat
  deriving DecidableEq, Repr

/-- One in-band interrupt that waits (R558): class and further bytes. -/
structure Ibi where
  cls : Nat
  data : List Nat
  deriving DecidableEq, Repr

/-! ### Waggle (12_host_ports_and_waggle.md) -/

/-- The body of an item that waits on a stream. -/
inductive Body where
  /-- Bytes laid out when the item arose. -/
  | bytes (bs : List Nat)
  /-- A frame of a table, read from capture memory as it is sent (R397). -/
  | frame (table index : Nat)
  /-- A record of the archive, read from DRAM as it is sent (R371). -/
  | archive (number : Nat)
  /-- A live frame: the bytes that have arrived, and whether the closing header is among them (R409). -/
  | live (bs : List Nat) (closed : Bool)
  /-- A loss notice (R400). -/
  | skip (reason first last roll : Nat)
  deriving DecidableEq, Repr

/-- An item of a stream: packet type (R387), item number, body, and what it holds against the quota (R399). -/
structure Item where
  typ : Nat
  number : Nat
  body : Body
  cost : Nat
  deriving DecidableEq, Repr

/-- A packet of the device that is not yet acknowledged (R385, R394). -/
structure Packet where
  typ : Nat
  flags : Nat
  stream : Nat
  seq : Nat
  ack : Nat
  credit : Nat
  payload : List Nat
  tag : List Nat
  /-- When it was last sent, in elapsed ticks (R394). -/
  at_ : Nat := 0
  deriving DecidableEq, Repr

/-- A frame on the wire (R383): addresses, EtherType, the 802.1Q VID and PCP where the port is tagged, and the Waggle packet it carries. -/
structure TxFrame where
  dst : Nat
  src : Nat
  etherType : Nat
  vlan : Option (Nat × Nat)
  packet : Packet
  deriving DecidableEq, Repr

/-- An open stream of a session (R393, R396); stream 0 is one too. -/
structure Strm where
  id : Nat
  kind : Nat
  param : List Nat
  nextSeq : Nat := 0
  ack : Nat := 0
  credit : Nat := 0
  /-- Items not yet wholly sent, oldest first. -/
  queue : List Item := []
  /-- Bytes of the head item already sent, and whether its reads from capture or archive memory are asked for. -/
  offset : Nat := 0
  asked : Bool := false
  /-- Packets sent and not acknowledged, oldest first. -/
  unacked : List Packet := []
  /-- Items wholly sent whose LAST packet is not acknowledged, with that packet's sequence. -/
  inflight : List (Nat × Item) := []
  /-- Index into `unacked` of the next packet to resend; none when nothing is being resent. -/
  resend : Option Nat := none
  /-- When the FIRST packet of a snapshot item was sent (R399). -/
  snapAt : Nat := 0
  /-- Progress of a READOUT or ARCHIVE stream, the next number it takes; live frames dealt so far (R409). -/
  next : Nat := 0
  deal : Nat := 0
  deriving DecidableEq, Repr

/-- The session and the counters of one host port (R389 to R417). State, link, closure, tag use, stream count,
P_max and host_id stand in the registers `HPT.Pp_STATUS` and `HPT.Pp_HOST`. -/
structure Port where
  role : Nat := 0
  rights : Nat := 0
  quotaMb : Nat := 0
  nonceH : List Nat := []
  nonceD : List Nat := []
  /-- Host key K of the challenge, and the session key K_s (R391). -/
  key : List Nat := []
  sessionKey : List Nat := []
  /-- Whether a HELLO in progress resumes the session, and what it agreed. -/
  resuming : Bool := false
  tagsNext : Bool := false
  pMaxNext : Nat := 0
  /-- Next sequence expected from the host on stream 0. -/
  rxSeq : Nat := 0
  streams : List Strm := []
  winRegion : Nat := 0
  winIndex : Nat := 0
  winPage : Nat := 0
  /-- Times: HELLO reply, last valid packet, last packet sent, entry into ABSENT. -/
  helloAt : Nat := 0
  heardAt : Nat := 0
  sentAt : Nat := 0
  absentAt : Nat := 0
  holdEnded : Bool := false
  /-- Backoff after AUTH_FAIL: until when HELLOs are ignored, and its length in seconds (R411). -/
  backoffUntil : Nat := 0
  backoffS : Nat := 0
  /-- Token bucket of the rate limit: packets left, in units of 1/1,250,000,000 packet, and when last filled (R411). -/
  bucket : Nat := 1280000000000
  bucketAt : Nat := 0
  /-- Times of the hostile packets of the last second (R412). -/
  hostile : List Nat := []
  /-- MAC address of the session's host, and the frame last put on the wire (R383). -/
  mac : Nat := 0
  tx : Option TxFrame := none
  /-- The MTU of 9,000 stands for the session in being (R417). -/
  jumbo : Bool := false
  /-- The sixteen counters of the statistics view (R417), the two quota figures computed when read. -/
  stats : List Nat := List.replicate 16 0
  /-- The control request being reassembled (R388). -/
  partialReq : List Nat := []
  /-- The last statement signed for this attachment (R473), and responses that wait behind one (R406). -/
  attest : List Nat := []
  waitResp : List (List Nat) := []
  deriving DecidableEq, Repr

/-- One lease item (R408): holder port and time of expiry. -/
structure Lease where
  holder : Option Nat := none
  expires : Nat := 0
  deriving DecidableEq, Repr

/-! ### Image (16_configuration_image_and_profiles.md) -/

/-- The DEVICE section (R494). -/
structure DeviceSec where
  refinSel : Nat := 0
  i3cStatic : Nat := 0
  prfSource : Nat := 0
  ddrRate : Nat := 0
  ddrRanks : Nat := 0
  ddrDensity : Nat := 0
  ddrAttach : Nat := 0
  ddrTiming : List Nat := []
  mac : List Nat := []
  group : List Nat := []
  lanes : Nat := 0
  dsiMode : Nat := 0
  pixel : Nat := 0
  width : Nat := 0
  height : Nat := 0
  hTotal : Nat := 0
  vTotal : Nat := 0
  laneKbps : Nat := 0
  minPeriod : Nat := 0
  lists : List (List Nat) := []
  deriving DecidableEq, Repr

/-- One operator bound of a profile (R495, R496). -/
structure Bound where
  addr : Nat
  signed : Bool
  locked : Bool
  mask : Nat
  lo : Nat
  hi : Nat
  deriving DecidableEq, Repr

/-- A PROFILE section (R495). -/
structure Profile where
  number : Nat := 0
  flags : Nat := 0
  acqMode : Nat := 0
  startMask : Nat := 0
  allowed : Nat := 0
  pll1Khz : Nat := 0
  idleDarkMs : Nat := 0
  writes : List (Nat × Nat) := []
  bounds : List Bound := []
  /-- Cell, program, action. -/
  cells : List (Nat × Nat × Nat) := []
  deriving DecidableEq, Repr

/-- One table of the TABLES section (R497), as its bytes. -/
structure Table where
  kind : Nat
  number : Nat
  bytes : List Nat
  deriving DecidableEq, Repr

/-- A port policy (R499). -/
structure Policy where
  rate : Nat := 200000
  burst : Nat := 1024
  close : Nat := 0
  flags : Nat := 0
  pcp : Nat := 0
  vid : Nat := 0
  deriving DecidableEq, Repr

/-- A host grant (R499). -/
structure Grant where
  hostId : Nat
  role : Nat
  rights : Nat
  flags : Nat
  quotaMb : Nat
  deriving DecidableEq, Repr

/-- The MAKER section (R501): key id, firmware version, eight program objects. -/
structure MakerSec where
  keyId : Nat := 0
  version : Nat := 0
  progs : List (List Nat) := []
  deriving DecidableEq, Repr

/-- A verified image (R491 to R501). -/
structure Image where
  addr : Nat := 0
  length : Nat := 0
  rollback : Nat := 0
  imageKey : List Nat := []
  tokenKey : List Nat := []
  digest : List Nat := []
  device : DeviceSec := {}
  profiles : List Profile := []
  tables : List Table := []
  /-- Program objects of CELLPROG, in order, as their bytes (R336, R498). -/
  progs : List (List Nat) := []
  policies : List Policy := []
  grants : List Grant := []
  /-- value_nv, uncertainty_nv, coverage_k, certificate_id. -/
  certified : Nat × Nat × Nat × Nat := (0, 0, 0, 0)
  maker : MakerSec := {}
  deriving DecidableEq, Repr

/-! ### Ledger (15_roles_and_provenance.md): survives reset -/

/-- The owner record (R467). -/
structure Owner where
  imageKey : List Nat
  tokenKey : List Nat
  addr : Nat
  deriving DecidableEq, Repr

/-- A host key entry (R463, R465). -/
structure HostKey where
  hostId : Nat
  role : Nat
  rights : Nat
  flags : Nat
  quotaMb : Nat
  key : List Nat
  deriving DecidableEq, Repr

/-- One entry of the certified-value history (R90). -/
structure CertEntry where
  index : Nat
  value : Nat
  unc : Nat
  k : Nat
  certId : Nat
  tb : Nat
  role : Nat
  firstEpoch : List Nat
  waiting : Nat
  deriving DecidableEq, Repr

/-- A counter ring: 64 slots, each with the number of the update that wrote it and the value (R484). -/
structure CtrRing where
  slots : List (Option (Nat × Nat)) := List.replicate 64 none
  deriving DecidableEq, Repr

/-- The ledger (R483). -/
structure Ledger where
  serial : Nat := 0
  owner : Option Owner := none
  hosts : List HostKey := []
  /-- Counter rings: installer and maker counters (R466), anti-rollback counter (R504), the next block of 2^24 roll numbers (R228) and of
  65,536 manifest numbers (R475). -/
  instRing : CtrRing := {}
  makerRing : CtrRing := {}
  rollbackRing : CtrRing := {}
  rollRing : CtrRing := {}
  manRing : CtrRing := {}
  /-- Changes of the owner record and the host key table, each of which the directory's digests follow (R483). -/
  fixedWrites : Nat := 0
  /-- Audit log: entries held, newest first, and the next sequence (R480, R481). -/
  audit : List AuditEntry := []
  auditSeq : Nat := 0
  releasePending : Bool := false
  /-- Certified-value history, newest first (R90). -/
  certs : List CertEntry := []
  /-- Calibration ring, newest first, as records of bytes (R114). -/
  calRing : List (List Nat) := []
  /-- Learned interpolation curves: mode, curve (R204), newest first. -/
  curves : List (Nat × List Nat) := []
  certificate : List Nat := []
  neyrelKey : List Nat := []
  neyrelKeyId : Nat := 0
  identityKey : List Nat := []
  deriving DecidableEq, Repr

/-! ### Security engine -/

/-- A token that passed its checks and waits for its action (R464, R465). -/
structure Token where
  kind : Nat
  signer : Nat
  counter : Nat
  payload : List Nat
  att : Att
  deriving DecidableEq, Repr

/-- One leaf of the open manifest (R474). -/
structure Leaf where
  kind : Nat
  digest : List Nat
  deriving DecidableEq, Repr

/-- A closed manifest: number, leaf inputs, time of close (R475 to R478). -/
structure Manifest where
  number : Nat
  leaves : List Leaf
  closedTb : Nat
  deriving DecidableEq, Repr

/-- A signed manifest: first number and bytes (R477). -/
structure Signed where
  first : Nat
  count : Nat
  bytes : List Nat
  deriving DecidableEq, Repr

/-- An attestation statement that waits for its signature: its attachment, its bytes, and the CONTROL request it answers, empty
for one requested through a register (R472, R473). -/
structure Attest where
  att : Att
  body : List Nat
  req : List Nat
  deriving DecidableEq, Repr

/-- State of the security block that a reset loses. -/
structure Sec where
  token : Option Token := none
  lastInst : Option Nat := none
  lastMaker : Option Nat := none
  aperture : Memory := []
  /-- Service mode: the attachment it was entered through (R470). -/
  service : Option Att := none
  /-- Open manifest: leaves, newest last, when opened (elapsed ticks), its period in ms. -/
  leaves : List Leaf := []
  openedAt : Nat := 0
  periodMs : Nat := 0
  nextManifest : Nat := 0
  manLimit : Nat := 0
  /-- Signing queue: runs of closed manifests, oldest first; each run signs as one (R476). -/
  queue : List (List Manifest) := []
  /-- The signature in progress: 0 none, 1 the oldest queue entry, 2 the oldest statement, 3 the export; when it began. -/
  signing : Nat := 0
  signAt : Nat := 0
  /-- TB ticks at which it began, which a signed manifest carries (R477). -/
  signTb : Nat := 0
  /-- The newest 256 signed manifests, newest first (R478). -/
  signed : List Signed := []
  attestQ : List Attest := []
  i3cAttest : List Nat := []
  /-- Newest export as bytes and its last sequence (R482); an export being built: its last sequence and bytes. -/
  export_ : List Nat := []
  exportLast : Nat := 0
  building : Option (Nat × List Nat) := none
  katAt : Nat := 0
  deriving DecidableEq, Repr

/-! ### Start-up, profiles, I3C -/

/-- Reset and start-up (R517 to R520), pins, sleep. -/
structure Boot where
  /-- The device is held in reset; when the low, or the release of the power-on detector, began; the start is a power-on start
  (R517). -/
  inReset : Bool := false
  /-- RESET_N is recognised low (R586). -/
  resetLow : Bool := false
  /-- RESET_N has risen under a TAP instruction that keeps START from beginning (R586). -/
  held : Bool := false
  lowSince : Nat := 0
  powerOn : Bool := true
  /-- PSEL as sampled when START began (R505). -/
  psel : Nat := 0
  /-- START began; a wait of R520 began; ticks waited before it (R519). -/
  startAt : Nat := 0
  waitFrom : Option Nat := none
  waited : Nat := 0
  /-- TAP instruction loaded. -/
  tap : Nat := 1
  /-- Last bits a TAP data register shifted out, as a number. -/
  tdo : Nat := 0
  /-- WAKE_IN: recognised level, and samples of the new level so far (R525). -/
  wakeLevel : Bool := false
  wakeRun : Nat := 0
  /-- Wake source held during DARK entry: cause and window (R525). -/
  heldWake : Option (Nat × Nat) := none
  /-- When it was recognised; when HALTED was entered, in elapsed ticks (R528, R534). -/
  heldAt : Nat := 0
  haltAt : Nat := 0
  /-- DARK was entered (R529). -/
  darkSince : Nat := 0
  /-- Entry step reached (R523): 0 waits, 1 onwards. -/
  entryStep : Nat := 0
  /-- IDLE without a break since (R508). -/
  idleSince : Nat := 0
  /-- Start-up step 2 has been completed since START began (R590). -/
  selfTestDone : Bool := false
  /-- Parameters of SYS_WAKE, owed (R526). -/
  wakeReport : Option (List Nat) := none
  /-- Start-up step 9 has been completed: the pool is set (R246). -/
  poolSet : Bool := false
  deriving DecidableEq, Repr

/-- Profile switching and staging (R505 to R511). -/
structure Prf where
  /-- Who requested the pending switch: attachment, or none for the pins. -/
  byAtt : Option Att := none
  abort : Bool := false
  staged : Option Image := none
  stageAddr : Nat := 0
  /-- Adoption in progress: 0 none, 1 waits for the boundary, 2 re-reading, 3 the profile comes into force (R510). -/
  adopting : Nat := 0
  heldSwitch : Option (Nat × Option Att) := none
  /-- The profile whose remaining steps wait for the mode calibration of step 2 (R506). -/
  resumeAt : Option Nat := none
  oldProfile : Nat := 0
  /-- Of the switch that runs: the result so far, the channels of a continuous gap it ended, and that it is the one of start-up. -/
  outcome : Nat := 0
  cont : Nat := 0
  startUp : Bool := false
  deriving DecidableEq, Repr

/-- The I3C target beyond its registers (R550 to R562). -/
structure I3cSt where
  staticAddr : Nat := 0
  pid : Nat := 0
  mwl : Nat := 1026
  mrl : Nat := 1024
  protoErr : Bool := false
  pointer : Nat := 0
  /-- Bytes the last read or GET command returned. -/
  out : List Nat := []
  acked : Bool := false
  hdr : Bool := false
  ibis : List Ibi := []
  /-- Bytes of the last in-band interrupt requested. -/
  ibiOut : List Nat := []
  /-- Log sequences of the EVENT interrupts that wait, oldest first (R558, R559). -/
  eventSeqs : List Nat := []
  /-- A hot-join has been requested; start-up step 1 ended (R552). -/
  hotJoin : Bool := false
  upAt : Nat := 0
  /-- Authentication: nonce drawn and not used, attempts, backoff. -/
  nonceLive : Bool := false
  hostId : Nat := 0
  rights : Nat := 3
  backoffS : Nat := 0
  backoffUntil : Nat := 0
  lastTransfer : Nat := 0
  flashBuf : Memory := []
  /-- Operation running: op, address, length; operations of the session. -/
  flashOp : Option (Nat × Nat × Nat) := none
  /-- Blocks of the open session, and that it closes with the running operation (R561, R563). -/
  flashRange : Nat × Nat := (0, 0)
  flashClose : Bool := false
  deriving DecidableEq, Repr
/-! ### Clocks and the time base (04_clocks_and_time_base.md) -/

/-- The fit of sample positions to TB (R145): with `k` counting markers from the oldest held, the time in 2^-16 tick
of marker `k` is `(tSum + slopeNum / slopeDen * (n * k - kSum)) / n`; `n` is the number of markers held, `first` the
number of the oldest. -/
structure Fit where
  n : Nat
  first : Nat
  tSum : Int
  kSum : Int
  slopeNum : Int
  slopeDen : Int
  deriving DecidableEq, Repr

/-- Clocks, loops, TB, keeper and markers beside their registers. -/
structure Clk where
  /-- Consecutive good REFIN measurements, consecutive measurements that put the oscillator outside 5 %, and whether
  REFIN has been lost since START. -/
  refGood : Nat := 0
  oscBad : Nat := 0
  refLost : Bool := false
  /-- The PLLs have been enabled (start-up step 7). -/
  pllOn : Bool := false
  /-- PLL3 is off for self-refresh (R366). -/
  pll3Off : Bool := false
  /-- Per PLL: consecutive good windows; whether lock was lost or a relock begun; when it was enabled or `CLK.REF.OK` last returned,
  none once it has declared lock since (R132); frequency in force in kHz. -/
  good : List Nat := List.replicate 6 0
  broken : List Bool := List.replicate 6 false
  since : List (Option Nat) := List.replicate 6 none
  freq : List Nat := List.replicate 6 0
  /-- The frequency of PLL1 that a commit took and that waits for its REFIN edge (R133). -/
  freqNext : Option Nat := none
  /-- TB has been set to 0 and counts (R136). -/
  tbRuns : Bool := false
  /-- The keeper where it counts by itself, and half ticks since the edge it last counted (R142, R144). -/
  keeper : Nat := 0
  edgeHalf : Nat := 0
  /-- The device has woken and step 3 of R143 is still to come; PLL0's relock since wake with REFIN present throughout. -/
  waking : Bool := false
  wakeLock : Bool := false
  /-- Ticks of holdover not yet a millisecond (R138). -/
  holdTicks : Nat := 0
  /-- Channels whose next frame carries TB_STEP (R140), and who armed the set. -/
  stepOwed : List Bool := List.replicate 8 false
  setBy : Option Att := none
  /-- Dividers the last sync edge restarted (R134), bit n for PLL n; SYNC_IN as last sampled. -/
  restarted : Nat := 0
  /-- Last 64 markers stamped, newest first, each with its number and its time in 2^-16 tick; markers since the divider started, stamped
  or not (R145). -/
  markers : List (Nat × Nat) := []
  markerN : Nat := 0
  fit : Option Fit := none
  /-- Factory constants from marker to sampling instant, in 2^-16 tick, of M8, M4 and M2 (R146, notes/assumptions/10.md). -/
  modeConst : List Int := [0, 0, 0]
  deriving DecidableEq, Repr

/-! ### Converters and calibration (02_converters.md, 03_calibration.md) -/

/-- The coefficients of one slice (R60, R82): eight offsets in 1/256 LSB, eight gains in 2^-24, seven equaliser taps in
2^-17; the fine-delay trim in 0.1 ps, and the slice's own recorded delay in 0.1 ps (R94). `nv` is the certified value the gains were
formed under, 0 for none (R88). The values here are the model's factory coefficients (notes/assumptions/11.md). -/
structure Coef where
  off : List Int := List.replicate 8 0
  gain : List Int := List.replicate 8 16777216
  eq : List Int := [0, 0, 0, 131072, 0, 0, 0]
  trim : Int := 0
  delay : Int := 0
  nv : Nat := 0
  deriving DecidableEq, Repr

/-- One physical slice: its coefficients, consecutive rejections (R96), whether its result of the running start-up or
mode calibration is accepted (R111), and for the record of the pass its result, failed check and handover time (R114). -/
structure Slice where
  coef : Coef := {}
  strikes : Nat := 0
  calDone : Bool := false
  result : Nat := 0
  check : Nat := 0
  handTb : Nat := 0
  /-- Elapsed time at which the measurement of its static calibration began (R95). -/
  since : Nat := 0
  deriving DecidableEq, Repr

/-- The calibration state a channel keeps of a mode it is not in (R52, R82): coefficients, roles and positions per
slice, range factors, last pass, epoch number and pass count. -/
structure ModeCal where
  accepted : Bool := false
  coefs : List Coef := List.replicate 17 {}
  roles : List (Nat × Nat) := (List.range 17).map (fun k => if k = 16 then (1, 31) else (0, k))
  factors : List Nat := List.replicate 4 16777216
  lastTb : Nat := 0
  lastNow : Nat := 0
  temp : Nat := 0
  epoch : Nat := 0
  count : Nat := 0
  deriving DecidableEq, Repr

/-- Sums of a background window at one position (R99). -/
structure PosStat where
  s1 : Int := 0
  s2 : Int := 0
  xm : Int := 0
  xp : Int := 0
  deriving DecidableEq, Repr

/-- Changes of a background update at one position (R100, R104): offset in 1/256 LSB, gain in 0.1 ppm, skew in 0.01 ps, equaliser
taps in 2^-17; 0 and none where the kind has no change. -/
structure BgUpd where
  off : Int := 0
  gain : Int := 0
  skew : Int := 0
  eq : List Int := []
  deriving DecidableEq, Repr

/-- Calibration of one channel beside its registers. -/
structure ChCal where
  slices : List Slice := List.replicate 17 {}
  /-- The mode in force has an accepted state (R52). -/
  accepted : Bool := false
  factors : List Nat := List.replicate 4 16777216
  modes : List ModeCal := List.replicate 3 {}
  /-- Start of the last pass, end of the last pass, sensor mean at the start of the pass, TB at its start. -/
  startNow : Nat := 0
  endNow : Nat := 0
  passed : Bool := false
  startTemp : Nat := 0
  startTb : Nat := 0
  cause : Nat := 0
  /-- The spare of the pass has been calibrated and this ratio r (2^-30) is the pass's (R94). -/
  ratio : Nat := 0
  /-- Handover due in this pass: position taken next. -/
  nextPos : Nat := 0
  /-- A handover accepted that waits for its boundary (R47, R108): slice and position. -/
  waiting : Option (Nat × Nat) := none
  /-- The slice displaced in the running slice clock, which leaves AIN at the next (R45); the coefficients that the slice which shadows
  had before its static result (R96). -/
  leaving : Option Nat := none
  prev : Option Coef := none
  /-- The last step: its slice clock, and the coefficients that each position had up to it (R45, R59). -/
  past : Option (Nat × List Coef) := none
  deferredAt : Nat := 0
  /-- The first and the last epoch that the running or last calibration of the channel created (R114). -/
  epochs : Option (Nat × Nat) := none
  rejects : Nat := 0
  /-- Last accepted estimate of each kind: offset, gain, skew, bandwidth (R110); last background update (R104). -/
  bgAt : List Nat := List.replicate 4 0
  bgUpdateAt : Option Nat := none
  /-- Changes accepted in background and waiting to be applied, by logical position (R104). -/
  bgNew : List (Nat × BgUpd) := []
  /-- Statistics of the running window, samples in it, the sample before (R99). -/
  stats : List PosStat := List.replicate 64 {}
  statN : Nat := 0
  statLast : Int := 0
  statPos : Nat := 0
  /-- Sums of every position at the end of each sub-window of 2^20 samples, oldest first (R100). -/
  subs : List (List PosStat) := []
  /-- Samples of the flatness block being taken, newest first, and the power in the 16 bands so far (R102). -/
  block : List Int := []
  bands : List Nat := List.replicate 16 0
  /-- Range check: range being measured and rejections of the run; ranges accepted in a start-up or mode calibration. -/
  rangeRun : Option (Nat × Nat) := none
  rangesDone : Nat := 0
  /-- Last 8 readings of the channel's temperature sensor, newest first (R92). -/
  temps : List Int := []
  /-- A committed certified value newer than the one in force; history index in force. -/
  certNext : Bool := false
  certIdx : Nat := 0
  certNv : Nat := 0
  deriving DecidableEq, Repr

/-- Converters and calibration, device-wide. -/
structure CalSt where
  ch : List ChCal := List.replicate 8 {}
  /-- Last accepted ratio per mode, 0 where none (R89). -/
  ratios : List Nat := [0, 0, 0]
  /-- A mode change that waits (R97), a mode calibration in progress (R112). -/
  modeNext : Option Nat := none
  modeCal : Bool := false
  recordSeq : Nat := 0
  /-- SCLK windows: consecutive good, consecutive out of range, consecutive drift (R56, R57). -/
  sclkGood : Nat := 0
  sclkRange : Nat := 0
  sclkDrift : Nat := 0
  /-- The start-up calibration waits at step 11 for its reference check (R111). -/
  startDeferred : Bool := false
  startBegun : Bool := false
  deriving DecidableEq, Repr


/-! ### Capture memory, rolls and frames (07_capture_memory_and_rolls.md) -/

/-- Who holds a kept frame (R222): a stream of a port, the archive mover, a cell's DMA subscription or request, a QDR
stack. -/
inductive Holder where
  | stream (p id : Nat)
  | mover
  | cell (c port : Nat)
  | dma (c : Nat)
  | stack (n : Nat)
  deriving DecidableEq, Repr

/-- A stored block of 32 output samples (R234): the index of its first output on the channel's stream, its byte address,
and the address its bytes go on at where the page ends inside it (notes/assumptions/14.md). -/
structure Blk where
  index : Nat
  addr : Nat
  next : Nat
  deriving DecidableEq, Repr

/-- One output sample on its way to storage: the word in the format's bits, its sampling position, whether it carries
SETTLING or comes of an invalid sample, whether any sample under it is overrange, the frame flags its time brings
(R130, R124), the epoch of its newest input, its time in 2^-16 tick (R146, R264), tb_state and temperature there. -/
structure Out where
  word : Nat
  pos : Nat
  settling : Bool
  ovr : Bool
  flags : Nat
  epoch : Nat := 0
  time : Nat := 0
  tbs : Nat := 0
  temp : Nat := 0
  /-- Its interval holds an invalid sample (R69, R269). -/
  hole : Bool := false
  /-- Logical position at which the step that began its epoch acts in its slice clock (R46). -/
  stepOff : Nat := 0
  deriving DecidableEq, Repr

/-- A frame from its commit to its close: what its header will hold (R236), what it has collected. -/
structure OpenFrame where
  /-- Its number, once it has taken it: a frame that no trigger opened waits for the triggers of earlier anchors (R189, R233). -/
  number : Nat := 0
  numbered : Bool := false
  live : Bool := false
  keep : Bool := true
  retain : Bool := false
  triggered : Bool := false
  /-- Trigger time in 2^-16 tick, source, sequencer state, count (R206). -/
  trigTime : Nat := 0
  trigSource : Nat := 255
  seqState : Nat := 255
  trigCount : Nat := 0
  /-- The trigger sample has not come yet (R195, R266). -/
  waits : Bool := false
  /-- Position of the firing sample of a detector event. -/
  detPos : Option Nat := none
  /-- Flags, first_valid_index, whether a valid sample has come, and cal_step_index as they stood at the last whole block of
  32 samples: what a truncation falls back to (R239). -/
  base : Nat × Nat × Bool × Nat := (0, 0, false, 0xFFFFFFFF)
  /-- Index on the stream of sample 0, its position and time (2^-16 tick); tb_state and temperature there. -/
  first : Nat := 0
  firstPos : Nat := 0
  firstTime : Nat := 0
  tbState : Nat := 0
  temp : Nat := 0
  flags : Nat := 0
  errFlags : Nat := 0
  /-- first_valid_index so far, and whether a valid sample has come. -/
  firstValid : Nat := 0
  valid : Bool := false
  length : Nat := 0
  pre : Nat := 0
  epoch : Nat := 0
  stepIdx : Nat := 0xFFFFFFFF
  range : Nat := 0
  format : Nat := 1
  ratio : Nat := 1
  delay : Nat := 0
  minphase : Bool := false
  mode : Nat := 0
  roll : Nat := 0
  /-- Output words collected, newest first, and how many. -/
  words : List Nat := []
  got : Nat := 0
  /-- Accepted by the stack and by the map (R291, R299). -/
  stk : Bool := false
  map : Bool := false
  /-- Its close is the boundary of what was asked of the accumulation while it was the newest (R299, R303). -/
  bound : Bool := false
  deriving DecidableEq, Repr

/-- A descriptor of a frame table with what the device keeps of the frame beside it (R222, R234). -/
structure Frame where
  channel : Nat := 0
  /-- 0 UNUSED, 1 OPEN, 2 CLOSED, 3 RELEASED, 4 UNKEPT, 5 LIVE. -/
  state : Nat := 0
  samples : Nat := 0
  format : Nat := 1
  first : Nat := 0
  blocks : List Blk := []
  headerSlot : Nat := 0xFFFFFFFF
  header : List Nat := []
  holders : List Holder := []
  retain : Bool := false
  /-- The scrubber corrected an error in it (R242). -/
  scrubbed : Bool := false
  deriving DecidableEq, Repr

/-- Capture of one channel beside its registers. -/
structure CapCh where
  /-- Invalid samples still to pass (R66), outputs of the pre-trigger depth still to pass (R27). -/
  invalid : Nat := 0
  priming : Nat := 0
  /-- Last sampling position of the re-arm dead time, and pre-trigger outputs still to refill after it (R198). -/
  deadTo : Nat := 0
  refill : Nat := 0
  /-- Time in 2^-16 tick from which the channel has been ARMED, once it is (R195). -/
  armedAt : Option Nat := none
  /-- Index of the next written output; the outputs kept back, newest first, the newest of index `outN - 1`. -/
  outN : Nat := 0
  recent : List Out := []
  /-- Stored blocks the writer holds, newest first; page being written and bytes used of it. -/
  blocks : List Blk := []
  page : Option Nat := none
  offset : Nat := 0
  openF : Option OpenFrame := none
  liveF : Option OpenFrame := none
  /-- Frames that have ended and whose header and digest are not complete, oldest first. -/
  closing : List OpenFrame := []
  /-- The next frame carries GAP_BEFORE (R231, R69). -/
  gap : Bool := false
  /-- The next live frame carries it (R231). -/
  gapLive : Bool := false
  /-- Sampling position after the last sample seen. -/
  pos : Nat := 0
  /-- The invalid samples running are those after a start (R66, R70). -/
  startInvalid : Bool := false
  /-- The last range change: its time in 2^-16 tick, the index of the output after it, the time from which the channel was
  ARMED before it, where it was, and the range before it (R197). -/
  cut : Option (Nat × Nat × Option Nat × Nat) := none
  /-- A committed range change that waits for its boundary (R68, R71). -/
  rangeNext : Option Nat := none
  /-- Epoch of the last sample seen (R84); the position at which its step acts (R46); a frame has closed in the running slice clock
  (R47, R108). -/
  epoch : Nat := 0
  stepOff : Nat := 0
  stepFree : Bool := false
  /-- A stop or roll end on its way: the sampling position and the time in 2^-16 tick before which it leaves everything to the channel;
  the channel stops by itself, not with the roll (R239, R244). -/
  stopAt : Option (Nat × Nat) := none
  alone : Bool := false
  /-- The writer needed a page and none was free (R229). -/
  starved : Bool := false
  deriving DecidableEq, Repr

/-- A header page: its page, slots used, slots whose frame is not released (R223). -/
structure HeaderPage where
  page : Nat
  used : Nat
  live : Nat
  deriving DecidableEq, Repr

/-- A request of a class of the arbiter that waits for a slot (R224, R225): class 0 samples, 1 headers of Q0, 2 to 6 for Q1 to Q5, 7 for
slots offered after Q5; stripes still asked for, the byte address of the first of them, whether they are read, and what waits for them
(0 for nothing). -/
structure SlotReq where
  cls : Nat
  stripes : Nat
  addr : Nat := 0
  read : Bool := false
  tag : Nat := 0
  deriving DecidableEq, Repr

/-- Capture, device-wide. -/
structure Cap where
  ch : List CapCh := List.replicate 8 {}
  /-- Capture memory bytes (R215). -/
  mem : Memory := []
  allocPtr : Nat := 0
  headers : List HeaderPage := []
  /-- Pages taken for stamp spill (R172). -/
  spill : List Nat := []
  /-- Pages taken for leaf inputs of manifests (R478). -/
  leaf : List Nat := []
  /-- Frame tables A and B, frame number rising (R217), and the roll each holds. -/
  tabA : List Frame := []
  tabB : List Frame := []
  /-- Roll numbers: next and end of the block taken from the ledger; start and end of the last roll. -/
  nextRoll : Nat := 0
  rollLimit : Nat := 0
  rollStart : Nat := 0
  rollEndAt : Nat := 0
  rolled : Bool := false
  tableRoll : List Nat := [0, 0]
  /-- No number is left in the roll, with the cause that ends it (R229). -/
  ending : Option Nat := none
  /-- Cause of a roll end whose boundary is set, and whose earlier events are still to be taken (R189, R229, R239). -/
  endNext : Option Nat := none
  /-- Channels whose start is held, and channels of the next roll in a continuous gap. -/
  heldStart : Nat := 0
  /-- A writer needed a page and none was free (R229): the roll ends within the same command. -/
  noPage : Bool := false
  nextChannels : Nat := 0
  /-- A change of the reservation that waits for the group boundary (R221). -/
  nextR : Option Nat := none
  /-- Slot of the 32-slot window and number of the window (R224). -/
  slot : Nat := 0
  window : Nat := 0
  reqs : List SlotReq := []
  /-- Deliveries (by tag) in whose reads an error was corrected (R242, R368). -/
  eccTags : List Nat := []
  lowArmed : Bool := true
  /-- Page and stripe of it that the scrubber reads next (R240). -/
  scrubPage : Nat := 0
  scrubStripe : Nat := 0
  deriving DecidableEq, Repr
/-! ### Filter chains (08_decimation_and_filters.md) -/

/-- A running chain: registers of the stages, place on the grid, and what the flags of an output look back to. -/
structure Chain where
  /-- Index of the next chain input (R262). -/
  idx : Nat := 0
  /-- Index of the restart that the settling of R267 and R269 counts from. -/
  restart : Nat := 0
  /-- An invalid run is in progress, and the interval being filled holds an invalid sample (R269). -/
  inRun : Bool := false
  holed : Bool := false
  /-- Delay lines of stages A and C, newest first; integrators and comb registers of stage B, modulo 2^88. -/
  lineA : List Int := []
  integ : List Nat := []
  comb : List Nat := []
  lineC : List Int := []
  /-- Indices of the last overrange input, of the last saturation in stages A and B, of the last epoch change. -/
  lastOver : Option Nat := none
  lastSatA : Option Nat := none
  lastSatB : Option Nat := none
  lastStep : Option Nat := none
  /-- Peak group: members so far, least, greatest, flags, position of its first. -/
  pk : Nat := 0
  pkMin : Int := 32767
  pkMax : Int := -32768
  pkSettling : Bool := false
  pkOver : Bool := false
  pkHole : Bool := false
  pkPos : Nat := 0
  pkFlags : Nat := 0
  /-- The settings under which the chain runs on through a profile switch that stops its channel; empty for a chain that follows its
  channel (R261). -/
  kept : List Nat := []
  deriving DecidableEq, Repr


/-! ### Trigger (06_trigger.md) -/

/-- A detector between samples (R182 to R185): the last three samples, newest first, with their overrange; arms of the
crossings; open pulses with the firing index of the opening crossing and whether the condition between was broken. -/
structure Det where
  hist : List (Int × Bool) := []
  riseA : Bool := false
  fallA : Bool := false
  riseB : Bool := false
  fallB : Bool := false
  enter : Bool := false
  leave : Bool := false
  /-- Openings: rise through A, fall through A, rise through B, fall through B. -/
  upA : Option Nat := none
  downA : Option Nat := none
  upB : Option Nat := none
  downB : Option Nat := none
  /-- A sample at or above A since the opening rise through B; one below B since the opening fall through A (R183). -/
  hitA : Bool := false
  hitB : Bool := false
  /-- A firing that waits for the sample after it (R201): its position k, the time of sample k - 1 (R203), its level, and samples
  k - 2 to k. -/
  wait : Option (Nat × Nat × Int × List (Int × Bool)) := none
  /-- Slice clock of the last event presented (R184). -/
  lastSc : Option Nat := none
  deriving DecidableEq, Repr

/-- An event on its way to a sequencer (R188): trigger time in 2^-16 tick, source, firing position of a detector event,
φ, whether interpolation fell back or a stamp lagged. -/
structure TEvent where
  time : Nat
  src : Nat
  force : Bool := false
  pos : Option Nat := none
  phi : Nat := 0
  fallback : Bool := false
  deriving DecidableEq, Repr

/-- A sequencer timer (R191, R192): started and not yet expired or stopped, its start (2^-16 tick), expiry presented,
expired since its last start. -/
structure Timer where
  on : Bool := false
  start : Nat := 0
  queued : Bool := false
  expired : Bool := false
  deriving DecidableEq, Repr

/-- A running or past holdoff (R196): kind, end in 2^-16 tick where one is fixed, commit actions left. -/
structure Holdoff where
  kind : Nat := 0
  until_ : Option Nat := none
  left : Nat := 0
  deriving DecidableEq, Repr

/-- Trigger of one channel beside its registers. -/
structure TrgCh where
  det : Det := {}
  queue : List TEvent := []
  timers : List Timer := List.replicate 4 {}
  c0 : Nat := 0
  c1 : Nat := 0
  hold : Holdoff := {}
  /-- Values in force of LEVEL.A, LEVEL.B, HYST.HA, HYST.HB, T1, T2, KIND, TIME, COUNT (R186, R196), and the committed ones
  that wait. -/
  inForce : List Nat := [0, 0, 4, 4, 16, 256, 0, 0, 0]
  committed : Option (List Nat) := none
  /-- Values in force before, newest first, each with the time in 2^-16 tick up to which it was (R196). -/
  before : List (Nat × List Nat) := []
  /-- Times in 2^-16 tick from which valid samples stood at or above level A, or below it, newest first (R191). -/
  above : List (Nat × Bool) := []
  /-- Time in 2^-16 tick from which the sequencer takes events (R194). -/
  since : Nat := 0
  /-- Times in 2^-16 tick of writes of REARM that a trigger not yet evaluated may precede, newest first (R189, R196). -/
  rearms : List Nat := []
  /-- Modes of which a newer curve waits for this channel's next roll start, each with the learned curve still in force, none where the
  seed is (R204). -/
  oldCurves : List (Nat × Option (List Nat)) := []
  deriving DecidableEq, Repr

/-- Trigger, device-wide. -/
structure TrgSt where
  ch : List TrgCh := List.replicate 8 {}
  /-- TRGOUT: the ticks at which its pulses begin and end; tick until which the output is held low (R208). -/
  pulse : List (List (Nat × Nat)) := List.replicate 4 []
  /-- Committed triggers whose tick of R208 has not come: channel, tick. -/
  commits : List (Nat × Nat) := []
  lowUntil : List Nat := List.replicate 4 0
  /-- Level of TRGIN as last seen at each ball. -/
  trgin : Nat := 0
  /-- Histogram of phi_raw of the learning run (R204). -/
  hist : SMap Nat := []
  deriving DecidableEq, Repr

/-! ### Accumulation (09_accumulation.md) -/

/-- What a stack or map keeps of the frames added, beside the sums: OR of their flags, epoch of the first, whether any
set CAL_STEP, the last frame k with epoch at its last sample (R300, R301). -/
structure Added where
  flags : Nat := 0
  firstEpoch : Nat := 0
  lastEpoch : Nat := 0
  last : OpenFrame := {}
  any : Bool := false
  deriving DecidableEq, Repr

/-- A snapshot record in its area with the readers that have not taken it (R299). -/
structure SnapArea where
  frame : Nat
  roll : Nat
  bytes : List Nat
  readers : List Holder
  compositor : Bool
  deriving DecidableEq, Repr

/-- What a map's record holds, taken at its boundary: frame and roll of k, the header up to its digest, the cells (R299, R301). -/
structure MapTaken where
  frame : Nat
  roll : Nat
  head : List Nat
  cells : SMap Nat
  deriving DecidableEq, Repr

/-- Snapshot requests of one kind: one pending, one being copied, a clear that follows it (R298, R303); the readers subscribed at its
boundary, and what a map's record takes from it (R299). -/
structure SnapSt where
  pending : Bool := false
  copying : Bool := false
  waiting : Bool := false
  clear : Bool := false
  area : Option SnapArea := none
  dueAt : Nat := 0
  readers : List Holder := []
  compositor : Bool := false
  taken : Option MapTaken := none
  deriving DecidableEq, Repr

/-- Accumulation of one channel beside its registers. -/
structure AccCh where
  /-- The channel's accumulation settings as it left STOPPED, beside the reset values: they govern what was added under them until the next
  start (R298, R303). -/
  inForce : SMap Nat := []
  sum : SMap Int := []
  sq : SMap Nat := []
  stk : Added := {}
  /-- Points below this index hold one frame more (R288). -/
  partialP : Option Nat := none
  stkSnap : SnapSt := {}
  /-- QDR frames accepted and waiting for the merge: table and number (R289). -/
  wait : List (Nat × Nat) := []
  /-- On-die tile counts by cell c × 512 + r, tiles being merged with their counts, spare tiles, master copy. -/
  tiles : SMap Nat := []
  due : List Nat := []
  merging : List (Nat × SMap Nat) := []
  master : SMap Nat := []
  map : Added := {}
  mapSnap : SnapSt := {}
  mapLostEver : Bool := false
  /-- Frames added, hits lost and hits off the map since the map was cleared, as the record counts them (R301). -/
  mapFrames : Nat := 0
  mapLost : Nat := 0
  mapOff : Nat := 0
  decaySteps : Nat := 0
  decayDueAt : Nat := 0
  /-- Decay steps that have fallen due and not begun (R296). -/
  decayDue : Nat := 0
  deriving DecidableEq, Repr

/-! ### Time-interval unit (05_time_interval.md) -/

/-- A stamp record (R169). -/
structure Stamp where
  tick : Nat
  frac : Nat
  input : Nat
  flags : Nat
  seq : Nat
  /-- Of a loss record: the first sequence lost. -/
  first : Nat := 0
  deriving DecidableEq, Repr

/-- A measurement unit as a stop's edge found it enabled (R174, R541): its number, start input, open and close times. -/
structure MeasUnit where
  unit : Nat
  start : Nat
  opens : Nat
  closes : Nat
  deriving DecidableEq, Repr

/-- A stop that waits for its judgement (R174): time in 2^-16 tick, flags, elapsed time of the edge, the unit that judges it. -/
structure StopWait where
  input : Nat
  time : Nat
  flags : Nat
  edge : Nat
  unit : Option MeasUnit
  deriving DecidableEq, Repr

/-- A residue cell that holds an edge (R158): tick, phase, falling, flags of its time, the elapsed time of the edge and that from
which the leaky bucket lets it drain (R161), whether its event went to the sequencers before the conversion (R189), and the unit of
which the edge is a stop. -/
structure Residue where
  tick : Nat
  phase : Nat
  falling : Bool
  flags : Nat
  edge : Nat
  due : Nat
  sent : Bool := false
  unit : Option MeasUnit := none
  deriving DecidableEq, Repr

/-- A vernier unit (R164): consecutive good measurements, lock, when lock began to be awaited. -/
structure Vernier where
  good : Nat := 0
  locked : Bool := false
  since : Nat := 0
  deriving DecidableEq, Repr

/-- One stamp input beside its registers. -/
structure TdcIn where
  cells : List Residue := []
  /-- The edge latched last, in elapsed phases of 1/32 tick (R161). -/
  lastEdge : Option Nat := none
  /-- Elapsed time from which the cell latched last may drain (R161). -/
  drain : Nat := 0
  /-- Queue entries, oldest first, loss records among them; how many lie on the head, in the spill chain, on the tail. -/
  q : List Stamp := []
  head : Nat := 0
  spill : Nat := 0
  tail : Nat := 0
  /-- The spill chain, oldest first, as runs of entries in a page (R172). -/
  runs : List (Nat × Nat) := []
  seq : Nat := 0
  /-- Run of losses: time of the first in 2^-16 tick, its sequence, sequence of the last (R173). -/
  loss : Option (Nat × Nat × Nat) := none
  /-- An edge was not stamped since the last one latched; the next record queued carries OVERRUN_BEFORE (R163, R170). -/
  overrun : Bool := false
  carry : Bool := false
  units : List Vernier := List.replicate 2 {}
  curve : Option (List Nat) := none
  fails : Nat := 0
  passed : Bool := false
  testTemp : Int := 0
  /-- The latest stamps: time and rising edge, newest first (R191). -/
  latest : List (Nat × Bool) := []
  /-- Keeper count at the last capture in DARK (R176). -/
  dark : Option Nat := none
  deriving DecidableEq, Repr

/-- The time-interval unit. -/
structure TdcSt where
  ins : List TdcIn := List.replicate 65 {}
  /-- Stops that wait for their judgement, oldest first (R174). -/
  stops : List StopWait := []
  /-- Marker records that wait for their turn at the merge, oldest first: time in 2^-16 tick, flags (R162). -/
  marks : List (Nat × Nat) := []
  /-- Entries written to the newest page of the spill region (R172). -/
  spillFill : Nat := 0
  /-- The merge of R162: quarter ticks before which it takes no further record, and the input it served last. -/
  mergeAt : Nat := 0
  mergeLast : Nat := 64
  /-- Safelight buffer, oldest first: stamps whose sequence is not yet assigned (R176). -/
  dark : List Stamp := []
  /-- Inputs under a commanded test, and whether any of them failed. -/
  testing : List Nat := []
  testFailed : Bool := false
  enabledAt : Nat := 0
  deriving DecidableEq, Repr

/-! ### The Comb (10_comb.md) -/

/-- What waits to be copied into a binding's buffers: bytes-free descriptions of a frame, a snapshot record, stamps. -/
structure Inbox where
  /-- Reserved buffer of a TAP frame; 0 for the other kinds. -/
  buf : Nat := 0
  /-- Table, number and roll of a frame; for a snapshot its bytes stand in `data`. -/
  table : Nat := 0
  number : Nat := 0
  header : List Nat := []
  /-- Output words of a TAP frame, bytes of a snapshot record. -/
  data : List Nat := []
  format : Nat := 1
  items : Nat := 0
  /-- Items already copied, whether the frame or record is complete, whether the reads of its next part are asked for, and a correction
  seen in an earlier part's. -/
  done : Nat := 0
  ready : Bool := false
  asked : Bool := false
  ecc : Bool := false
  deriving DecidableEq, Repr

/-- A binding (R337) with its buffers (0 free, 1 reserved or filling, 2 ready, 3 held), those ready and held oldest first, what waits for it, and skips (R325). -/
structure Binding where
  port : Nat := 0
  kind : Nat := 0
  memory : Nat := 0
  buffers : Nat := 0
  base : Nat := 0
  words : Nat := 0
  source : Nat := 0
  group : Nat := 0
  param : Nat := 0
  bufs : List Nat := []
  ready : List Nat := []
  held : List Nat := []
  waits : List Inbox := []
  skipped : Nat := 0
  /-- STAMPS: entries held, each with the tick at which it came, and the loss run. -/
  stamps : List (Nat × Stamp) := []
  lossRun : Option (Nat × Nat × Nat) := none
  deriving DecidableEq, Repr

/-- An open result record (R334). -/
structure Rec where
  port : Nat
  mask : Nat
  linked : Bool
  header : List Nat
  words : List Nat
  deriving DecidableEq, Repr

/-- A DMA request not yet complete (R331): address of its descriptor and its words, whether it holds its frame, the frame table it names,
and whether its reads are asked for. -/
structure Dma where
  desc : Nat
  words : List Nat
  held : Bool
  table : Nat := 0
  begun : Bool := false
  deriving DecidableEq, Repr

/-- Bytes that a super's DMA engine has still to read for a cell (R332): what waits for them, the address they go on at, how many, and
whether they lie in archive memory. -/
structure Copy where
  tag : Nat
  addr : Nat
  left : Nat
  arch : Bool
  deriving DecidableEq, Repr

/-- A hardware loop: start, end, passes left. -/
structure LoopEnt where
  start : Nat
  last : Nat
  left : Nat
  deriving DecidableEq, Repr

/-- One cell beside its register (R312). -/
structure Cell where
  pc : Nat := 0
  d : List Nat := List.replicate 8 0
  a : List Nat := List.replicate 4 0
  cur : List Nat := List.replicate 8 0
  sh : Nat := 0
  fN : Bool := false
  fZ : Bool := false
  fV : Bool := false
  fL : Bool := false
  loops : List LoopEnt := []
  calls : List Nat := []
  /-- Executions left of a repeated instruction, 0 where none repeats (R316). -/
  rpt : Nat := 0
  x : SMap Nat := []
  y : SMap Nat := []
  p : List Nat := []
  binds : List Binding := []
  programId : Nat := 0
  started : Bool := false
  recSeq : Nat := 0
  rec_ : Option Rec := none
  /-- Closed records that wait for the result path, oldest first: outbox, record_sequence, bytes before digest and reference;
  whether the cell waits in CLOSE (R335). -/
  closed : List (Nat × Nat × List Nat) := []
  inClose : Bool := false
  /-- The instruction at the PC has issued and waits (R317). -/
  stalled : Bool := false
  dma : List Dma := []
  copies : List Copy := []
  /-- The cell stops once its DMA requests are complete: 0 by HALT, else the cause of a trap (R342). -/
  stop : Option Nat := none
  trapCode : Nat := 0
  /-- The program being loaded. -/
  loading : Option Nat := none
  version : Nat := 0
  deriving DecidableEq, Repr

/-- A TAP group of a super (R327): cell whose turn is next, whether its first skip was reported. -/
structure TapGroup where
  super : Nat
  group : Nat
  turn : Nat
  skipped : Bool
  deriving DecidableEq, Repr

/-- A frame held in a super's tap stage (R327): words reserved, cells that have still to drain it. -/
structure Staged where
  super : Nat
  table : Nat
  number : Nat
  words : Nat
  takers : Nat
  deriving DecidableEq, Repr

/-- The Comb. -/
structure Cmb where
  cells : List Cell := List.replicate 192 {}
  groups : List TapGroup := []
  /-- Frames in the tap stages. -/
  stage : List Staged := []
  progs : List (List Nat) := []
  maker : List (List Nat) := []
  /-- The DMA engines (R332): the cell of each super served last, the engine served last, what waits for the piece on the memory path. -/
  turn : List Nat := List.replicate 8 23
  engine : Nat := 7
  flight : Nat := 0
  deriving DecidableEq, Repr
/-! ### Archive memory (11_archive_memory.md) -/

/-- A piece of a subchannel's read queue or write buffer (R355 to R358): port, archive byte address, length, time it entered;
a write's bytes and the record they belong to; what waits for a read. -/
structure Piece where
  port : Nat
  addr : Nat
  len : Nat
  at_ : Nat
  data : List Nat := []
  rec_ : Option Nat := none
  tag : Nat := 0
  /-- In the staging area (R370). -/
  staged : Bool := false
  deriving DecidableEq, Repr

/-- What started a drain and so ends it (R358): WM.HIGH pieces, a write at urgency 3 with the pieces still due of its 8, or no read queued. -/
inductive Drain where
  | high
  | urgent (left : Nat)
  | idle
  deriving DecidableEq, Repr

/-- One subchannel: read queue, pieces that wait outside it, write buffer, oldest first; the banks and rows that hold a bank in
in-order mode, as row * 64 + bank (R359); row open in each bank. -/
structure Subch where
  reads : List Piece := []
  outside : List Piece := []
  writes : List Piece := []
  inOrder : List Nat := []
  rows : SMap Nat := []
  /-- The drain that runs, preempted by a read (R357). -/
  drain : Option Drain := none
  deriving DecidableEq, Repr

/-- A record of the archive (R371): data-ring offset, length and space skipped after it in bytes; what its index entry
holds; 1 valid, 2 discarded and waiting for its claims, 3 discarded with its entry written and older records still in the ring; the read
claims. -/
structure ArcRec where
  number : Nat
  off : Nat
  len : Nat
  skip : Nat := 0
  roll : Nat := 0
  channel : Nat := 0
  frame : Nat := 0
  flags : Nat := 0
  state : Nat := 1
  claims : List Holder := []
  deriving DecidableEq, Repr

/-- A frame being moved: its record, table and number, bytes of the record read so far, a correction in its reads. -/
structure MoveJob where
  number : Nat
  table : Nat
  frame : Nat
  got : Nat := 0
  ecc : Bool := false
  deriving DecidableEq, Repr

/-- The archive. -/
structure Arc where
  /-- DRAM bytes (R353). -/
  mem : Memory := []
  subs : List Subch := List.replicate 4 {}
  /-- Bytes read from capture memory on their way to the write buffers, oldest first (R370). -/
  fifo : List Piece := []
  job : Option MoveJob := none
  /-- Records whose index entry is not written yet, and visible records, oldest first. -/
  waiting : List ArcRec := []
  recs : List ArcRec := []
  next : Nat := 0
  /-- Data-ring offset after the newest record. -/
  head : Nat := 0
  /-- The full event has been raised since the ring was emptied or trimmed. -/
  fullSeen : Bool := false
  /-- Time of the last request of any port; a refresh-rate change that applies with the next refresh. -/
  lastReq : Nat := 0
  /-- A request of the display waits for the DRAM to leave self-refresh (R355, R366, R444). -/
  wanted : Bool := false
  rate : Option Bool := none
  /-- Offset in the region that the scrubber reads next (R369). -/
  scrub : Nat := 0
  /-- Write pieces of the ports that wait outside full write buffers, oldest first (R358). -/
  outside : List Piece := []
  /-- When the last MR4 read, DQS oscillator step and ZQ calibration ran, and whether a forced step may follow the last refresh (R365). -/
  stepAt : List Nat := [0, 0, 0]
  forceOpen : Bool := false
  /-- In HALTED: the DRAM is out of self-refresh for reads, the words asked for, the pieces found uncorrectable (R377). -/
  haltOut : Bool := false
  bad : List Nat := []
  deriving DecidableEq, Repr

/-! ### Windows and the monitor converter (13_windows_and_monitor_converter.md) -/

/-- A threshold readback in progress (R426, R427): window, comparator, report range; channel whose spare measures, once
found. -/
structure Readback where
  window : Nat
  comp : Nat
  range : Nat
  channel : Option Nat := none
  deriving DecidableEq, Repr

/-- An injected request (R431): entry, trigger, window, number, and whether a calibration delayed it (R433). -/
structure InjReq where
  sel : Nat
  trigger : Nat
  window : Nat
  seq : Nat
  delayed : Bool := false
  /-- Returned unconverted (R434). -/
  aborted : Bool := false
  deriving DecidableEq, Repr

/-- An injected result record (R431). -/
structure InjRes where
  req : InjReq
  aborted : Bool
  coarse : Bool
  time : Nat
  values : List Nat
  deriving DecidableEq, Repr

/-- Windows and the monitor converter beside their registers. -/
structure Mon where
  /-- Windows whose comparators are held while the DAC settles (R422). -/
  settling : List Nat := []
  rb : Option Readback := none
  /-- Injected requests, oldest first, and result records, oldest first. -/
  queue : List InjReq := []
  results : List InjRes := []
  reqSeq : Nat := 0
  /-- A pass runs; its number; the time the next is due; the next waits for its end; it is a pass of DARK, of the system entries alone
  (R430). -/
  running : Bool := false
  pass : Nat := 0
  due : Nat := 0
  late : Bool := false
  inDark : Bool := false
  /-- Readings of input 31, newest first, up to 64 (R430). -/
  sense : List Nat := []
  /-- Sensors in an excursion above 135 °C, and passes in a row outside the limits, per supply point, VDDIO last (R435). -/
  hot : List Nat := []
  streaks : List Nat := List.replicate 12 0
  deriving DecidableEq, Repr

/-! ### Proof display (14_proof_display.md) -/

/-- One plane set (R444): luma, chroma, the DEPTH and SUBSAMPLE it was composed at, and the frame k shown of each channel. -/
structure Planes where
  depth : Nat := 0
  sub : Nat := 0
  luma : List Nat := []
  cb : List Nat := []
  cr : List Nat := []
  shown : List (Option Nat) := List.replicate 8 none
  deriving DecidableEq, Repr

/-- What the lanes carry (R442, R456): LP-11; the pixel stream of a video frame; a memory write of command mode; the
ultra-low-power state. -/
inductive Lanes where
  | lp11 | video | memory | ulps
  deriving DecidableEq, Repr

/-- The proof display beside its registers. -/
structure Pro where
  /-- What the lanes carry, and the DCS command list sent last (R442, R456). -/
  lanes : Lanes := .lp11
  sentList : List Nat := []
  /-- Values of the RWS fields in force, and those of the last commit, as the register file holds values (R14, R455). -/
  inForce : SMap Nat := []
  committed : SMap Nat := []
  front : Planes := {}
  back : Planes := {}
  /-- The back set is complete and not yet shown; a composition runs, with the picture that the
  newest snapshots and the settings in force made when it started; a cause waits (R449, R457). -/
  ready : Bool := false
  composing : Option Planes := none
  cause : Bool := false
  /-- A frame runs; start of the last frame and completion of the last composition in elapsed ticks; repeats in a row. -/
  frame : Bool := false
  startAt : Nat := 0
  readyAt : Nat := 0
  repeats : Nat := 0
  /-- Last TE edge, and consecutive good TE periods (R453). -/
  teAt : Nat := 0
  teGood : Nat := 0
  /-- Flip time of the newest new frame, 2^-16 tick (R452). -/
  flip : Nat := 0
  /-- Overlay buffers A and B (R447). -/
  ovlA : Memory := []
  ovlB : Memory := []
  deriving DecidableEq, Repr

/-! ### Stops -/

/-- Faults. No command of this block ends in one: a command whose conditions do not hold changes nothing, and an
internal fault of the hardware is the state HALTED, a next state. The one constructor is raised by nothing; it keeps
the type inhabited. Safe. -/
inductive Fault where
  /-- Raised by no meaning. Safe: it only says less. -/
  | none
  deriving DecidableEq, Repr

/-- Refusals. -/
inductive Refusal where
  /-- A command without a meaning yet, by its mnemonic; raised by the dispatcher alone. Safe. -/
  | notModelled (mnemonic : String)
  deriving DecidableEq, Repr

/-- The whole machine. -/
structure State where
  /-- Commands that wait, first in first out. -/
  pending : List Instr := []
  /-- The register file: at the key of a field, the exclusive or of its value and its reset value. -/
  regs : SMap Nat := []
  /-- TB ticks elapsed since the state came to be; no write of the device changes it. The model's own clock. -/
  now : Nat := 0
  /-- Draws taken from the random source, and free values taken; the model's own counters. -/
  draws : Nat := 0
  frees : Nat := 0
  /-- Event log, newest first (R546), and the volatile operator log, newest first (R462). -/
  events : List Event := []
  oplog : List OpEntry := []
  opSeq : Nat := 0
  boot : Boot := {}
  led : Ledger := {}
  sec : Sec := {}
  prf : Prf := {}
  i3c : I3cSt := {}
  image : Option Image := none
  flash : Memory := []
  ports : List Port := List.replicate 64 {}
  leases : List Lease := List.replicate 9 {}
  /-- TB in 2^-16 tick, 80 bits (R7, R136). -/
  tb : Nat := 0
  clk : Clk := {}
  cal : CalSt := {}
  cap : Cap := {}
  fil : List Chain := List.replicate 8 {}
  trg : TrgSt := {}
  acc : List AccCh := List.replicate 8 {}
  tdc : TdcSt := {}
  cmb : Cmb := {}
  arc : Arc := {}
  mon : Mon := {}
  pro : Pro := {}
  deriving DecidableEq, Repr

/-- The machine right after a power-on reset: registers at their reset values, START, the queue empty. -/
def State.reset : State := {}

end Sys2Proof.Machine
end

