-- ==== Sys2Proof/Machine/Ops.lean ====
section
/-! DEFINITION. The named operations the chapters share: fields of the register file, saturating counts (R542), time,
the event log (R546) with the streams, interrupts and ATTN_N source it feeds, the operator log (R462), the audit log
(R480, R481), stream items and loss notices (R399 to R401), manifest leaves (R474, R475) and entry into HALTED (R532). -/

namespace Sys2Proof.Machine

/-! ### Counter rings of the ledger (R484) -/

/-- The newest valid slot: the update that wrote it, and its value. -/
def CtrRing.newest (r : CtrRing) : Option (Nat × Nat) :=
  r.slots.foldl (fun acc x => match acc, x with
    | some a, some b => if a.1 < b.1 then some b else some a
    | none, x => x
    | some a, none => some a) none

/-- Updates the ring has taken. -/
def CtrRing.updates (r : CtrRing) : Nat := match r.newest with
  | some a => a.1 + 1
  | none => 0

/-- The value in force. -/
def CtrRing.value (r : CtrRing) : Nat := match r.newest with
  | some a => a.2
  | none => 0

/-- An update writes the next slot. -/
def CtrRing.put (r : CtrRing) (v : Nat) : CtrRing := { slots := r.slots.set (r.updates % 64) (some (r.updates, v)) }

/-- The installer counter (R466). -/
def Ledger.instCnt (l : Ledger) : Nat := l.instRing.value
/-- The maker counter (R466). -/
def Ledger.makerCnt (l : Ledger) : Nat := l.makerRing.value
/-- The anti-rollback counter (R504). -/
def Ledger.rollback (l : Ledger) : Nat := l.rollbackRing.value
/-- The next block of 2^24 roll numbers (R228). -/
def Ledger.rollBlock (l : Ledger) : Nat := l.rollRing.value
/-- The next block of 65,536 manifest numbers (R475). -/
def Ledger.manBlock (l : Ledger) : Nat := l.manRing.value

/-! ### Register fields -/

/-- What a field holds. -/
def State.rd (s : State) (f : Fld) : Nat := SMap.get 0 s.regs f.key ^^^ f.reset

/-- `s` with `v`, cut to the field's width, in field `f`. -/
def State.wr (s : State) (f : Fld) (v : Nat) : State :=
  { s with regs := SMap.set 0 s.regs f.key ((v % 2 ^ f.width) ^^^ f.reset) }

/-- A one-bit field as a truth value. -/
def State.on (s : State) (f : Fld) : Bool := s.rd f != 0

/-- Sets or clears a one-bit field. -/
def State.put (s : State) (f : Fld) (b : Bool) : State := s.wr f (b2n b)

/-- One bit of a wider field set or cleared. -/
def State.putBit (s : State) (f : Fld) (i : Nat) (b : Bool) : State :=
  let v := s.rd f
  s.wr f (if b then v ||| 2 ^ i else if v.testBit i then v - 2 ^ i else v)

/-- A field read as two's complement. -/
def State.rdS (s : State) (f : Fld) : Int := toSigned f.width (s.rd f)

/-- A field back at its reset value. -/
def State.rst (s : State) (f : Fld) : State := s.wr f f.reset

/-- A saturating count raised by `n`; its SAT field is set once the count stands at its largest value (R542). -/
def State.count (s : State) (cnt sat : Fld) (n : Nat) : State :=
  let v := satInc cnt.width (s.rd cnt) n
  let s' := s.wr cnt v
  if v = 2 ^ cnt.width - 1 then s'.put sat true else s'

/-- A saturating count with no SAT field. -/
def State.countPlain (s : State) (cnt : Fld) (n : Nat) : State := s.wr cnt (satInc cnt.width (s.rd cnt) n)

/-! ### Device states (R24) and time -/

/-- Device state codes of R24. -/
def devStart : Nat := 0
@[inherit_doc devStart] def devDark : Nat := 1
@[inherit_doc devStart] def devIdle : Nat := 2
@[inherit_doc devStart] def devActive : Nat := 3
@[inherit_doc devStart] def devHalted : Nat := 4

/-- The device state. -/
def State.dev (s : State) : Nat := s.rd SYS.STATE.STATE

/-- Short of HALTED. -/
def State.live (s : State) : Bool := s.dev != devHalted

/-- IDLE or ACTIVE: the fast clocks run and the device is in service. -/
def State.up (s : State) : Bool := s.dev == devIdle || s.dev == devActive

/-- TB in ticks (R136). -/
def State.ticks (s : State) : Nat := (s.tb / 65536) % 2 ^ 64

/-- `ms` milliseconds in elapsed ticks (R475: 1,250,000 ticks per ms). -/
def ticksOfMs (ms : Nat) : Nat := ms * 1250000

/-- `us` microseconds in elapsed ticks. -/
def ticksOfUs (us : Nat) : Nat := us * 1250

/-- `sec` seconds in elapsed ticks. -/
def ticksOfS (sec : Nat) : Nat := sec * 1250000000

/-- The next draw of the random source, in `w` bits, and the state that has drawn it. -/
def State.draw (s : State) (w : Nat) : Nat × State :=
  (Config.freeDraw s.draws % 2 ^ w, { s with draws := s.draws + 1 })

/-- A free value the spec does not state; `tag` names the place. -/
def State.free (s : State) (tag w : Nat) : Nat × State :=
  (Config.freeValue tag s.frees % 2 ^ w, { s with frees := s.frees + 1 })

/-! ### Ports and streams -/

/-- The port record of host port `p`. -/
def State.port (s : State) (p : Nat) : Port := s.ports.getD p {}

/-- The port record of `p` changed. -/
def State.modPort (s : State) (p : Nat) (f : Port → Port) : State := { s with ports := s.ports.modify p f }

/-- Session states of R389. -/
def sesIdle : Nat := 0
@[inherit_doc sesIdle] def sesChallenged : Nat := 1
@[inherit_doc sesIdle] def sesOpen : Nat := 2
@[inherit_doc sesIdle] def sesAbsent : Nat := 3

/-- Session state of port `p`. -/
def State.session (s : State) (p : Nat) : Nat := s.rd (HPT.Pp_STATUS.STATE p)

/-- A stream of port `p`. -/
def State.strm? (s : State) (p id : Nat) : Option Strm := (s.port p).streams.find? (fun t => t.id = id)

/-- A stream of port `p` changed. -/
def State.modStrm (s : State) (p id : Nat) (f : Strm → Strm) : State :=
  s.modPort p (fun q => { q with streams := q.streams.map (fun t => if t.id = id then f t else t) })

/-- The 20 bytes of a packet's header (R385). -/
def Packet.header (k : Packet) : List Nat :=
  [1, k.typ] ++ leBytes 2 k.flags ++ leBytes 2 k.stream ++ leBytes 2 k.payload.length ++ leBytes 4 k.seq ++ leBytes 4 k.ack
    ++ leBytes 4 k.credit

/-- A packet of the device: in a session, ack and credit of stream 0 and, with tags, the tag over header and payload
(R386, R392, R394). HELLO and AUTH replies carry neither. -/
def State.mkPacket (s : State) (p typ flags stream seq : Nat) (payload : List Nat) : Packet :=
  let inSession := typ != 1 && typ != 2
  let tags := inSession && s.on (HPT.Pp_STATUS.TAGS p)
  let rx := (s.port p).rxSeq
  let k : Packet := {
    typ := typ, flags := flags + b2n tags + 16 * b2n inSession, stream := stream, seq := seq
    ack := if inSession then rx else 0, credit := if inSession then (rx + 64) % 2 ^ 32 else 0
    payload := payload, tag := [], at_ := s.now }
  if tags then { k with tag := (hmac (s.port p).sessionKey (1 :: (k.header ++ payload))).take 16 } else k

/-- Names of the statistics counters of R417, in their order. -/
inductive Stat where
  | sent | valid | retx | skips | fcs | foreign | malformed | badTag | replay | authFail | flood | refusals
  | held | quota | drops | expiries
  deriving DecidableEq, Repr

/-- Place of a counter in the statistics view (R417). -/
def Stat.idx : Stat → Nat
  | .sent => 0 | .valid => 1 | .retx => 2 | .skips => 3 | .fcs => 4 | .foreign => 5 | .malformed => 6 | .badTag => 7
  | .replay => 8 | .authFail => 9 | .flood => 10 | .refusals => 11 | .held => 12 | .quota => 13 | .drops => 14
  | .expiries => 15

/-- A statistics counter of port `p` raised, saturating at 32 bits. -/
def State.stat (s : State) (p : Nat) (k : Stat) (n : Nat) : State :=
  s.modPort p (fun q => { q with stats := q.stats.modify k.idx (fun v => satInc 32 v n) })

/-- MAC address of port `p` (R383). -/
def State.portMac (s : State) (p : Nat) : Nat :=
  (s.rd WAG.MAC_LO.ADDR + s.rd WAG.MAC_HI.ADDR * 2 ^ 32 + p) % 2 ^ 48

/-- The frame in which port `p` sends a packet: to the address of the session's host, with the port's tag where one is set (R383). -/
def State.txFrame (s : State) (p : Nat) (k : Packet) : TxFrame :=
  { dst := (s.port p).mac, src := s.portMac p, etherType := s.rd WAG.CFG.ETHERTYPE
    vlan := if s.on (HPT.Pp_VLAN.TAGGED p) then some (s.rd (HPT.Pp_VLAN.VID p), s.rd (HPT.Pp_VLAN.PCP p)) else none
    packet := k }

/-- A packet on the wire: the last of its port, counted (R383, R395, R417). -/
def State.transmit (s : State) (p : Nat) (k : Packet) : State :=
  (s.modPort p (fun q => { q with tx := some (s.txFrame p k), sentAt := s.now })).stat p .sent 1

/-- A packet that is not of a stream's sequence: HELLO, AUTH, ACK (R390, R391, R394). -/
def State.sendBare (s : State) (p typ flags stream seq : Nat) (payload : List Nat) : State :=
  s.transmit p (s.mkPacket p typ flags stream seq payload)

/-- An ACK of what stream 0 of port `p` expects (R394, R395). -/
def State.sendAck (s : State) (p : Nat) : State :=
  s.sendBare p 10 0 0 (((s.strm? p 0).map Strm.nextSeq).getD 0) []

/-- The next packet of a stream may go: below the window of 1,024 and the peer's credit (R393). -/
def Strm.maySend (t : Strm) : Bool := newer ((t.ack + 1024) % 2 ^ 32) t.nextSeq && newer t.credit t.nextSeq

/-- A packet of stream 0 that goes ahead of what waits there, if window and credit allow one: FIRST and LAST (R393, R398, R413). -/
def State.sendNow (s : State) (p typ : Nat) (payload : List Nat) : State := match s.strm? p 0 with
  | none => s
  | some t =>
    if !t.maySend then s else
    let k := s.mkPacket p typ 6 0 t.nextSeq payload
    (s.modStrm p 0 (fun t => { t with nextSeq := (t.nextSeq + 1) % 2 ^ 32, unacked := t.unacked ++ [k] })).transmit p k

/-- Bytes a stream holds against the quota (R399). -/
def Strm.held (t : Strm) : Nat := (t.queue.map Item.cost).sum + (t.inflight.map (fun x => x.2.cost)).sum

/-- Bytes a session holds against its quota. -/
def Port.held (q : Port) : Nat := (q.streams.map Strm.held).sum

/-- Bytes of the transmit ring an item takes: those of STAMPS, RESULTS, STATUS and LIVE; what stands under a claim takes
none (R399). -/
def Item.ring (i : Item) : Nat := match i.body with
  | .bytes _ => if i.typ = 4 ∨ i.typ = 8 then 0 else i.cost
  | .live _ _ => i.cost
  | _ => 0

/-- Bytes of a port's transmit ring in use. -/
def Port.ring (q : Port) : Nat :=
  (q.streams.map (fun t => (t.queue.map Item.ring).sum + (t.inflight.map (fun x => x.2.ring)).sum)).sum

/-- Reasons of a loss (R400). -/
def skipQuota : Nat := 1
@[inherit_doc skipQuota] def skipAbsent : Nat := 2
@[inherit_doc skipQuota] def skipLoss : Nat := 3
@[inherit_doc skipQuota] def skipLiveRing : Nat := 4
@[inherit_doc skipQuota] def skipBusy : Nat := 5
@[inherit_doc skipQuota] def skipSnapTimeout : Nat := 6

/-- A loss added to a queue of items: it extends an unsent notice of the same reason and roll with nothing between, or stands as a new
one (R401). -/
def addSkip (queue : List Item) (reason first last roll : Nat) : List Item :=
  match queue.getLast? with
  | some ⟨9, n, .skip r f _ ro, c⟩ =>
    if r = reason ∧ ro = roll then queue.dropLast ++ [⟨9, n, .skip r f last ro, c⟩]
    else queue ++ [⟨9, first, .skip reason first last roll, 0⟩]
  | _ => queue ++ [⟨9, first, .skip reason first last roll, 0⟩]

/-- Stream kinds of R396. -/
def kFrames : Nat := 1
@[inherit_doc kFrames] def kLive : Nat := 2
@[inherit_doc kFrames] def kStamps : Nat := 3
@[inherit_doc kFrames] def kResults : Nat := 4
@[inherit_doc kFrames] def kSnapshots : Nat := 5
@[inherit_doc kFrames] def kArchive : Nat := 6
@[inherit_doc kFrames] def kReadout : Nat := 7
@[inherit_doc kFrames] def kManifests : Nat := 8
@[inherit_doc kFrames] def kStatus : Nat := 9

/-- The transmit ring of a port: 256 KB (R399). -/
def ringBytes : Nat := 262144

/-- Whether a session takes an item of this cost: it is not given up after absence, the held total stays within the
quota, and the ring has room (R399, R403). -/
def State.takes (s : State) (p : Nat) (i : Item) : Bool :=
  let q := s.port p
  !(s.session p == sesAbsent && q.holdEnded) && q.held + i.cost ≤ q.quotaMb * 2 ^ 20 && q.ring + i.ring ≤ ringBytes

/-- An item offered to stream `t` of port `p` whose losses name `first` to `last` of `roll`: it waits there, or the
stream records its loss (R399, R403). The flag says whether it was taken. -/
def State.offer (s : State) (p : Nat) (t : Nat) (i : Item) (first last roll : Nat) : State × Bool :=
  let q := s.port p
  let taken := s.takes p i
  let reason := if s.session p == sesAbsent && q.holdEnded then skipAbsent else skipQuota
  (s.modPort p (fun q => { q with streams := q.streams.map (fun x =>
      if x.id = t then { x with queue := if taken then x.queue ++ [i] else addSkip x.queue reason first last roll }
      else x) }), taken)

/-- The open streams of a kind, as pairs of port and stream. -/
def State.streamsOf (s : State) (kind : Nat) : List (Nat × Strm) :=
  ((List.range 64).map (fun p =>
    if s.session p = sesOpen ∨ s.session p = sesAbsent then
      ((s.port p).streams.filter (fun t => t.kind = kind && t.id != 0)).map (fun t => (p, t))
    else [])).flatten

/-- The bytes of an event record in a STATUS packet (R398). -/
def Event.bytes (e : Event) : List Nat :=
  leBytes 2 e.code ++ [e.params.length, 0] ++ leBytes 8 e.tb ++ (e.params.map (leBytes 4)).flatten

/-- An event handed to every STATUS stream whose mask selects its high byte (R396, R546). -/
def State.statusOut (s : State) (e : Event) : State :=
  (s.streamsOf kStatus).foldl (fun s pt =>
    if (pt.2.param.getD 0 0).testBit (e.code / 256) then
      (s.offer pt.1 pt.2.id ⟨7, e.seq, .bytes ([1, 0, 0, 0] ++ e.bytes), e.bytes.length + 4⟩ e.seq e.seq 0).1
    else s) s

/-! ### In-band interrupts and events -/

/-- Number of EVENT interrupts that wait. -/
def State.eventIbis (s : State) : Nat := (s.i3c.ibis.filter (fun i => i.cls = 3)).length

/-- An in-band interrupt of a class raised: ENINT on and the class selected (R558); OVERFLOW follows EVENT. HALTED
goes before all others (R559). -/
def State.raiseIbi (s : State) (i : Ibi) : State :=
  let sel := if i.cls = 4 then 2 else i.cls - 1
  if s.on I3C.STATUS.ENINT && (s.rd I3C.IBI_CFG.CLASSES).testBit sel && (s.live || i.cls == 1) then
    let l := if i.cls = 1 then i :: s.i3c.ibis else s.i3c.ibis ++ [i]
    { s with i3c := { s.i3c with ibis := l } }.wr I3C.IBI_STATUS.WAITING (min l.length 64)
  else s

/-- The EVENT interrupt of a logged event: at 64 that wait, they and the new one become one OVERFLOW that names the
oldest, and no further EVENT is raised until the flag is cleared (R558, R559). -/
def State.eventIbi (s : State) (e : Event) : State :=
  if (s.rd I3C.IBI_EVENTS.MASK).testBit (e.code / 256) && !s.on I3C.IBI_STATUS.OVERFLOW && s.on I3C.STATUS.ENINT
      && (s.rd I3C.IBI_CFG.CLASSES).testBit 2 && s.live then
    if s.eventIbis < 64 then
      { s with i3c := { s.i3c with eventSeqs := s.i3c.eventSeqs ++ [e.seq] } }.raiseIbi ⟨3, leBytes 2 e.code⟩
    else
      let l := s.i3c.ibis.filter (fun i => i.cls != 3) ++ [⟨4, leBytes 2 (s.i3c.eventSeqs.headD e.seq % 65536)⟩]
      ({ s with i3c := { s.i3c with ibis := l, eventSeqs := [] } }.wr I3C.IBI_STATUS.WAITING (min l.length 64)).put
        I3C.IBI_STATUS.OVERFLOW true
  else s

/-- The sequence the next event takes: from 0 at START (R546). -/
def State.nextEventSeq (s : State) : Nat :=
  if s.rd FLT.LOG.HELD = 0 then 0 else (s.rd FLT.LOG_SEQ.SEQ + 1) % 2 ^ 32

/-- One record into the ring of 1,024, with the position registers (R546, R549). -/
def State.record (s : State) (e : Event) : State :=
  let held := s.rd FLT.LOG.HELD
  let slot := if held = 0 then 0 else (s.rd FLT.LOG.NEWEST + 1) % 1024
  (({ s with events := (e :: s.events).take 1024 }.wr FLT.LOG.HELD (min 1024 (held + 1))).wr FLT.LOG.NEWEST slot).wr
    FLT.LOG_SEQ.SEQ e.seq

/-- An event logged and delivered, without the check of the ring's wrap. -/
def State.logOne (s : State) (code tb : Nat) (params : List Nat) : State :=
  let e : Event := ⟨code, s.nextEventSeq, tb, params.map (· % 2 ^ 32), !s.live⟩
  let s := s.record e
  let s := if (s.rd I3C.ATTN_EVENTS.MASK).testBit (code / 256) then s.put I3C.ATTN.EVENT true else s
  (s.statusOut e).eventIbi e

/-- A record the log still takes in HALTED (R546). -/
def State.eventHalted (s : State) (code : Nat) (params : List Nat) : State :=
  let wraps := s.rd FLT.LOG.HELD = 1024 ∧ ¬ s.on FLT.LOG.WRAPPED
  let s := s.record ⟨code, s.nextEventSeq, s.ticks, params.map (· % 2 ^ 32), true⟩
  if wraps then s.put FLT.LOG.WRAPPED true else s

/-- The event is one of a partner outside (R28, `FLT.PARTNER`): SCLK, REFIN, a PLL that coasts, a deferral, CAL_OVERDUE, TE, a session
gone ABSENT, a port closed. -/
def partnerEvent (code : Nat) (params : List Nat) : Bool :=
  [0x02A0, 0x02B0, 0x02B2, 0x0312, 0x0313, 0x0271, 0x0253].contains code || code == 0x0250 && params.getD 2 0 == sesAbsent

/-- HALTED was entered in this very tick, for which the halting slice clock stands (R534, notes/assumptions/97.md). -/
def State.haltsNow (s : State) : Bool := !s.live && s.now == s.boot.haltAt

/-- A partner condition that arises in the halting slice clock: recorded as FLT_PARTNER_AT_HALT and not acted on (R35, R534). -/
def State.partnerNow (s : State) (code : Nat) : State := if s.haltsNow then s.eventHalted 0x0901 [code] else s

/-- An event of the device with the TB ticks of its cause (R546): in HALTED only a partner condition of the halting slice clock is
recorded, as FLT_PARTNER_AT_HALT (R35); the first overwrite since `FLT.LOG.WRAPPED` was cleared is an event of its own (R547). -/
def State.eventAt (s : State) (code tb : Nat) (params : List Nat) : State :=
  if !s.live then (if partnerEvent code params then s.partnerNow code else s)
  else
    let wraps := s.rd FLT.LOG.HELD = 1024 ∧ ¬ s.on FLT.LOG.WRAPPED
    let s := s.logOne code tb params
    if wraps then (s.put FLT.LOG.WRAPPED true).logOne 0x0900 tb [] else s

/-- An event caused now. -/
def State.event (s : State) (code : Nat) (params : List Nat) : State := s.eventAt code s.ticks params

/-! ### Operator log and audit log -/

/-- Attachment number of R462: the port, or 64 for I3C. -/
def attNum : Att → Nat
  | .i3c => 64
  | .port p => p

/-- Role code of R461. -/
def Role.code : Role → Nat
  | .operator => 1
  | .installer => 2
  | .maker => 3

/-- Role of a key entry's code. -/
def Role.ofCode (n : Nat) : Role := if n = 2 then .installer else if n = 3 then .maker else .operator

/-- The role an attachment holds: maker only while service mode entered through it lasts (R461). -/
def State.role (s : State) (a : Att) : Role :=
  if s.sec.service = some a then .maker
  else match a with
    | .i3c => if s.on I3C.STATUS.AUTH then Role.ofCode (s.rd I3C.STATUS.ROLE) else .operator
    | .port p => Role.ofCode (s.port p).role

/-- The rights of R391 an attachment holds: bit 0 CONTROL, bit 1 WATCH; both on I3C until it authenticates (R556). -/
def State.rights (s : State) (a : Att) : Nat := match a with
  | .i3c => if s.on I3C.STATUS.AUTH then s.i3c.rights else 3
  | .port p => (s.port p).rights

/-- host_id of an attachment, 0 for I3C. -/
def State.hostOf (s : State) (a : Att) : Nat := match a with
  | .i3c => 0
  | .port p => s.rd (HPT.Pp_HOST.HOST_ID p)

/-- An entry of the operator log, a ring of 4,096, with its attachment number (R462). -/
def State.opEntry (s : State) (att host addr value result : Nat) : State :=
  let slot := s.opSeq % 4096
  let s := { s with
    oplog := (OpEntry.mk s.ticks host addr att result value s.opSeq :: s.oplog).take 4096
    opSeq := s.opSeq + 1 }
  let s := s.wr LGR.OPLOG.NEWEST slot
  if s.opSeq > 4096 then s.put LGR.OPLOG.WRAPPED true else s

/-- An entry of an attachment's write access. -/
def State.opLog (s : State) (a : Att) (addr value result : Nat) : State := s.opEntry (attNum a) (s.hostOf a) addr value result

/-- Bytes of an audit entry (R481). -/
def AuditEntry.bytes (e : AuditEntry) : List Nat :=
  leBytes 8 e.seq ++ leBytes 8 e.tb ++ leBytes 2 e.kind ++ [e.role, e.att] ++ leBytes 4 e.hostId ++ leBytes 4 e.p0
    ++ leBytes 4 e.p1 ++ leBytes 4 e.p2 ++ leBytes 4 e.p3 ++ slice e.prev 0 24

/-- The audit log is full for actions (R480). -/
def State.auditFull (s : State) : Bool := 16128 ≤ s.led.audit.length

/-- An entry of the audit log: lost and counted where all 16,384 are held; the warning and the full event as the
count reaches their levels (R480, R481). Role 4 and attachment 255 are the device. -/
def State.audit (s : State) (kind role att hostId p0 p1 p2 p3 : Nat) : State :=
  if 16384 ≤ s.led.audit.length then s.count LGR.AUDIT.LOST LGR.AUDIT.LOST_SAT 1
  else
    let prev := match s.led.audit with
      | [] => List.replicate 24 0
      | e :: _ => (sha256 e.bytes).take 24
    let e : AuditEntry := ⟨s.led.auditSeq, s.ticks, kind, role, att, hostId, p0 % 2 ^ 32, p1 % 2 ^ 32, p2 % 2 ^ 32,
      p3 % 2 ^ 32, prev⟩
    let s := { s with led := { s.led with audit := e :: s.led.audit, auditSeq := s.led.auditSeq + 1 } }
    let n := s.led.audit.length
    if n = 14746 then s.event 0x0280 [] else if n = 16128 then s.event 0x0281 [] else s

/-- An audit entry of the device itself. -/
def State.auditDevice (s : State) (kind p0 p1 p2 p3 : Nat) : State := s.audit kind 4 255 0 p0 p1 p2 p3

/-- An audit entry of an attachment's action. -/
def State.auditBy (s : State) (a : Att) (kind p0 p1 p2 p3 : Nat) : State :=
  s.audit kind (s.role a).code (attNum a) (s.hostOf a) p0 p1 p2 p3

/-! ### Leases (R408) -/

/-- Events WAG_LEASE (R415). -/
def State.leaseEvent (s : State) (item port : Nat) : State := s.event 0x0251 [item, port]

/-- The holder of a lease item as `WAG.HOLD_*` shows it. -/
def State.holderByte (s : State) (item : Nat) : Nat := (((s.leases.getD item {}).holder).getD 0xFF)

/-- A lease item given to a port until `expires`, or freed. -/
def State.setLease (s : State) (item : Nat) (h : Option Nat) (expires : Nat) : State :=
  { s with leases := s.leases.set item ⟨h, expires⟩ }

/-! ### Provenance: leaves and manifests (R474 to R476) -/

/-- Reserves the next block of manifest numbers from the ledger where the numbers left run out (R475). -/
def State.manReserve (s : State) : State :=
  if s.sec.nextManifest < s.sec.manLimit then s
  else { s with
    sec := { s.sec with nextManifest := s.led.manBlock * 65536, manLimit := (s.led.manBlock + 1) * 65536 }
    led := { s.led with manRing := s.led.manRing.put (s.led.manBlock + 1) } }

/-- The signing engine, where it is free, begins what comes first: the oldest queue entry, then the oldest statement, then
the export (R476); in HALTED exports alone are signed (R485, R590). -/
def State.signBegin (s : State) : State :=
  if s.sec.signing != 0 then s
  else
    let k := if s.live && !s.sec.queue.isEmpty then 1 else if s.live && !s.sec.attestQ.isEmpty then 2
      else if s.sec.building.isSome then 3 else 0
    { s with sec := { s.sec with signing := k, signAt := s.now, signTb := s.ticks } }

/-- A closed manifest into the signing queue: joined to the newest entry when all 64 are full, with event
SEC_COALESCED once for that entry (R476). -/
def State.enqueueManifest (s : State) (m : Manifest) : State :=
  let q := s.sec.queue
  if q.length < 64 then { s with sec := { s.sec with queue := q ++ [[m]] } }.signBegin
  else
    let last := q.getLastD []
    let s := { s with sec := { s.sec with queue := q.dropLast ++ [last ++ [m]] } }
    if last.length = 1 then (s.count SEC.SIGN.COALESCED SEC.SIGN.SAT 1).event 0x0283 [] else s

/-- The open manifest closed into the signing queue; none is open where no leaf waits (R475). -/
def State.closeManifest (s : State) : State :=
  if s.sec.leaves.isEmpty then s
  else
    let m : Manifest := ⟨s.sec.nextManifest, s.sec.leaves, s.ticks⟩
    ({ s with sec := { s.sec with leaves := [], nextManifest := (s.sec.nextManifest + 1) % 2 ^ 40 } }).enqueueManifest m

/-- A leaf for a record: its manifest reference (number in bits 63 to 24, index in 23 to 0), and the state in which a
manifest is open with it, closed at its 1,048,576th leaf (R474, R475). -/
def State.addLeaf (s : State) (kind : Nat) (digest : List Nat) : Nat × State :=
  let s := s.manReserve
  let s := if s.sec.leaves.isEmpty then
      { s with sec := { s.sec with openedAt := s.now, periodMs := s.rd SEC.MANIFEST.PERIOD_MS } } else s
  let idx := s.sec.leaves.length
  let ref := s.sec.nextManifest * 2 ^ 24 + idx
  let s := { s with sec := { s.sec with leaves := s.sec.leaves ++ [⟨kind, digest⟩] } }
  (ref, if s.sec.leaves.length = 1048576 then s.closeManifest else s)

/-! ### Threshold readback (R426, R427) -/

/-- The channel whose spare a readback takes: the first with a slice in SPARE, or the one chosen (R427). -/
def State.spareFor (s : State) : Option Nat :=
  let idle := fun (n : Nat) => s.rd (ADC.SLICEk.ROLE n (s.rd (ADC.STATUS.SPARE n))) == 1
  if s.on WIN.RB_CTL.ANY then (List.range 8).find? idle
  else if idle (s.rd WIN.RB_CTL.CHANNEL) then some (s.rd WIN.RB_CTL.CHANNEL) else none

/-- A readback that waits takes a spare: the slice is in READBACK on the readback bus (R41 to R43). -/
def State.rbTake (s : State) : State := match s.mon.rb with
  | some ⟨w, c, r, none⟩ => match s.spareFor with
    | some n =>
      let k := s.rd (ADC.STATUS.SPARE n)
      let s := (s.wr (ADC.SLICEk.ROLE n k) 4).wr (ADC.SLICEk.MUX n k) 3
      ({ s with mon := { s.mon with rb := some ⟨w, c, r, some n⟩ } }).wr WIN.RB_RESULT.CHANNEL n
    | none => s
  | _ => s

/-- A readback ends with a status: its slice is back in SPARE, event WIN_RB_DONE (R426, R427). -/
def State.rbEnd (s : State) (status : Nat) : State := match s.mon.rb with
  | none => s
  | some r =>
    let s := match r.channel with
      | some n => let k := s.rd (ADC.STATUS.SPARE n); (s.wr (ADC.SLICEk.ROLE n k) 1).wr (ADC.SLICEk.MUX n k) 0
      | none => s
    let s := { s with mon := { s.mon with rb := none } }
    ((s.wr WIN.RB_RESULT.STATUS status).put WIN.RB_RESULT.BUSY false).event 0x0260 [r.window, r.comp, status]

/-- A readback aborted (R427). -/
def State.rbAbort (s : State) : State := s.rbEnd 2

/-! ### HALTED (R532 to R536) -/

/-- The STATUS HALTED or DARK packet on stream 0 of each OPEN session (R398). -/
def State.statusAll (s : State) (payload : List Nat) : State :=
  (List.range 64).foldl (fun s p => if s.session p = sesOpen then s.sendNow p 7 payload else s) s

/-- PLL3 is turned off (R366). -/
def State.pll3Stop (s : State) : State :=
  ({ s with clk := { s.clk with good := s.clk.good.set 3 0, broken := s.clk.broken.set 3 false, pll3Off := true } }.put
    (CLK.PLLn_STATUS.LOCKED 3) false).put (CLK.PLLn_STATUS.COAST 3) false |>.put (CLK.PLLn_STATUS.RELOCK 3) false |>.put
    (CLK.PLLn_STATUS.GATED 3) false

/-- The archive controller on HALTED: outstanding writes complete, then self-refresh with PLL3 off (R366, R377). -/
def State.arcHalt (s : State) : State :=
  let put := fun (m : Memory) (p : Piece) => Memory.write 0 m p.addr p.data
  let m := s.arc.outside.foldl put (s.arc.subs.foldl (fun m b => b.writes.foldl put m) s.arc.mem)
  let subs := s.arc.subs.map (fun (b : Subch) => { b with writes := [], reads := [], outside := [], drain := none, rows := [] })
  let out := s.rd DRM.STATE.STATE == 1 || s.rd DRM.STATE.STATE == 5
  let s := if out then s.pll3Stop else s
  ({ s with arc := { s.arc with mem := m, subs := subs, outside := [] } }.countPlain DRM.SR_STATUS.ENTRIES (b2n out)).wr DRM.STATE.STATE 6

/-- A STATUS HALTED packet that says `old` says `new` instead, its tag formed anew. -/
def Packet.resaid (key : List Nat) (old new : List Nat) (k : Packet) : Packet :=
  if k.payload = old then
    let k' := { k with payload := new }
    if k.tag.isEmpty then k' else { k' with tag := (hmac key (1 :: (k'.header ++ new))).take 16 }
  else k

/-- Of two faults of one moment the lower reason is held: it takes the place of the reason held, which counts as the later one
(R534); the STATUS HALTED packets and the interrupt carry it. -/
def State.haltLower (s : State) (reason detail addr : Nat) : State :=
  let say := fun (code : Nat) => [2, 0, 0, 0] ++ leBytes 2 code ++ [0, 0] ++ leBytes 8 s.ticks
  let old := say (s.rd FLT.REASON.CODE)
  let s : State := { s with
    ports := s.ports.map (fun q =>
      let f := Packet.resaid q.sessionKey old (say reason)
      { q with tx := q.tx.map (fun x => { x with packet := f x.packet }), streams := q.streams.map (fun t => if t.id = 0 then { t with unacked := t.unacked.map f } else t) })
    i3c := { s.i3c with ibis := s.i3c.ibis.map (fun i => if i.cls = 1 then ⟨1, leBytes 2 reason⟩ else i) } }
  (((s.wr FLT.REASON.CODE reason).wr FLT.REASON.DETAIL detail).wr FLT.ADDR_LO.ADDR (addr % 2 ^ 32)).wr FLT.ADDR_HI.ADDR (addr / 2 ^ 32)

/-- A fault after the first is counted and logged, the first of them held (R534). -/
def State.haltLater (s : State) (reason detail : Nat) : State :=
  let s := if s.rd FLT.STATE.LATER = 0 then (s.wr FLT.LATER.CODE reason).wr FLT.LATER.DETAIL detail else s
  (s.countPlain FLT.STATE.LATER 1).eventHalted 0x0902 [reason, detail]

/-- The event log at a halt: a partner condition logged in the halting slice clock stands as FLT_PARTNER_AT_HALT with its code (R534). -/
def State.haltEvents (s : State) : List Event :=
  (s.events.takeWhile (fun e => e.tb == s.ticks)).map (fun e =>
      if partnerEvent e.code e.params then { e with code := 0x0901, params := [e.code], inHalted := true } else e)
    ++ s.events.dropWhile (fun e => e.tb == s.ticks)

/-- A corrected error of on-die SRAM counted (R537). -/
def State.sramCorrected (s : State) : State := s.count FLT.SRAM_ECC.COUNT FLT.SRAM_ECC.SAT 1

/-- An internal fault: the first enters HALTED with its reason, address and time held, FAULT_N asserted, one STATUS
HALTED to each OPEN session and the HALTED interrupt; a later one is counted and logged and changes no output
(R532, R534, R558). -/
def State.halt (s : State) (reason detail addr : Nat) : State :=
  if s.live then
    let t := s.ticks
    let s : State := { s with boot := { s.boot with haltAt := s.now }, events := s.haltEvents }
    let s := (((s.wr FLT.REASON.CODE reason).wr FLT.REASON.DETAIL detail).wr FLT.ADDR_LO.ADDR (addr % 2 ^ 32)).wr
      FLT.ADDR_HI.ADDR (addr / 2 ^ 32)
    let s := (s.wr FLT.HALT_TB_LO.TICKS (t % 2 ^ 32)).wr FLT.HALT_TB_HI.TICKS (t / 2 ^ 32)
    let s := s.statusAll ([2, 0, 0, 0] ++ leBytes 2 reason ++ [0, 0] ++ leBytes 8 t)
    let s := s.raiseIbi ⟨1, leBytes 2 reason⟩
    let s := s.arcHalt
    let s := s.wr PRO.STATUS.STATE 6
    let s := if s.sec.signing = 3 then s else { s with sec := { s.sec with signing := 0 } }
    (((((s.wr SYS.STATE.STATE devHalted).wr SYS.STATE.STEP 0).wr SYS.STATE.WAIT 0).put SYS.STATE.ENTERING false).put
      FLT.STATE.HALTED true).put FLT.STATE.FAULT_N true
  else if s.now = s.boot.haltAt ∧ reason < s.rd FLT.REASON.CODE then
    (s.haltLower reason detail addr).haltLater (s.rd FLT.REASON.CODE) (s.rd FLT.REASON.DETAIL)
  else s.haltLater reason detail

end Sys2Proof.Machine
end

