-- ==== Sys2Proof/Machine/Clk.lean ====
section
/-! DEFINITION. Clocks, loops and the TB timescale (04_clocks_and_time_base.md): REFIN and oscillator judgement, PLL lock,
coasting and relock, commits, the TB counter and keeper, TB_SET, the marker fit. Commands that also touch channels or
frames (SYNC_EDGE, MARKER) take their shared parts from here. -/

namespace Sys2Proof.Machine

/-! ### Small readers -/

/-- REFIN frequency selected, in kHz (R121). -/
def State.refKhz (s : State) : Nat := if s.on CLK.REF.FREQ_SEL then 100000 else 10000

/-- `ticks / R`, with R = 125 at 10 MHz and 12.5 at 100 MHz (R136). -/
def State.overR (s : State) (ticks : Nat) : Nat := if s.on CLK.REF.FREQ_SEL then ticks * 2 / 25 else ticks / 125

/-- `keeper × R` in 2^-16 tick. -/
def State.timesR (s : State) (keeper : Nat) : Nat :=
  if s.on CLK.REF.FREQ_SEL then keeper * 25 * 32768 else keeper * 125 * 65536

/-- The keeper: derived from TB while the fast clocks run, counting by itself in DARK and up to step 3 of wake (R136, R142, R143). -/
def State.keeper (s : State) : Nat :=
  if s.dev = devDark || s.clk.waking then s.clk.keeper % 2 ^ 64 else s.overR s.ticks

/-- The Clk record changed. -/
def State.modClk (s : State) (f : Clk → Clk) : State := { s with clk := f s.clk }

/-- PLL0 is LOCKED. -/
def State.pll0Locked (s : State) : Bool := s.on (CLK.PLLn_STATUS.LOCKED 0)

/-- PLL0 coasts, relocks or re-phases, or has not declared lock since wake (R138 bit 1, R130). -/
def State.tbCoast (s : State) : Bool := (s.rd TB.STATE.TB_STATE).testBit 1

/-- OCXO_WARM recognised high (R124). -/
def State.warm (s : State) : Bool := s.on CLK.REF.WARM

/-- Sets one bit of tb_state (R138). -/
def State.tbBit (s : State) (i : Nat) (b : Bool) : State := s.putBit TB.STATE.TB_STATE i b

/-- TB is being carried without a locked REFIN (R138, R144): PLL0 coasts, relocks after a coast or re-phases, or the keeper counts on
the internal oscillator. PLL0's relock at wake with REFIN present is none of these (DEDUCED, notes/assumptions/29.md). -/
def State.inHoldover (s : State) : Bool :=
  s.clk.tbRuns && (if s.dev = devDark || s.clk.waking then !s.on CLK.REF.OK else s.tbCoast && !s.clk.wakeLock)

/-! ### The clock's own passage -/

/-- Half ticks from one count of the keeper to the next, and what each adds: a REFIN edge, or with REFIN lost a cycle of the internal
1 MHz oscillator, taken at its nominal length (R136, R144, notes/assumptions/37.md). -/
def State.keeperStep (s : State) : Nat × Nat :=
  if s.on CLK.REF.OK then (if s.on CLK.REF.FREQ_SEL then 25 else 250, 1)
  else (2500, if s.on CLK.REF.FREQ_SEL then 100 else 10)

/-- A tick of the keeper that counts by itself, with TB in keeper form; at wake the first count at which keeper × R is a whole
number of ticks ends it, or with REFIN absent the first safelight edge (R142 to R144). -/
def State.keeperTick (s : State) : State :=
  let half := s.clk.edgeHalf + 2
  if half < s.keeperStep.1 then s.modClk (fun c => { c with edgeHalf := half })
  else
    let s := s.modClk (fun c => { c with edgeHalf := half - s.keeperStep.1, keeper := c.keeper + s.keeperStep.2 })
    let s := { s with tb := s.timesR s.keeper % 2 ^ 80 }
    if s.clk.waking && (s.tb % 65536 == 0 || !s.on CLK.REF.OK) then (s.modClk (fun c => { c with waking := false })).tbBit 3 true else s

/-- One TB tick goes by: the TB counter where it runs, the keeper where it counts by itself, the holdover time (R136, R138,
R142). -/
def State.tick (s : State) : State :=
  let s := { s with now := s.now + 1 }
  let s := if s.dev = devDark || s.clk.waking then s.keeperTick
    else if s.clk.tbRuns then { s with tb := (s.tb + 65536) % 2 ^ 80 } else s
  if s.inHoldover then
    if s.clk.holdTicks + 1 < 1250000 then s.modClk (fun c => { c with holdTicks := c.holdTicks + 1 })
    else ((s.modClk (fun c => { c with holdTicks := 0 })).count TB.HOLDOVER.MS TB.HOLDOVER.SAT 1).tbBit 4 false
  else s

/-! ### PLL bands, lock and loss -/

/-- The band entries of PLL `n` in the image in force, as pairs of least and greatest kHz (R126). -/
def bandsOf (bs : List Nat) : List (Nat × Nat) :=
  (List.range (bs.length / 12)).map (fun i => (le bs (12 * i) 4, le bs (12 * i + 4) 4))

/-- Place of the lowest band that contains a frequency. -/
def bandIndex (l : List (Nat × Nat)) (khz : Nat) : Option Nat :=
  (List.range l.length).find? (fun i => match l[i]? with
    | some (a, b) => a ≤ khz && khz ≤ b
    | none => false)

/-- The bytes of table (kind, number) of an image (R497). -/
def Image.table (im : Image) (kind number : Nat) : Option (List Nat) :=
  (im.tables.find? (fun t => t.kind = kind && t.number = number)).map Table.bytes

/-- The band of PLL `n` that holds a frequency, under the image in force. -/
def State.band (s : State) (n khz : Nat) : Option Nat :=
  match s.image with
  | none => none
  | some im => match im.table 8 n with
    | none => none
    | some bs => bandIndex (bandsOf bs) khz

/-- PLL `n` starts towards a frequency: relock in progress, output gated where its field says so (R131). -/
def State.relock (s : State) (n : Nat) : State :=
  let s := (((s.put (CLK.PLLn_STATUS.LOCKED n) false).put (CLK.PLLn_STATUS.COAST n) false).put
    (CLK.PLLn_STATUS.RELOCK n) true).put (CLK.PLLn_STATUS.GATED n) (s.on (CLK.PLLn_CTL.GATE_ON_RELOCK n))
  let s := s.modClk (fun c => { c with good := c.good.set n 0, broken := c.broken.set n true })
  if n = 0 then (s.tbBit 0 false).tbBit 1 true else s

/-- PLL `n` loses lock and coasts on its frozen control word (R129). -/
def State.loseLock (s : State) (n : Nat) : State :=
  let s := ((s.put (CLK.PLLn_STATUS.LOCKED n) false).put (CLK.PLLn_STATUS.RELOCK n) false).put
    (CLK.PLLn_STATUS.COAST n) true
  let s := s.modClk (fun c => { c with
    good := c.good.set n 0, broken := c.broken.set n true, wakeLock := if n = 0 then false else c.wakeLock })
  let s := s.count (CLK.PLLn_LOSS.COUNT n) (CLK.PLLn_LOSS.SAT n) 1
  let s := if n = 0 then ((s.tbBit 0 false).tbBit 1 true).put TB.STATE.REPHASE false else s
  s.event 0x02B2 [n, ofSigned 32 (s.rdS (CLK.PLLn_STATUS.ERROR n))]

/-- PLL `n` is enabled: all are from start-up step 7 on, PLL3 but for self-refresh (R366). -/
def State.pllEnabled (s : State) (n : Nat) : Bool := s.clk.pllOn && s.dev != devDark && (n != 3 || !s.clk.pll3Off)

/-- REFIN is lost (R122): OK clears, the safelight domain moves to its oscillator, the loss is counted and reported
with its cause, and every PLL that is enabled coasts, unless it does already. -/
def State.refLose (s : State) (cause : Nat) : State :=
  let s := (s.put CLK.REF.OK false).put CLK.REF.SAFELIGHT_SRC false
  let s := (s.modClk (fun c => { c with refGood := 0, refLost := true, edgeHalf := 0, wakeLock := false })).count CLK.REF_LOSS.COUNT CLK.REF_LOSS.SAT 1
  let s := s.event 0x02B0 [s.rd CLK.REF.MEAS_KHZ, cause]
  (List.range 6).foldl (fun s n =>
    if s.pllEnabled n && !s.on (CLK.PLLn_STATUS.COAST n) then s.loseLock n else s) s

/-- `CLK.REF.OK` becomes 1: the safelight domain runs from REFIN, a return is reported, and every coasting PLL relocks
(R122, R131). -/
def State.refBack (s : State) : State :=
  let back := s.clk.refLost
  let s := (s.put CLK.REF.OK true).put CLK.REF.SAFELIGHT_SRC true
  let s := if back then s.event 0x02B1 [] else s
  let s := (List.range 6).foldl (fun s n => if s.on (CLK.PLLn_STATUS.COAST n) then s.relock n else s) s
  s.modClk (fun c => { c with since := List.replicate 6 (some s.now), edgeHalf := 0 })

/-- An all-bank refresh: rows close and a changed rate applies (R360). -/
def State.refreshed (s : State) : State :=
  let s : State := { s with arc := { s.arc with subs := s.arc.subs.map (fun (b : Subch) => { b with rows := [] }) } }
  match s.arc.rate with
  | none => s
  | some hot =>
    ({ s with arc := { s.arc with rate := none } }.put DRM.STATE.REFRESH_2X hot).event 0x0240 [if hot then 1950 else 3900]

/-- The DRAM leaves self-refresh with PLL3 locked: one refresh, a readout of the DQS oscillator, then requests are served (R367). -/
def State.srExit (s : State) : State :=
  let s := (s.wr DRM.STATE.STATE 1).refreshed
  { s with arc := { s.arc with stepAt := s.arc.stepAt.set 1 s.now, wanted := false } }

/-- PLL `n` declares lock (R127): TB and the keeper start at 0 at PLL0's first lock (R136); after a coast PLL0
re-phases where the TB time stands more than 5 ps off (R137). -/
def State.declareLock (s : State) (n : Nat) (eps : Int) : State :=
  let was := s.clk.broken.getD n false
  let s := (((s.put (CLK.PLLn_STATUS.LOCKED n) true).put (CLK.PLLn_STATUS.COAST n) false).put
    (CLK.PLLn_STATUS.RELOCK n) false).put (CLK.PLLn_STATUS.GATED n) false
  let s := s.modClk (fun c => { c with
    broken := c.broken.set n false, since := c.since.set n none, wakeLock := if n = 0 then false else c.wakeLock })
  let s := if n = 3 ∧ s.rd DRM.STATE.STATE = 5 then s.srExit else s
  let s := if n = 0 then
      if s.clk.tbRuns then
        let off := decide (409 < eps.natAbs)
        let s := (s.tbBit 0 true).put TB.STATE.REPHASE (was && off)
        s.tbBit 1 (was && off)
      else
        let s := { s with tb := 0 }.modClk (fun c => { c with tbRuns := true })
        (s.tbBit 0 true).tbBit 1 false
    else s
  if was then s.event 0x02B3 [n] else s

/-! ### Meanings -/

/-- Within `pct` percent of `f`. -/
def withinPct (x f pct : Nat) : Bool := 100 * x ≤ f * (100 + pct) && f * (100 - pct) ≤ 100 * x

/-- REFIN_MEASUREMENT (R122, R521). -/
def execRefinMeasurement (khz pll0Khz : Nat) (s : State) : Host.Outcome State Fault Refusal :=
  let s := s.wr CLK.REF.MEAS_KHZ khz
  .next (
    if withinPct khz s.refKhz 3 then
      let s := s.modClk (fun c => { c with refGood := min 4 (c.refGood + 1), oscBad := 0 })
      if s.clk.refGood = 4 ∧ ¬ s.on CLK.REF.OK then s.refBack else s
    else
      let sound := 2 * 100 * pll0Khz ≤ 1250000 * 203 && 1250000 * 197 ≤ 2 * 100 * pll0Khz
      if s.pll0Locked && sound then
        let s := s.event 0x02B4 [khz]
        let s := s.modClk (fun c => { c with oscBad := if withinPct khz s.refKhz 5 then 0 else c.oscBad + 1 })
        if s.clk.oscBad = 4 then s.halt 0x0801 0 khz else s
      else
        let s := s.modClk (fun c => { c with refGood := 0, oscBad := 0 })
        if s.on CLK.REF.OK then s.refLose 2 else s)

/-- CLK_REF_LOST (R122): three expected edges missing at a PLL's lock detector. -/
def execClkRefLost (s : State) : Host.Outcome State Fault Refusal :=
  .next (if s.on CLK.REF.OK then s.refLose 1 else s)

/-- A lock window of PLL `n` (R127). -/
def State.lockWindow (s : State) (n : Nat) (err eps : Int) : State :=
  if n < 6 ∧ s.pllEnabled n ∧ s.on CLK.REF.OK then
    let s := s.wr (CLK.PLLn_STATUS.ERROR n) (ofSigned 8 (clampI (-127) 127 err))
    if err.natAbs ≤ 2 then
      let s := s.modClk (fun c => { c with good := c.good.modify n (fun g => min 4 (g + 1)) })
      if s.clk.good.getD n 0 = 4 ∧ ¬ s.on (CLK.PLLn_STATUS.LOCKED n) then s.declareLock n eps else s
    else if s.on (CLK.PLLn_STATUS.LOCKED n) then
      if 8 < err.natAbs then s.loseLock n else s
    else s.modClk (fun c => { c with good := c.good.set n 0 })
  else s

/-- PLL_LOCK_TIMEOUT (R132): 10 ms since the PLL was enabled or `CLK.REF.OK` returned, with it 1 throughout and no lock declared. -/
def execPllLockTimeout (n : Nat) (s : State) : Host.Outcome State Fault Refusal :=
  .next (match s.clk.since.getD n none with
    | none => s
    | some t =>
      if n < 6 ∧ s.pllEnabled n ∧ s.on CLK.REF.OK ∧ t + ticksOfMs 10 ≤ s.now then
        if s.dev = devStart then s.halt 0x0107 (s.rd SYS.STATE.STEP) 0 else s.halt 0x0610 n 0
      else s)

/-- TB_REPHASED (R137). -/
def execTbRephased (s : State) : Host.Outcome State Fault Refusal :=
  .next (if s.on TB.STATE.REPHASE then ((s.put TB.STATE.REPHASE false).tbBit 1 false).event 0x02B6 [] else s)

/-- OCXO_WARM_CHANGE (R124). -/
def execOcxoWarmChange (level : Bool) (s : State) : Host.Outcome State Fault Refusal :=
  .next ((s.put CLK.REF.WARM level).tbBit 2 level)

/-- CLK_COMMIT_APPLY (R133): the committed PLL1 frequency takes effect at the next REFIN edge; a commit pending while
REFIN is lost waits for its return (R135). -/
def execClkCommitApply (s : State) : Host.Outcome State Fault Refusal :=
  .next (
    if s.on CLK.CTL.PENDING && s.on CLK.REF.OK then
      let f := s.clk.freqNext.getD (s.clk.freq.getD 1 0)
      let s := (s.put CLK.CTL.PENDING false).modClk (fun c => { c with freqNext := none })
      if f = s.clk.freq.getD 1 0 then s
      else
        let s := s.modClk (fun c => { c with freq := c.freq.set 1 f })
        (s.wr (CLK.PLLn_STATUS.BAND 1) ((s.band 1 f).getD 0)).relock 1
    else s)

/-! ### Sync edge: dividers and TB_SET -/

/-- TB set to the armed value at the sync edge (R140): the PLL0 divider restarts, TB and keeper, the arm and holdover cleared, KEEPER
cleared and SYNCED set, the marker fit restarted, the audit entry and event TB_STEP, and the flag each channel's next frame owes.
The value is that of `TB.SET_LO` and `TB.SET_HI` at the edge (DESIGN CHOICE, notes/assumptions/30.md). -/
def State.applyTbSet (s : State) : State :=
  let old := s.ticks
  let new := s.rd TB.SET_LO.TICKS + s.rd TB.SET_HI.TICKS * 2 ^ 32
  let by_ := s.clk.setBy.getD .i3c
  let s := { s with tb := new * 65536 }
  let s := (((s.wr TB.SET_CTL.ARM 0).wr TB.SET_CTL.REFUSED 0).wr TB.HOLDOVER.MS 0).put TB.HOLDOVER.SAT false
  let s := (s.tbBit 3 false).tbBit 4 true
  let s := s.modClk (fun c => { c with
    restarted := c.restarted ||| 1, markers := [], fit := none, holdTicks := 0, stepOwed := List.replicate 8 true })
  let s := s.auditBy by_ 9 (old % 2 ^ 32) (old / 2 ^ 32) (new % 2 ^ 32) (new / 2 ^ 32)
  s.event 0x02B5 [old % 2 ^ 32, old / 2 ^ 32, new % 2 ^ 32, new / 2 ^ 32]

/-- What a sync edge does to clocks and TB (R134, R135, R140). -/
def State.syncClock (s : State) : State :=
  let s := if s.dev = devIdle then s.modClk (fun c => { c with restarted := s.rd CLK.SYNC.MASK * 2 })
    else (s.count CLK.SYNC.IGNORED CLK.SYNC.SAT 1).modClk (fun c => { c with restarted := 0 })
  if s.on TB.SET_CTL.ARM then
    if s.pll0Locked then s.applyTbSet else s.wr TB.SET_CTL.REFUSED 4
  else s

/-- An armed set cancelled: by a channel start (2) or an enabled stamp input (3) (R140). -/
def State.cancelTbSet (s : State) (cause : Nat) : State :=
  if s.on TB.SET_CTL.ARM then (s.wr TB.SET_CTL.ARM 0).wr TB.SET_CTL.REFUSED cause else s

/-! ### Markers and the sample-to-TB fit -/

/-- The least-squares fit over markers, oldest first, each with its number and time (R145). It is formed from the second marker on
(DESIGN CHOICE, notes/assumptions/15.md). -/
def fitOf (ms : List (Nat × Nat)) : Option Fit :=
  let n := ms.length
  if n < 2 then none
  else
    let (first, t0) := ms.headD (0, 0)
    let sum := fun (f : Int → Int → Int) => (ms.map (fun m => f ((m.1 : Int) - first) ((m.2 : Int) - t0))).sum
    let kSum := sum (fun k _ => k)
    let td := sum (fun _ t => t)
    some ⟨n, first, td + n * t0, kSum, n * sum (fun k t => k * t) - kSum * td, n * sum (fun k _ => k * k) - kSum * kSum⟩

/-- TB time in 2^-16 tick of the position `c / q` slice clocks under a fit, as a numerator over a denominator (R145, R146). -/
def Fit.timeFrac (f : Fit) (c q : Int) : Int × Int :=
  -- marker number k = c / (1024 q) - first; time = (tSum + slope (n k - kSum)) / n
  let nkNum := f.n * (c - 1024 * q * f.first) - f.kSum * 1024 * q
  (f.tSum * (1024 * q * f.slopeDen) + f.slopeNum * nkNum, f.n * (1024 * q * f.slopeDen))

/-- That time less `num / den`, rounded half to even once (R146, R264). -/
def Fit.timeAt (f : Fit) (c q num den : Int) : Int :=
  let (a, b) := f.timeFrac c q
  if b ≤ 0 then 0 else divHalfEven (a * den - num * b) (b * den)

/-- ρ in 2^-30 tick per slice clock, to the nearest unit (R147): the slope is in 2^-16 tick per 1,024 slice clocks. -/
def Fit.rho (f : Fit) : Nat := if f.slopeDen ≤ 0 then 0 else (divRound (f.slopeNum * 16) f.slopeDen).toNat

/-- Mean square residual of the marker times about the fit, as a numerator and denominator in (2^-16 tick)². -/
def Fit.residual (f : Fit) (ms : List (Nat × Nat)) : Int × Int :=
  let d := f.n * f.slopeDen
  let rs := ms.map (fun m =>
    (m.2 : Int) * d - (f.tSum * f.slopeDen + f.slopeNum * (f.n * ((m.1 : Int) - f.first) - f.kSum)))
  ((rs.map (fun r => r * r)).sum, f.n * d * d)

/-- A marker stamped at `t`: the fit over the last 64, its deviation from ρ₀ and residual, and INCOHERENT
(R145, R147). One 2^-16 tick is 800/65,536 ps; both figures are rounded to the nearest unit (DESIGN CHOICE,
notes/assumptions/98.md). -/
def State.markerFit (s : State) (t : Nat) : State :=
  let ms := ((s.clk.markerN, t) :: s.clk.markers).take 64
  let fit := fitOf ms.reverse
  let s := s.modClk (fun c => { c with markers := ms, markerN := c.markerN + 1, fit := fit })
  match fit with
  | none => s
  | some f =>
    let rho0 := s.rd TB.SCLK_REF.RATIO
    let dev : Int := if rho0 = 0 then 0 else divRound (((f.rho : Int) - rho0) * 1000000000) rho0
    let (rn, rd) := f.residual ms
    -- residual in ps is sqrt (rn / rd) * 800 / 65536; in 0.1 ps ten times that
    let sq := if rd ≤ 0 then 0 else (rn * 64000000 / (rd * 4294967296)).toNat
    let rms10 := isqrt sq
    let ovr := if rd ≤ 0 then false else
      decide ((s.rd TB.SCLK_LIMIT.RESID : Int) ^ 2 * rd * 4294967296 < rn * 64000000)
    let wide := decide ((s.rd TB.SCLK_LIMIT.DEV_PPB : Int) * rho0 < ((f.rho : Int) - rho0).natAbs * 1000000000)
    let s := s.wr TB.SCLK_FIT.DEV_PPB (ofSigned 24 (satS 24 dev))
    let s := s.wr TB.SCLK_FIT.RESID (min 127 ((rms10 + 5) / 10))
    s.put TB.SCLK_FIT.INCOHERENT (rho0 != 0 && (wide || ovr))

/-! ### Register rules of the block -/

/-- The relock gate of a PLL other than PLL3 and PLL4: fixed at 0, and a write of 1 is refused (R131). -/
def fixedGate (f : Fld) : Bool :=
  f.access == .ro && 0x2040 ≤ f.addr && f.addr < 0x20A0 && f == CLK.PLLn_CTL.GATE_ON_RELOCK ((f.addr - 0x2040) / 16)

/-- Ranges and fixed encodings of the clock and time-base fields (R126, R154); `n f` is the value `f` would hold. -/
def CLK.valueBad (s : State) (n : Fld → Nat) (f : Fld) : Bool :=
  if fixedGate f then true else if f = CLK.PLLn_FREQ.FREQ_KHZ 1 then (s.band 1 (n f)).isNone
  else if f = TB.SCLK_LIMIT.DEV_PPB then n f < 10
  else if f = TB.SCLK_LIMIT.RESID then n f < 50
  else if f = TB.SET_CTL.ARM then n f = 1 && (s.rd TB.SET_LO.TICKS + s.rd TB.SET_HI.TICKS * 2 ^ 32) % 125 != 0
  else false

/-- Any stamp input from code 0 to 63 is enabled (R140). -/
def State.anyInput (s : State) : Bool := (List.range 64).any (fun i => s.rd (TDC.INi_CTL.EDGE i) != 0)

/-- Arming outside IDLE or with a stamp input enabled (R140, R589). -/
def CLK.stateBad (s : State) (n : Fld → Nat) (f : Fld) : Bool :=
  f = TB.SET_CTL.ARM && n f = 1 && (s.dev != devIdle || s.anyInput)

/-- The cause a refused arm records in `TB.SET_CTL.REFUSED` (R140): the state tests before the value (R589). -/
def State.armCause (s : State) : Nat :=
  if s.dev ≠ devIdle then 2 else if s.anyInput then 3
  else if (s.rd TB.SET_LO.TICKS + s.rd TB.SET_HI.TICKS * 2 ^ 32) % 125 ≠ 0 then 1 else 0

/-- A commit takes the frequency written, which waits for the next REFIN edge (R14, R133). -/
def State.clkCommit (s : State) : State :=
  (s.modClk (fun c => { c with freqNext := some (s.rd (CLK.PLLn_FREQ.FREQ_KHZ 1)) })).put CLK.CTL.PENDING true

/-- What a write to the block does beyond storing (R133, R139, R140). -/
def CLK.onWrite (a : Att) (f : Fld) (v : Nat) (s : State) : State :=
  if f = CLK.CTL.COMMIT then (if v = 1 then s.clkCommit else s)
  else if f = TB.SET_CTL.ARM then
    (if v = 1 then (s.wr TB.SET_CTL.REFUSED 0).modClk (fun c => { c with setBy := some a }) else s)
  else s

end Sys2Proof.Machine
end

