-- ==== Sys2Proof/Machine/Fil.lean ====
section
/-! DEFINITION. The decimation and filter chain (08_decimation_and_filters.md): the parameters a channel's registers and
set give, their checks and computed registers, and the stages sample by sample. -/

namespace Sys2Proof.Machine

/-- What governs a chain: mode, the three stages, the peak group (R249, R250, R259). -/
structure FilP where
  mode : Nat := 0
  setOk : Bool := true
  phase : Nat := 0
  rA : Nat := 1
  tA : Nat := 0
  sA : Nat := 0
  hA : List Int := []
  ord : Nat := 1
  rB : Nat := 1
  sB : Nat := 0
  rC : Nat := 1
  tC : Nat := 0
  sC : Nat := 0
  hC : List Int := []
  peak : Nat := 2
  deriving DecidableEq, Repr

/-- The `n` signed 32-bit coefficients at byte `off` of a set. -/
def coefsAt (bs : List Nat) (off n : Nat) : List Int := (List.range n).map (fun i => toSigned 32 (le bs (off + 4 * i) 4))

/-- The parameters of channel `n`'s chain. HIRES uses stage B alone, order 1, shift log₂ R (R249, R256). -/
def State.filP (s : State) (n : Nat) : FilP :=
  let mode := s.rd (FIL.CHn_MODE.MODE n)
  let r := s.rd (FIL.CHn_CIC_RATIO.RATIO n)
  let pk := s.rd (FIL.CHn_PEAK.RATIO n)
  if mode = 4 then { mode := 4, rB := r, sB := Nat.log2 r, peak := pk }
  else if mode = 2 ∨ mode = 3 then
    let base : FilP := { mode := mode, rB := r, ord := s.rd (FIL.CHn_CIC.ORDER n), sB := s.rd (FIL.CHn_CIC.SHIFT n), peak := pk }
    match s.image with
    | none => { base with setOk := false }
    | some im => match im.table 2 (s.rd (FIL.CHn_MODE.SET n)) with
      | none => { base with setOk := false }
      | some bs =>
        let tA := le bs 8 2
        let tC := le bs 10 2
        { base with
          phase := le bs 4 1, rA := le bs 5 1, rC := le bs 6 1, tA := tA, tC := tC, sA := le bs 12 1, sC := le bs 13 1
          hA := coefsAt bs 16 tA, hC := coefsAt bs (16 + 4 * tA) tC }
  else { mode := mode, peak := pk }

/-- The filter stages run (R249). -/
def FilP.stages (p : FilP) : Bool := p.mode == 2 || p.mode == 3 || p.mode == 4

/-- D_F (R250). -/
def FilP.df (p : FilP) : Nat := if p.stages then p.rA * p.rB * p.rC else 1

/-- decimation_ratio (R250). -/
def FilP.ratio (p : FilP) : Nat := if p.mode = 1 then p.peak else if p.mode = 3 then p.df * p.peak else p.df

/-- Sample format of the frames (R249); `f` is `CAP.CHn_CFG.FORMAT`. -/
def FilP.format (p : FilP) (f : Nat) : Nat :=
  if p.mode = 0 then f else if p.mode = 1 ∨ p.mode = 3 then 4 else 3

/-- Impulse length L (R267). -/
def FilP.impulse (p : FilP) : Nat :=
  if p.stages then (max p.tA 1 - 1) + p.rA * p.ord * (p.rB - 1) + p.rA * p.rB * (max p.tC 1 - 1) + 1 else 1

/-- Inputs before the newest that stage A's, and stage B's, results still reach an output from (R254). -/
def FilP.reachA (p : FilP) : Nat := p.rA * p.ord * (p.rB - 1) + p.rA * p.rB * (max p.tC 1 - 1)
@[inherit_doc FilP.reachA] def FilP.reachB (p : FilP) : Nat := p.rA * p.rB * (max p.tC 1 - 1)

/-- j_s (R267): the first settled output. -/
def FilP.settle (p : FilP) : Nat := if p.mode = 2 ∨ p.mode = 3 then ceilDiv p.impulse p.df - 1 else 0

/-- Delay of one FIR stage as a numerator over a denominator, in its own input samples (R263). -/
def firDelay (phase : Nat) (t : Nat) (h : List Int) : Int × Int :=
  if t = 0 then (0, 1)
  else if phase = 0 then ((t : Int) - 1, 2)
  else
    let num := (List.zipWith (fun (i : Nat) c => (i : Int) * c) (List.range t) h).sum
    let den := h.sum
    if den < 0 then (-num, -den) else if den = 0 then (0, 1) else (num, den)

/-- Group delay G in input periods as a numerator over a denominator (R263); 0 without stages. -/
def FilP.groupDelay (p : FilP) : Int × Int :=
  if p.stages then
    let (an, ad) := firDelay p.phase p.tA p.hA
    let (cn, cd) := firDelay p.phase p.tC p.hC
    let bn : Int := p.ord * (p.rB - 1 : Nat)
    -- an/ad + rA * bn/2 + rA rB * cn/cd
    (an * (2 * cd) + (p.rA : Int) * bn * (ad * cd) + (p.rA : Int) * p.rB * cn * (2 * ad), 2 * ad * cd)
  else (0, 1)

/-- Group delay in 2^-16 input periods, rounded half to even (R265). -/
def FilP.delay (p : FilP) : Nat := (divHalfEven (p.groupDelay.1 * 65536) p.groupDelay.2).toNat

/-- DC gain in 2^-24, saturating at ±128 (R255). -/
def FilP.gain (p : FilP) : Int :=
  if p.stages then
    let gA : Int := if p.tA = 0 then 1 else p.hA.sum
    let dA : Nat := if p.tA = 0 then 0 else p.sA
    let gB : Int := if p.rB = 1 then 1 else (p.rB ^ p.ord : Nat)
    let dB : Nat := if p.rB = 1 then 0 else p.sB
    let gC : Int := if p.tC = 0 then 1 else p.hC.sum
    let dC : Nat := if p.tC = 0 then 0 else p.sC
    satS 32 (divHalfEven (gA * gB * gC * 16777216) ((2 : Int) ^ (dA + dB + dC)))
  else 16777216

/-- `v` is a power of two. -/
def isPow2 (v : Nat) : Bool := v != 0 && 2 ^ Nat.log2 v == v

/-- The combination's first failing cause, lowest code first, 0 where none fails (R258). -/
def FilP.cause (p : FilP) : Nat :=
  if !p.setOk then 1
  else if p.stages && (p.rB < 1 || 1048576 < p.rB) then 2
  else if p.mode = 4 ∧ ¬ (isPow2 p.rB ∧ 2 ≤ p.rB) then 2
  else if p.stages && (p.ord < 1 || 5 < p.ord || 2 ^ 64 < p.rB ^ p.ord) then 3
  else if (p.mode = 2 ∨ p.mode = 3) ∧ min 512 (4 * p.rA * p.rB * p.rC) < p.tC then 4
  else if 268435456 < p.ratio then 5
  else if (p.mode = 1 ∨ p.mode = 3) ∧ (p.peak < 2 ∨ 16777216 < p.peak) then 6
  else 0

/-- The computed registers of channel `n` after a change of its settings or of the image (R258, R278, R281). -/
def State.filRefresh (s : State) (n : Nat) : State :=
  let p := s.filP n
  let c := p.cause
  let s := (s.put (FIL.CHn_STATUS.VALID n) (c = 0)).wr (FIL.CHn_STATUS.CAUSE n) c
  if c = 1 then s
  else
    let s := (s.wr (FIL.CHn_RATIO.TOTAL n) p.ratio).wr (FIL.CHn_SETTLE.OUTPUTS n) p.settle
    let s := (s.wr (FIL.CHn_DELAY_LO.DELAY n) (p.delay % 2 ^ 32)).wr (FIL.CHn_DELAY_HI.DELAY n) (p.delay / 2 ^ 32)
    (s.put (FIL.CHn_DELAY_HI.MINPHASE n) (p.phase = 1 && p.stages)).wr (FIL.CHn_GAIN.GAIN n) (ofSigned 32 p.gain)

/-- The chain record of channel `n`. -/
def State.chain (s : State) (n : Nat) : Chain := s.fil.getD n {}

/-- The chain of channel `n` set. -/
def State.setChain (s : State) (n : Nat) (c : Chain) : State := { s with fil := s.fil.set n c }

/-- What the chain registers of channel `n` hold. -/
def State.chainSet (s : State) (n : Nat) : List Nat :=
  [FIL.CHn_MODE.MODE n, FIL.CHn_MODE.SET n, FIL.CHn_CIC.ORDER n, FIL.CHn_CIC.SHIFT n, FIL.CHn_CIC_RATIO.RATIO n, FIL.CHn_PEAK.RATIO n].map s.rd

/-- The chain starts at index 0 (R262), or stops with every register cleared (R276). -/
def State.chainStart (s : State) (n : Nat) : State :=
  ((s.setChain n {}).put (FIL.CHn_STATUS.RUNNING n) (s.rd (FIL.CHn_MODE.MODE n) != 0)).put (FIL.CHn_STATUS.SETTLING n)
    ((s.filP n).settle != 0)
@[inherit_doc State.chainStart] def State.chainStop (s : State) (n : Nat) : State :=
  ((s.setChain n {}).put (FIL.CHn_STATUS.RUNNING n) false).put (FIL.CHn_STATUS.SETTLING n) false

/-- The shift of R254: the quotient rounded half to even and saturated to 24 bits, and whether it saturated. -/
def filShift (acc : Int) (sh : Nat) : Int × Bool :=
  let q := roundShiftEven acc sh
  (satS 24 q, !fitsS 24 q)

/-- The sum of products of a delay line, newest first, with the taps. -/
def dot (h line : List Int) : Int := (List.zipWith (fun a b => a * b) h line).sum

/-- One stage A step on input `u` at chain index `i`: the new line, and the output when one falls due (R252). -/
def stageA (p : FilP) (line : List Int) (i : Nat) (u : Int) : List Int × Option (Int × Bool) :=
  if p.tA = 0 then (line, some (u, false))
  else
    let l := (u :: line).take p.tA
    (l, if (i + 1) % p.rA = 0 then some (filShift (dot p.hA l) p.sA) else none)

/-- The integrators of stage B fed with `v`, modulo 2^88 (R253). -/
def integrate : List Nat → Nat → List Nat × Nat
  | [], v => ([], v)
  | r :: rs, v => let r' := (r + v) % 2 ^ 88; let (t, o) := integrate rs r'; (r' :: t, o)

/-- The first differences of stage B, modulo 2^88. -/
def differ : List Nat → Nat → List Nat × Nat
  | [], v => ([], v)
  | r :: rs, v => let (t, o) := differ rs ((v + 2 ^ 88 - r) % 2 ^ 88); (v :: t, o)

/-- One stage B step on input `a`; `k` counts its inputs (R253). -/
def stageB (p : FilP) (integ comb : List Nat) (k : Nat) (a : Int) : List Nat × List Nat × Option (Int × Bool) :=
  if p.rB = 1 then (integ, comb, some (a, false))
  else
    let pad := fun (l : List Nat) => l ++ List.replicate (p.ord - l.length) 0
    let (ig, v) := integrate (pad integ) (ofSigned 88 a)
    if (k + 1) % p.rB = 0 then
      let (cb, o) := differ (pad comb) v
      (ig, cb, some (filShift (toSigned 88 o) p.sB))
    else (ig, comb, none)

/-- One stage C step on input `b`; `k` counts its inputs (R252). -/
def stageC (p : FilP) (line : List Int) (k : Nat) (b : Int) : List Int × Option (Int × Bool) :=
  if p.tC = 0 then (line, some (b, false))
  else
    let l := (b :: line).take p.tC
    (l, if (k + 1) % p.rC = 0 then some (filShift (dot p.hC l) p.sC) else none)

/-- What the three stages make of one chain input, with the chain after it: the filtered value and whether the last
stage saturated. The grid of R262 counts inputs from index 0. -/
def chainStages (p : FilP) (c : Chain) (u : Int) : Chain × Option (Int × Bool) :=
  let (la, oa) := stageA p c.lineA c.idx u
  let c := { c with lineA := la }
  match oa with
  | none => (c, none)
  | some (a, sa) =>
    let c := if sa then { c with lastSatA := some c.idx } else c
    let (ig, cb, ob) := stageB p c.integ c.comb (c.idx / p.rA) a
    let c := { c with integ := ig, comb := cb }
    match ob with
    | none => (c, none)
    | some (b, sb) =>
      let c := if sb then { c with lastSatB := some c.idx } else c
      let (lc, oc) := stageC p c.lineC (c.idx / (p.rA * p.rB)) b
      ({ c with lineC := lc }, oc)

/-- An index lies within the last `n` inputs up to `i`. -/
def within (o : Option Nat) (i n : Nat) : Bool := match o with
  | some k => i < k + n
  | none => false

/-- A filtered32 word (R271). -/
def filtWord (data : Int) (settling ovr step coast sat : Bool) : Nat :=
  ofSigned 24 data + b2n settling * 2 ^ 24 + b2n ovr * 2 ^ 25 + b2n step * 2 ^ 26 + b2n coast * 2 ^ 27 + b2n sat * 2 ^ 28

/-- A peak pair (R273). -/
def pairWord (lo hi : Int) : Nat := ofSigned 16 lo + ofSigned 16 hi * 65536

/-- A member joins the peak group; the pair when the group is full (R249, R273). -/
def peakStep (p : FilP) (c : Chain) (x : Option Int) (settling ovr hole : Bool) (pos flags epoch : Nat) : Chain × Option Out :=
  let first := c.pk = 0
  let c := { c with
    pk := c.pk + 1
    pkMin := match x with | some v => min (if first then 32767 else c.pkMin) v | none => if first then 32767 else c.pkMin
    pkMax := match x with | some v => max (if first then -32768 else c.pkMax) v | none => if first then -32768 else c.pkMax
    pkSettling := (if first then false else c.pkSettling) || settling
    pkOver := (if first then false else c.pkOver) || ovr
    pkHole := (if first then false else c.pkHole) || hole
    pkPos := if first then pos else c.pkPos
    pkFlags := (if first then 0 else c.pkFlags) ||| flags }
  if c.pk < p.peak then (c, none)
  else
    ({ c with pk := 0 }, some (⟨pairWord c.pkMin c.pkMax, c.pkPos, c.pkSettling, c.pkOver, c.pkFlags, epoch, 0, 0, 0, c.pkHole, 0⟩))

/-- The chain fed with one corrected sample: `x` its code, or none where it is invalid; `pos` its sampling position,
`flags` the frame flags of its time, `epoch` its epoch, `step` that it is the first of a new epoch. Answers the chain, the output if one
falls due, and whether a filtered output has come that is SATURATED (R254). -/
def chainFeed (p : FilP) (fmt : Nat) (c : Chain) (x : Option Int) (pos flags epoch : Nat) (ovr step : Bool) :
    Chain × Option Out × Bool :=
  let coast := flags.testBit 4
  if p.mode = 0 then
    match x with
    | none => (c, none, false)
    | some v =>
      let w := if fmt = 1 then ofSigned 12 v else ofSigned 16 v
      ({ c with idx := c.idx + 1 }, some ⟨w, pos, false, ovr, flags, epoch, 0, 0, 0, false, 0⟩, false)
  else if p.mode = 1 then
    let (c', o) := peakStep p c (x.map (· * 8)) x.isNone ovr x.isNone pos flags epoch
    ({ c' with idx := c'.idx + 1 }, o, false)
  else
    -- the first valid sample after an invalid run clears every register and restarts (R269)
    let c := match x with
      | some _ => if c.inRun then { c with
            lineA := [], integ := [], comb := [], lineC := [], lastSatA := none, lastSatB := none
            restart := c.idx, inRun := false } else c
      | none => { c with inRun := true, holed := true }
    let c := if ovr then { c with lastOver := some c.idx } else c
    let c := if step then { c with lastStep := some c.idx } else c
    let (c, o) := chainStages p c ((x.getD 0) * 2048)
    let due := (c.idx + 1) % p.df = 0
    let i := c.idx
    let holed := c.holed
    let c := { c with idx := i + 1, holed := if due then false else c.holed }
    if !due then (c, none, false)
    else
      let (v, sc) := o.getD (0, false)
      let l := p.impulse
      let settling := holed || i + 1 < c.restart + l && p.mode != 4 || i + 1 < c.restart + p.df
      let ov := within c.lastOver i l
      let st := within c.lastStep i (l - 1)
      let sat := !holed && (sc || within c.lastSatA i (p.reachA + 1) || within c.lastSatB i (p.reachB + 1))
      let data := if holed then 0 else v
      if p.mode = 3 then
        let q := roundShiftEven data 8
        let (c, o) := peakStep p c (some (satS 16 q)) settling ov holed pos flags epoch
        (c, o, sat || !fitsS 16 q)
      else (c, some ⟨filtWord data settling ov st coast sat, pos, settling, ov, flags, epoch, 0, 0, 0, holed, 0⟩, sat)

/-! ### Register rules of the block -/

/-- Field ranges of the chain registers (R258, R281). -/
def FIL.valueBad (n : Fld → Nat) (f : Fld) : Bool :=
  (List.range 8).any (fun c =>
    (f = FIL.CHn_MODE.MODE c && 4 < n f) || (f = FIL.CHn_CIC.ORDER c && (n f < 1 || 5 < n f)) ||
    (f = FIL.CHn_CIC_RATIO.RATIO c && (n f < 1 || 1048576 < n f)) ||
    (f = FIL.CHn_PEAK.RATIO c && (n f < 2 || 16777216 < n f)))

/-- The cause a refused chain write records (R258); `locked` is the RWL lock or a member channel. -/
def FIL.causeOf (c : Nat) (locked : Bool) (f : Fld) : Nat :=
  if locked then 7 else if f = FIL.CHn_MODE.MODE c then 8 else if f = FIL.CHn_CIC.ORDER c then 3
  else if f = FIL.CHn_CIC_RATIO.RATIO c then 2 else if f = FIL.CHn_PEAK.RATIO c then 6 else 0

end Sys2Proof.Machine
end

