-- ==== Sys2Proof/Machine/Trg.lean ====
section
/-! DEFINITION. Detectors, edge interpolation, the events on their way to the sequencers, sequencer tables, TRGOUT and
the learning of curves (06_trigger.md). Commits, which open frames, stand in Frames.lean. -/

namespace Sys2Proof.Machine

/-! ### Channels, groups and time of samples -/

/-- Channels of a merged group in the mode in force (R48). -/
def State.groupSize (s : State) : Nat := match s.rd ADC.MODE.ACTIVE with
  | 1 => 2
  | 2 => 4
  | _ => 1

/-- The lead channel of channel `n`'s group. -/
def State.lead (s : State) (n : Nat) : Nat := n / s.groupSize * s.groupSize

/-- Channel `n` is a lead channel. -/
def State.isLead (s : State) (n : Nat) : Bool := decide (n < 8) && s.lead n == n

/-- The members of the group led by `n`, itself included. -/
def State.members (s : State) (n : Nat) : List Nat := (List.range s.groupSize).map (· + n)

/-- N of R146: sampling positions in a slice clock. -/
def State.posPerSc (s : State) : Nat := 16 * s.groupSize

/-- The TB time in 2^-16 tick of sampling position `pos` less `num / den` sampling positions under ρ₀, rounded half to even once: from the
fit in force, with the factory constant of the mode from marker to sampling instant (R146, R264, notes/assumptions/10.md). Before a fit
exists it is the TB time at the command, less those positions (notes/assumptions/15.md). -/
def State.posTimeLess (s : State) (pos : Nat) (num den : Int) : Nat :=
  let a := num * (s.rd TB.SCLK_REF.RATIO : Int)
  let b := den * (s.posPerSc : Int) * 16384
  (match s.clk.fit with
    | some f => (f.timeAt pos s.posPerSc a b + s.clk.modeConst.getD (s.rd ADC.MODE.ACTIVE) 0) % 2 ^ 80
    | none => ((s.tb : Int) - divHalfEven a b) % 2 ^ 80).toNat

/-- The TB time in 2^-16 tick of sampling position `pos` (R146). -/
def State.posTime (s : State) (pos : Nat) : Nat := s.posTimeLess pos 0 1

/-- `k` sampling positions as time in 2^-16 tick under ρ₀, rounded half to even (R146). -/
def State.posSpan (s : State) (num den : Int) : Int :=
  divHalfEven (num * (s.rd TB.SCLK_REF.RATIO : Int)) (den * (s.posPerSc : Int) * 16384)

/-- Channel states of R25. -/
def chStopped : Nat := 0
@[inherit_doc chStopped] def chPriming : Nat := 1
@[inherit_doc chStopped] def chArmed : Nat := 2
@[inherit_doc chStopped] def chCapture : Nat := 3
@[inherit_doc chStopped] def chHoldoff : Nat := 4

/-- State of channel `n`, that of its lead (R25). -/
def State.chState (s : State) (n : Nat) : Nat := s.rd (CAP.CHn_STATUS.STATE (s.lead n))

/-- Trigger record of channel `n`. -/
def State.tch (s : State) (n : Nat) : TrgCh := s.trg.ch.getD n {}

/-- Capture record of channel `n`. -/
def State.cch (s : State) (n : Nat) : CapCh := s.cap.ch.getD n {}

/-- Capture record of channel `n` changed. -/
def State.modCap (s : State) (n : Nat) (f : CapCh → CapCh) : State :=
  { s with cap := { s.cap with ch := s.cap.ch.modify n f } }

/-- Trigger record of channel `n` changed. -/
def State.modTrg (s : State) (n : Nat) (f : TrgCh → TrgCh) : State :=
  { s with trg := { s.trg with ch := s.trg.ch.modify n f } }

/-! ### Detectors (R182 to R185) -/

/-- What governs a detector (R183, R186). -/
structure DetCfg where
  type : Nat
  pol : Nat
  cond : Nat
  a : Int
  b : Int
  ha : Int
  hb : Int
  t1 : Nat
  t2 : Nat
  deriving DecidableEq, Repr

/-- The settings in force of channel `n`'s detector. -/
def State.detCfg (s : State) (n : Nat) : DetCfg :=
  let v := (s.tch n).inForce
  ⟨s.rd (TRG.CHn_DET.TYPE n), s.rd (TRG.CHn_DET.POL n), s.rd (TRG.CHn_DET.COND n), toSigned 16 (v.getD 0 0),
    toSigned 16 (v.getD 1 0), v.getD 2 0, v.getD 3 0, v.getD 4 0, v.getD 5 0⟩

/-- The width meets COND (R183). -/
def DetCfg.meets (c : DetCfg) (w : Nat) : Bool := match c.cond with
  | 0 => w < c.t1
  | 1 => c.t1 < w
  | _ => c.t1 ≤ w && w ≤ c.t2

/-- POL selects the first or the second kind (0, 1; 2 either). -/
def DetCfg.sel (c : DetCfg) (k : Nat) : Bool := c.pol == k || c.pol == 2

/-- A crossing's arm after sample `x`: `far` arms it, `near` completes it. -/
def armed (arm far near : Bool) : Bool := if far then true else if near then false else arm

/-- One sample `x` of index `i` through the crossings: the detector after it and the levels at which it fires here. -/
def Det.step (c : DetCfg) (d : Det) (i : Nat) (x : Int) : Det × List Int :=
  let upA := d.riseA && c.a ≤ x
  let dnA := d.fallA && x < c.a
  let upB := d.riseB && c.b ≤ x
  let dnB := d.fallB && x < c.b
  let inside := c.b ≤ x && x < c.a
  let prev := (d.hist.headD (0, false)).1
  -- openings; a later opening replaces an earlier one (R183)
  let oUA := if upA then some i else d.upA
  let oDA := if dnA then some i else d.downA
  let oUB := if upB then some i else d.upB
  let oDB := if dnB then some i else d.downB
  let hitA := (if upB then false else d.hitA) || c.a ≤ x
  let hitB := (if dnA then false else d.hitB) || x < c.b
  let width := fun (o : Option Nat) => match o with
    | some k => c.meets (i - k)
    | none => false
  let short := fun (o : Option Nat) => match o with
    | some k => decide (i - k < c.t1)
    | none => false
  let fires : List Int := match c.type with
    | 1 => if (upA && c.sel 0) || (dnA && c.sel 1) then [c.a] else []
    | 2 =>
      if d.enter && inside && c.sel 0 then [if c.a ≤ prev then c.a else c.b]
      else if d.leave && !inside && c.sel 1 then [if c.a ≤ x then c.a else c.b] else []
    | 3 => if (dnA && c.sel 0 && width d.upA) || (upA && c.sel 1 && width d.downA) then [c.a] else []
    | 4 => (if dnB && c.sel 0 && d.upB.isSome && !d.hitA then [c.b] else []) ++
        (if upA && c.sel 1 && d.downA.isSome && !d.hitB then [c.a] else [])
    | 5 => (if upA && c.sel 0 && width oUB then [c.a] else []) ++ (if dnB && c.sel 1 && width oDA then [c.b] else [])
    | 6 => (if dnA && c.sel 0 && short d.upA then [c.a] else []) ++ (if upB && c.sel 1 && short d.downB then [c.b] else [])
    | _ => []
  -- a close ends its opening; a fall through B abandons a rise, a rise through A abandons a fall (R183)
  let d' : Det := { d with
    hist := ((x, false) :: d.hist).take 3
    riseA := armed d.riseA (x < c.a - c.ha) (c.a ≤ x)
    fallA := armed d.fallA (c.a + c.ha ≤ x) (x < c.a)
    riseB := armed d.riseB (x < c.b - c.hb) (c.b ≤ x)
    fallB := armed d.fallB (c.b + c.hb ≤ x) (x < c.b)
    enter := if inside then false else d.enter || c.a + c.ha ≤ x || x < c.b - c.hb
    leave := if !inside then false else d.leave || (c.b + c.hb ≤ x && x < c.a - c.ha)
    upA := if dnA then none else oUA
    downA := if upA || (c.type = 5 && dnB) then none else oDA
    upB := if dnB || (c.type = 5 && upA) then none else oUB
    downB := if upB then none else oDB
    hitA := hitA
    hitB := hitB }
  (d', fires)

/-- Every crossing unarmed, every opening dropped (R185, R186). -/
def Det.unarm (d : Det) : Det := { d with
  riseA := false, fallA := false, riseB := false, fallB := false, enter := false, leave := false
  upA := none, downA := none, upB := none, downB := none, hitA := false, hitB := false }

/-! ### Interpolation (R201 to R203) -/

/-- φ_raw of R201 in 2^-16 sample with its fallback: samples k - 2 to k + 1, less the level. Arithmetic keeps 32
fractional bits. -/
def interpolate (ym1 y0 y1 y2 : Int) (bad : Bool) : Nat × Bool :=
  let one : Int := 2 ^ 32
  -- coefficients times 6
  let c1 := -2 * ym1 - 3 * y0 + 6 * y1 - y2
  let c2 := 3 * (ym1 - 2 * y0 + y1)
  let c3 := -ym1 + 3 * y0 - 3 * y1 + y2
  let lin := divHalfEven (y0 * one * (y0 - y1).sign) ((y0 - y1).natAbs : Int)
  let newton := fun (acc : Int × Bool) =>
    if acc.2 then acc
    else
      let t := acc.1
      -- d and p times 6, with 32 fractional bits
      let d := Int.fdiv ((Int.fdiv (3 * c3 * t) 1 + 2 * c2 * one) * t) one + c1 * one
      if d.natAbs * 8 < ((y0 - y1).natAbs * 6 * 2 ^ 32 : Nat) then (t, true)
      else
        let p := Int.fdiv ((Int.fdiv ((c3 * t + c2 * one) * t) one + c1 * one) * t) one + 6 * y0 * one
        (t - divHalfEven (p * one * d.sign) (d.natAbs : Int), false)
  let r := if bad then (lin, true) else newton (newton (newton (lin, false)))
  let fb := bad || r.2 || r.1 < 0 || one < r.1
  let t := if fb then lin else r.1
  ((divHalfEven t 65536).toNat, fb)

/-- φ from φ_raw under a curve of 256 entries (R202). -/
def curvePhase (curve : List Nat) (raw : Nat) : Nat :=
  if 65536 ≤ raw then 65536
  else
    let i := raw / 256
    let lo := curve.getD i (256 * i)
    let up := if i < 255 then curve.getD (i + 1) (256 * (i + 1)) else 65536
    ((lo : Int) + divHalfEven (((up : Int) - lo) * ((raw - 256 * i : Nat) : Int)) 256).toNat

/-- A curve's entries are non-decreasing and below 65,536 (R158, R202). -/
def curveValid (c : List Nat) : Bool :=
  c.length == 256 && c.all (· < 65536) && (List.range 255).all (fun i => c.getD i 0 ≤ c.getD (i + 1) 0)

/-- The ideal curve (R158, R202). -/
def idealCurve : List Nat := (List.range 256).map (256 * ·)

/-- The seed curve of a kind and number in the image in force (R497); the ideal one where none is loaded. -/
def State.seed (s : State) (kind number : Nat) : List Nat := match s.image with
  | none => idealCurve
  | some im => match im.table kind number with
    | none => idealCurve
    | some bs => (List.range 256).map (fun i => le bs (4 + 2 * i) 2)

/-- The newest learned curve of a mode in the ledger (R204). -/
def State.newestCurve (s : State) (mode : Nat) : Option (List Nat) := (s.led.curves.find? (fun c => c.1 = mode)).map Prod.snd

/-- The curve in force of channel `n`: the newest of the mode, or the one before it up to the channel's next roll start (R204). -/
def State.trgCurve (s : State) (n : Nat) : List Nat :=
  let mode := s.rd ADC.MODE.ACTIVE
  let learned := match (s.tch n).oldCurves.find? (fun c => c.1 = mode) with
    | some c => c.2
    | none => s.newestCurve mode
  learned.getD (s.seed 3 mode)

/-! ### Events to the sequencers (R187 to R189) -/

/-- Before in a sequencer's order: trigger time, then source code (R189). -/
def TEvent.le (a b : TEvent) : Bool := a.time < b.time || a.time == b.time && a.src ≤ b.src

/-- An event into its place; equal ones keep their order of arrival. -/
def insertEvent (e : TEvent) : List TEvent → List TEvent
  | [] => [e]
  | f :: q => if f.le e then f :: insertEvent e q else e :: f :: q

/-- The channel takes events: it is in a roll and not STOPPED (R194). -/
def State.listens (s : State) (n : Nat) : Bool := s.chState n != chStopped && s.on (CAP.CHn_STATUS.IN_ROLL n)

/-- Time `t` lies before the boundary of a stop or roll end that is on its way to channel `n` (R194, R244). -/
def State.beforeStop (s : State) (n t : Nat) : Bool := match (s.cch n).stopAt with
  | some (_, b) => decide (t < b)
  | none => true

/-- An event presented to the sequencer of lead channel `n`: nothing comes of one whose trigger time falls before the channel's start or
the roll's, or at or after the boundary of its stop (R194). -/
def State.present (s : State) (n : Nat) (e : TEvent) : State :=
  if s.isLead n && s.listens n && decide ((s.tch n).since ≤ e.time) && s.beforeStop n e.time then
    s.modTrg n (fun t => { t with queue := insertEvent e t.queue }) else s

/-- An event presented to every sequencer (R187). -/
def State.presentAll (s : State) (e : TEvent) : State := (List.range 8).foldl (fun s n => s.present n e) s

/-! ### Stamps on their way (R165, R189) -/

/-- Record of stamp input `i`. -/
def State.tin (s : State) (i : Nat) : TdcIn := s.tdc.ins.getD i {}

/-- Record of stamp input `i` changed. -/
def State.modIn (s : State) (i : Nat) (f : TdcIn → TdcIn) : State := { s with tdc := { s.tdc with ins := s.tdc.ins.modify i f } }

/-- A multi-phase time: `2,048 * p + 1,024` after the tick (R165). -/
def coarseTime (tick phase : Nat) : Nat := tick * 65536 + 2048 * phase + 1024

/-- The time of a residue cell by multi-phase only (R165). -/
def Residue.coarse (r : Residue) : Nat := coarseTime r.tick r.phase

/-- A time less the delay of input `i` (R159), modulo the 80 bits of TB. -/
def State.lessDelay (s : State) (i t : Nat) : Nat :=
  ((((t : Int) - s.rdS (TDC.INi_CTL.DELAY i) * 64) % ((2 : Int) ^ 80))).toNat

/-- The trigger source of a stamp input, if it is one (R187). -/
def stampSource (i : Nat) : Option Nat := if 32 ≤ i ∧ i < 64 then some (i - 24) else none

/-- The event of a stamp to every sequencer (R187, R188). -/
def State.stampEvent (s : State) (i t : Nat) (fallback : Bool) : State := match stampSource i with
  | some src => s.presentAll { time := t, src := src, fallback := fallback }
  | none => s

/-- The conversion of a residue cell lags: its event is 46 ticks old (R189). -/
def State.lags (s : State) (r : Residue) : Bool := decide (r.tick + 46 < s.ticks)

/-- Stamped events not converted within 46 ticks go to the sequencers with their multi-phase time (R189). -/
def State.presentLagging (s : State) : State :=
  (List.range 64).foldl (fun s i =>
    (s.tin i).cells.foldl (fun s r =>
      if !r.sent && s.lags r then
        let s := s.modIn i (fun x => { x with cells := x.cells.map (fun y => if y = r then { y with sent := true } else y) })
        s.stampEvent i (s.lessDelay i r.coarse) true
      else s) s) s

/-! ### TRGOUT (R207 to R209) -/

/-- A pulse of TRGOUT `k` from tick `at_` on; in IDLE and ACTIVE only (R209). One that begins while the output is high extends it to
WIDTH ticks after its own start (R208). -/
def State.pulse (s : State) (k at_ : Nat) : State :=
  if s.up then
    ({ s with trg := { s.trg with pulse := s.trg.pulse.modify k (fun l =>
      l.filter (fun (p : Nat × Nat) => decide (s.ticks < p.2)) ++ [(at_, at_ + s.rd (TRG.OUTk_CTL.WIDTH k))]) } }).count
      (TRG.OUTk_STATUS.PULSES k) (TRG.OUTk_STATUS.SAT k) 1
  else s

/-- A pulse of TRGOUT `k` is under way. -/
def State.pulsing (s : State) (k : Nat) : Bool :=
  (s.trg.pulse.getD k []).any (fun (p : Nat × Nat) => decide (p.1 ≤ s.ticks) && decide (s.ticks < p.2))

/-- Pulses of every TRGOUT whose source is `src` with index `n`, from tick `at_`. -/
def State.pulses (s : State) (src n at_ : Nat) : State :=
  (List.range 4).foldl (fun s k =>
    if s.rd (TRG.OUTk_CTL.SOURCE k) = src ∧ s.rd (TRG.OUTk_CTL.INDEX k) = n then s.pulse k at_ else s) s

/-- Committed triggers whose tick has come make their pulses, by the settings at that tick (R208). -/
def State.commitPulses (s : State) : State :=
  let due := s.trg.commits.filter (fun c => decide (c.2 ≤ s.ticks))
  if due.isEmpty then s
  else due.foldl (fun s c => s.pulses 2 c.1 c.2)
    { s with trg := { s.trg with commits := s.trg.commits.filter (fun c => decide (s.ticks < c.2)) } }

/-- A committed trigger of channel `n` in tick `t` drives TRGOUT 50 ticks later (R208). -/
def State.pulseCommit (s : State) (n t : Nat) : State :=
  ({ s with trg := { s.trg with commits := s.trg.commits ++ [(n, t + 50)] } } : State).commitPulses

/-- The level at the ball of TRGOUT `k` (R207 to R209). -/
def State.trgOut (s : State) (k : Nat) : Bool :=
  let src := s.rd (TRG.OUTk_CTL.SOURCE k)
  let idx := s.rd (TRG.OUTk_CTL.INDEX k)
  let inv := s.on (TRG.OUTk_CTL.INVERT k)
  let bypass := s.trg.trgin.testBit idx
  if s.dev = devStart ∨ s.dev = devHalted then false
  else if s.dev = devDark then (src == 3 && bypass != inv)
  else if s.ticks < s.trg.lowUntil.getD k 0 then false
  else
    let raw := match src with
      | 1 => s.pulsing k
      | 2 => s.pulsing k
      | 3 => bypass
      | 4 => s.chState idx == chArmed
      | _ => false
    raw != inv

/-- TRGOUT_PULSE_END (R208): a pulse ends after WIDTH ticks. -/
def execTrgoutPulseEnd (k : Nat) (s : State) : Host.Outcome State Fault Refusal :=
  .next { s with trg := { s.trg with pulse := s.trg.pulse.modify k (fun l => l.filter (fun (p : Nat × Nat) => decide (s.ticks < p.2))) } }

/-! ### Detector events -/

/-- The waiting firing of channel `n` becomes an event, `next` being the sample after it, if one came (R201, R203,
R204, R207). -/
def State.fireNow (s : State) (n : Nat) (next : Option (Int × Bool)) : State :=
  match (s.tch n).det.wait with
  | none => s
  | some (k, tk, v, hs) =>
    let y := fun (i : Nat) => (hs.getD i (hs.getLastD (v, true))).1 - v
    let bad := hs.length < 3 || hs.any (·.2) || (match next with | some (_, o) => o | none => true)
    let y2 := match next with | some (x, _) => x - v | none => y 0
    let (raw, fb) := interpolate (y 2) (y 1) (y 0) y2 bad
    let phi := curvePhase (s.trgCurve n) raw
    let t := (tk : Int) + divHalfEven ((phi : Int) * s.rd TB.SCLK_REF.RATIO) ((s.posPerSc : Int) * 2 ^ 30)
    let s := s.modTrg n (fun c => { c with det := { c.det with wait := none } })
    let s := if s.rd TRG.CURVE_STATUS.STATUS = 1 ∧ s.rd TRG.CURVE_CTL.CHANNEL = n ∧ ¬ fb
        ∧ s.rd TRG.CURVE_STATUS.COLLECTED < 4194304 then
        ({ s with trg := { s.trg with hist := SMap.set 0 s.trg.hist raw (SMap.get 0 s.trg.hist raw + 1) } }).wr
          TRG.CURVE_STATUS.COLLECTED (s.rd TRG.CURVE_STATUS.COLLECTED + 1)
      else s
    let s := s.pulses 1 n s.ticks
    s.presentAll ⟨t.toNat, n, false, some k, phi, fb⟩

/-- A valid sample `x` of position `pos` reaches the detector of lead channel `n`. -/
def State.detect (s : State) (n pos : Nat) (x : Int) (ovr : Bool) : State :=
  let s := s.fireNow n (some (x, ovr))
  let (d, fires) := Det.step (s.detCfg n) (s.tch n).det pos x
  let d := { d with hist := match d.hist with | (v, _) :: t => (v, ovr) :: t | [] => [] }
  let sc := pos / s.posPerSc
  match fires with
  | [] => s.modTrg n (fun c => { c with det := d })
  | v :: more =>
    if d.lastSc = some sc then
      (s.modTrg n (fun c => { c with det := d })).count (TRG.CHn_MERGED.COUNT n) (TRG.CHn_MERGED.SAT n) fires.length
    else
      let d := { d with wait := some (pos, s.posTime (pos - 1), v, d.hist), lastSc := some sc }
      (s.modTrg n (fun c => { c with det := d })).count (TRG.CHn_MERGED.COUNT n) (TRG.CHn_MERGED.SAT n) more.length

/-- An invalid sample: the waiting firing falls back, every crossing is unarmed (R185, R201). -/
def State.detectInvalid (s : State) (n : Nat) : State :=
  (s.fireNow n none).modTrg n (fun c => { c with det := { c.det.unarm with hist := [] } })

/-- Channel `n`'s samples break off: a waiting firing becomes an event without the sample after it, and the detector begins anew (R185,
R201). -/
def State.detectAnew (s : State) (n : Nat) : State :=
  (s.fireNow n none).modTrg n (fun c => { c with det := { c.det.unarm with hist := [], lastSc := none } })

/-! ### Sequencer tables (R190 to R193) -/

/-- The table of channel `n`'s sequencer, if the image holds it. -/
def State.seqTable (s : State) (n : Nat) : Option (List Nat) := match s.image with
  | none => none
  | some im => im.table 1 (s.rd (TRG.CHn_SEQ.TABLE n))

/-- Compare value of a counter. -/
def seqCompare (t : List Nat) (k : Nat) : Nat := le t (0x28 + 4 * k) 4
/-- Period of a timer in ticks. -/
def seqPeriod (t : List Nat) (k : Nat) : Nat := le t (8 + 8 * k) 8
/-- Transition `j` of state `st`: mask, qualifier, next state, flags, actions. -/
def seqEntry (t : List Nat) (st j : Nat) : Nat × Nat × Nat × Nat × Nat :=
  let o := 0x40 + 16 * (4 * st + j)
  (le t o 8, le t (o + 8) 2, le t (o + 10) 1, le t (o + 11) 1, le t (o + 12) 4)

/-- A table holds to R190 and R193. -/
def seqValid (t : List Nat) : Bool :=
  let n := le t 4 1
  t.length == 1088 && le t 0 2 == 1 && le t 2 2 == 1088 && 1 ≤ n && n ≤ 16 && le t 5 1 < n && zeroAt t 6 2 &&
  (List.range 4).all (fun k => 1 ≤ seqPeriod t k && seqPeriod t k < 2 ^ 48) &&
  (List.range 2).all (fun k => 1 ≤ seqCompare t k) && zeroAt t 0x30 16 &&
  (List.range 64).all (fun e =>
    let (m, q, nx, fl, ac) := seqEntry t (e / 4) (e % 4)
    let kind := q % 256
    let arg := bits q 8 6
    fl < 2 && m < 2 ^ 49 && !q.testBit 14 && bits ac 2 2 == 0 && ac < 65536 &&
    (kind = 0 || (kind = 1 || kind = 2) && arg < 4 || kind = 3 && arg < 2 || (kind = 4 || kind = 6) && arg < 8 ||
      kind = 5 && arg < 24) &&
    (fl = 0 || (nx < n && e / 4 < n)))

/-- The latest stamp of an input earlier than `t` is a rising edge; false where its EDGE is not BOTH. An edge whose conversion lags counts
by its multi-phase time (R189, R191). -/
def State.stampHigh (s : State) (i t : Nat) : Bool :=
  s.rd (TDC.INi_CTL.EDGE i) == 3 &&
    (match (s.tin i).cells.reverse.find? (fun r => decide (s.lessDelay i r.coarse < t)) with
      | some r => !r.falling
      | none => match (s.tin i).latest.find? (fun p => p.1 < t) with
        | some p => p.2
        | none => false)

/-- Valid sample `x` of position `pos` of channel `m` noted where it changes sides of level A; what lies more than 256 ticks back is
beyond the reach of any event still on its way, but for the last (R189, R191). -/
def State.noteAbove (s : State) (m pos : Nat) (x : Int) : State :=
  let b := decide (toSigned 16 ((s.tch m).inForce.getD 0 0) ≤ x)
  if (s.tch m).above.head?.map Prod.snd = some b then s
  else s.modTrg m (fun c =>
    let t := s.posTime pos
    let l := (t, b) :: c.above
    let near := fun (p : Nat × Bool) => decide (t < p.1 + 256 * 65536)
    { c with above := l.takeWhile near ++ (l.dropWhile near).take 1 })

/-- DET_ABOVE for channel `m` at an event of time `t`: its last sample at or before the event, where it had left STOPPED and not returned
to it by then (R191). -/
def State.detAbove (s : State) (m t : Nat) : Bool :=
  s.isLead m && s.chState m != chStopped && s.beforeStop m t &&
    (match (s.tch m).above.find? (fun p => decide (p.1 ≤ t)) with
      | some p => p.2
      | none => false)

/-- A qualifier of R191 at an event of time `t`. -/
def State.qualifies (s : State) (n : Nat) (tab : List Nat) (q t : Nat) : Bool :=
  let arg := bits q 8 6
  let tm := (s.tch n).timers.getD arg {}
  let r := match q % 256 with
    | 0 => true
    | 1 => tm.on && !tm.expired
    | 2 => tm.expired
    | 3 => decide (seqCompare tab arg ≤ (if arg = 0 then (s.tch n).c0 else (s.tch n).c1))
    | 4 => s.stampHigh (32 + arg) t
    | 5 => s.stampHigh (40 + arg) t
    | 6 => s.detAbove arg t
    | _ => false
  r != q.testBit 15

/-- The transition an event takes: the first of the state's that names its source and qualifies (R192). -/
def State.transition (s : State) (n : Nat) (tab : List Nat) (e : TEvent) : Option (Nat × Nat × Nat) :=
  ((List.range 4).find? (fun j =>
    let (m, q, _, fl, _) := seqEntry tab (s.rd (TRG.CHn_STATUS.STATE n)) j
    fl.testBit 0 && m.testBit e.src && s.qualifies n tab q e.time)).map (fun j =>
      let (_, _, nx, _, ac) := seqEntry tab (s.rd (TRG.CHn_STATUS.STATE n)) j
      (j, nx, ac))

/-- Timer `k` of channel `n` stopped or started: an expiry not yet taken is cancelled (R192). -/
def State.setTimer (s : State) (n k : Nat) (tm : Timer) : State :=
  s.modTrg n (fun c => { c with timers := c.timers.set k tm, queue := c.queue.filter (fun e => e.src != 41 + k) })

/-- Timer `k` of channel `n` stopped: it runs no more, and whether it has expired since it was last started stays (R191, R192). -/
def State.stopTimer (s : State) (n k : Nat) : State :=
  s.setTimer n k { (s.tch n).timers.getD k {} with on := false, queued := false }

/-- The expiries of running timers up to time `t` presented (R189, R192). -/
def State.expireTimers (s : State) (n t : Nat) : State :=
  match s.seqTable n with
  | none => s
  | some tab => (List.range 4).foldl (fun s k =>
    let tm := (s.tch n).timers.getD k {}
    let due := tm.start + seqPeriod tab k * 65536
    if tm.on && !tm.queued && due ≤ t then
      (s.modTrg n (fun c => { c with timers := c.timers.set k { tm with queued := true } })).present n { time := due, src := 41 + k }
    else s) s

/-- SEQUENCER_TIMER_EXPIRY (R188, R192). -/
def execSequencerTimerExpiry (n k : Nat) (s : State) : Host.Outcome State Fault Refusal :=
  .next (match s.seqTable n with
    | none => s
    | some tab =>
      let tm := (s.tch n).timers.getD k {}
      let due := tm.start + seqPeriod tab k * 65536
      if n < 8 ∧ k < 4 ∧ s.isLead n ∧ tm.on ∧ ¬ tm.queued ∧ due ≤ s.tb ∧ s.listens n then
        (s.modTrg n (fun c => { c with timers := c.timers.set k { tm with queued := true } })).present n
          { time := due, src := 41 + k }
      else s)

/-- Actions of a transition but COMMIT: STOP, START, CLEAR, COUNT, then RESET or the next state (R192). -/
def State.seqActions (s : State) (n : Nat) (tab : List Nat) (e : TEvent) (nx ac : Nat) : State :=
  let s := (List.range 4).foldl (fun s k => if ac.testBit (8 + k) then s.stopTimer n k else s) s
  let s := (List.range 4).foldl (fun s k =>
    if ac.testBit (4 + k) then s.setTimer n k { on := true, start := e.time } else s) s
  let s := s.modTrg n (fun c => { c with
    c0 := if ac.testBit 14 then 0 else c.c0
    c1 := if ac.testBit 15 then 0 else c.c1 })
  if ac.testBit 1 then
    -- RESET: initial state, timers stopped, counters cleared; no COUNT event
    let s := (List.range 4).foldl (fun s k => s.stopTimer n k) s
    (s.modTrg n (fun c => { c with c0 := 0, c1 := 0 })).wr (TRG.CHn_STATUS.STATE n) (le tab 5 1)
  else
    let b0 := (s.tch n).c0
    let b1 := (s.tch n).c1
    let s := s.modTrg n (fun c => { c with
      c0 := if ac.testBit 12 then satInc 32 c.c0 1 else c.c0
      c1 := if ac.testBit 13 then satInc 32 c.c1 1 else c.c1 })
    let s := if b0 < seqCompare tab 0 ∧ (s.tch n).c0 = seqCompare tab 0 then s.present n { time := e.time, src := 47 } else s
    let s := if b1 < seqCompare tab 1 ∧ (s.tch n).c1 = seqCompare tab 1 then s.present n { time := e.time, src := 48 } else s
    s.wr (TRG.CHn_STATUS.STATE n) nx

/-- The sequencer of channel `n` at its initial state, timers stopped, counters, holdoff and trigger count cleared
(R194): it takes events from now on, and every crossing is unarmed (R185). The curve in force is the newest learned one of the mode
(R204). -/
def State.seqReset (s : State) (n : Nat) : State :=
  let init := match s.seqTable n with
    | some t => if s.rd (TRG.CHn_SEQ.MODE n) = 1 then le t 5 1 else 0
    | none => 0
  let mode := s.rd ADC.MODE.ACTIVE
  let s := s.modTrg n (fun c => { c with
    timers := List.replicate 4 {}, c0 := 0, c1 := 0, hold := {}, queue := [], since := s.tb, rearms := []
    oldCurves := c.oldCurves.filter (fun o => o.1 != mode), det := c.det.unarm })
  ((s.wr (TRG.CHn_STATUS.STATE n) init).put (TRG.CHn_STATUS.HOLDOFF n) false).wr (TRG.CHn_COUNT.COUNT n) 0

/-! ### Holdoff (R196, R197) -/

/-- The time from which a holdoff has ended, once that is known; a COUNT holdoff ends with the action it counts last (R196). -/
def Holdoff.over (h : Holdoff) : Option Nat := match h.kind with
  | 1 => some (h.until_.getD 0)
  | 2 => if h.left = 0 then some 0 else none
  | 3 => h.until_
  | _ => some 0

/-- A holdoff is running at trigger time `t`. -/
def Holdoff.runs (h : Holdoff) (t : Nat) : Bool := match h.kind with
  | 1 => match h.until_ with | some u => t < u | none => false
  | 2 => h.left != 0
  | 3 => match h.until_ with | some u => t < u | none => true
  | _ => false

/-- The holdoff a trigger committed at `t` begins, from the values in force. One of kind REARM ends with the first write of REARM at or
after `t`; `rearms` holds those that have come already, newest first (R196). -/
def holdoffOf (v : List Nat) (t : Nat) (rearms : List Nat) : Holdoff := match v.getD 6 0 with
  | 1 => if v.getD 7 0 = 0 then {} else ⟨1, some (t + v.getD 7 0 * 65536), 0⟩
  | 2 => ⟨if v.getD 8 0 = 0 then 0 else 2, none, v.getD 8 0⟩
  | 3 => ⟨3, rearms.reverse.find? (fun r => decide (t ≤ r)), 0⟩
  | _ => {}

/-- The values that were in force for channel `n` at time `t` (R196). -/
def State.forceAt (s : State) (n t : Nat) : List Nat :=
  match ((s.tch n).before.takeWhile (fun p => decide (t < p.1))).getLast? with
  | some p => p.2
  | none => (s.tch n).inForce

/-- HOLDOFF_END (R196): a TIME holdoff whose duration has elapsed. -/
def execHoldoffEnd (n : Nat) (s : State) : Host.Outcome State Fault Refusal :=
  .next (match (s.tch n).hold with
    | ⟨1, some u, _⟩ => if u ≤ s.tb ∧ s.on (TRG.CHn_STATUS.HOLDOFF n) then s.put (TRG.CHn_STATUS.HOLDOFF n) false else s
    | _ => s)

/-! ### Settings (R183, R186, R214) -/

/-- Values that the requested registers of channel `n` hold, in the order of `TrgCh.inForce`. -/
def State.trgRequested (s : State) (n : Nat) : List Nat :=
  [s.rd (TRG.CHn_LEVEL.A n), s.rd (TRG.CHn_LEVEL.B n), s.rd (TRG.CHn_HYST.HA n), s.rd (TRG.CHn_HYST.HB n),
   s.rd (TRG.CHn_T1.SAMPLES n), s.rd (TRG.CHn_T2.SAMPLES n), s.rd (TRG.CHn_HOLD.KIND n),
   s.rd (TRG.CHn_HOLD_TIME_LO.TICKS n) + s.rd (TRG.CHn_HOLD_TIME_HI.TICKS n) * 2 ^ 32, s.rd (TRG.CHn_HOLD_COUNT.COUNT n)]

/-- Type, polarity, condition and values stand with R183 and R214. -/
def trgFits (type pol cond : Nat) (v : List Nat) : Bool :=
  let a := toSigned 16 (v.getD 0 0)
  let b := toSigned 16 (v.getD 1 0)
  let level := fun (l : Int) => decide (-2048 ≤ l) && decide (l ≤ 2047)
  type < 7 && pol < 3 && cond < 3 && level a && level b && (!(type = 2 || type = 4 || type = 5 || type = 6) || b < a) &&
    (cond != 2 || v.getD 4 0 ≤ v.getD 5 0)

/-- A commit of channel `n` would be refused (R186). -/
def State.trgCommitBad (s : State) (n : Nat) : Bool :=
  !trgFits (s.rd (TRG.CHn_DET.TYPE n)) (s.rd (TRG.CHn_DET.POL n)) (s.rd (TRG.CHn_DET.COND n)) (s.trgRequested n)

/-- Committed values of channel `n` come into force; the crossings return to unarmed where a level, hysteresis or width
is new (R186). -/
def State.trgApply (s : State) (n : Nat) : State := match (s.tch n).committed with
  | none => s
  | some v =>
    let new := (s.tch n).inForce.take 6 != v.take 6
    (s.modTrg n (fun c => { c with
      inForce := v, committed := none, before := ((s.tb, c.inForce) :: c.before).take 8, det := if new then c.det.unarm else c.det })).put (TRG.CHn_STATUS.PENDING n) false

/-- TRG_SETTINGS_APPLY (R186): at the first slice clock with no frame of the channel open. -/
def execTrgSettingsApply (n : Nat) (s : State) : Host.Outcome State Fault Refusal :=
  .next (if n < 8 ∧ s.isLead n ∧ ¬ s.on (CAP.CHn_STATUS.OPEN_FRAME n) ∧ s.up then s.trgApply n else s)

/-- Values of trigger fields refused as such (R183, R186, R212, R214). -/
def TRG.valueBad (s : State) (n : Fld → Nat) (f : Fld) : Bool :=
  (List.range 4).any (fun k =>
    (f = TRG.OUTk_CTL.SOURCE k && 4 < n f) || (f = TRG.OUTk_CTL.INDEX k && 7 < n f) || (f = TRG.OUTk_CTL.WIDTH k && n f = 0)) ||
  (List.range 8).any (fun c =>
    ((f = TRG.CHn_DET.TYPE c || f = TRG.CHn_DET.POL c || f = TRG.CHn_DET.COND c) && (!trgFits (n (TRG.CHn_DET.TYPE c)) (n (TRG.CHn_DET.POL c)) (n (TRG.CHn_DET.COND c)) (s.tch c).inForce)) ||
    (f = TRG.CHn_SEQ.TABLE c && (31 < n f || (match s.image with
      | some im => (im.table 1 (n f)).isNone
      | none => true))) ||
    (f = TRG.CHn_CTL.COMMIT c && n f = 1 && s.trgCommitBad (s.lead c)))

/-- State tests of the block: the learning channel is written only while no run is on (R212). -/
def TRG.stateBad (s : State) (f : Fld) : Bool := f = TRG.CURVE_CTL.CHANNEL && s.on TRG.CURVE_CTL.LEARN

/-! ### Learning (R204) -/

/-- A learning run starts. -/
def State.learnStart (s : State) : State :=
  (({ s with trg := { s.trg with hist := [] } }.put TRG.CURVE_CTL.LEARN true).wr TRG.CURVE_STATUS.COLLECTED 0).wr
    TRG.CURVE_STATUS.STATUS 1

/-- A learning run ends without a curve: failed, or aborted by a mode change. -/
def State.learnStop (s : State) (reject : Bool) : State :=
  let s := ({ s with trg := { s.trg with hist := [] } }.put TRG.CURVE_CTL.LEARN false).wr TRG.CURVE_STATUS.STATUS 3
  if reject then s.countPlain TRG.CURVE_STATUS.REJECTS 1 else s

/-- Events of the histogram below `m`. -/
def histBelow (h : SMap Nat) (m : Nat) : Nat := ((h.filter (fun p => p.1 < m)).map Prod.snd).sum

/-- CURVE_LEARN_COMPLETE (R204): after 4,194,304 events the curve is judged and kept or discarded. -/
def execCurveLearnComplete (s : State) : Host.Outcome State Fault Refusal :=
  .next (
    if s.rd TRG.CURVE_STATUS.STATUS = 1 ∧ s.rd TRG.CURVE_STATUS.COLLECTED = 4194304 then
      let mode := s.rd ADC.MODE.ACTIVE
      let c := (List.range 256).map (fun i =>
        (divHalfEven (65536 * (histBelow s.trg.hist (256 * i) : Int)) 4194304).toNat)
      let sd := s.seed 3 mode
      let near := (List.range 256).all (fun i => ((c.getD i 0 : Int) - sd.getD i 0).natAbs ≤ 1024)
      if curveValid c && near then
        let old := s.newestCurve mode
        let s := (List.range 8).foldl (fun s n => s.modTrg n (fun t =>
          if t.oldCurves.any (fun o => o.1 = mode) then t else { t with oldCurves := (mode, old) :: t.oldCurves })) s
        let keep := (s.led.curves.filter (fun e => e.1 = mode)).take 31
        let rest := s.led.curves.filter (fun e => e.1 != mode)
        let s := { s with
          led := { s.led with curves := (mode, c) :: keep ++ rest }
          trg := { s.trg with hist := [] } }
        let s := s.auditDevice 14 mode (s.rd TRG.CURVE_CTL.CHANNEL) 0 0
        (s.put TRG.CURVE_CTL.LEARN false).wr TRG.CURVE_STATUS.STATUS 2
      else s.learnStop true
    else s)

end Sys2Proof.Machine
end

