-- ==== Sys2Proof/Machine/Cap.lean ====
section
/-! DEFINITION. Capture memory, pages, header slots, frame tables, holders and release, frame headers and data bytes, the
Q0 reservation and the arbiter (07_capture_memory_and_rolls.md). Rolls and the life of a frame stand in Frames.lean. -/

namespace Sys2Proof.Machine

/-! ### Records -/

/-- A frame table. -/
def State.table (s : State) (t : Nat) : List Frame := if t = 0 then s.cap.tabA else s.cap.tabB

/-- A frame table replaced. -/
def State.setTable (s : State) (t : Nat) (l : List Frame) : State :=
  { s with cap := if t = 0 then { s.cap with tabA := l } else { s.cap with tabB := l } }

/-- Frame `i` of a table changed. -/
def State.modFrame (s : State) (t i : Nat) (f : Frame → Frame) : State := s.setTable t ((s.table t).modify i f)

/-- The table of the open or last roll (R217). -/
def State.curTable (s : State) : Nat := s.rd CAP.ROLL_STATUS.TABLE

/-- The roll number of the open or last roll. -/
def State.rollNumber (s : State) : Nat := s.rd CAP.ROLL_LO.NUMBER + s.rd CAP.ROLL_HI.NUMBER * 2 ^ 32

/-! ### Formats -/

/-- Bytes of a block of 32 samples (R234). -/
def blockBytes (fmt : Nat) : Nat := if fmt = 1 then 48 else if fmt = 2 then 64 else 128

/-- Bytes of `n` samples of a format, `n` a multiple of 2. -/
def sampleBytes (fmt n : Nat) : Nat := if fmt = 1 then n * 3 / 2 else if fmt = 2 then n * 2 else n * 4

/-- raw12: two samples in three bytes (R64). -/
def packRaw12 : List Nat → List Nat
  | a :: b :: ws => [a % 256, a / 256 % 16 + b % 16 * 16, b / 16 % 256] ++ packRaw12 ws
  | [a] => [a % 256, a / 256 % 16]
  | [] => []

/-- The bytes of output words, oldest first (R64, R65, R271, R273). -/
def packWords (fmt : Nat) (ws : List Nat) : List Nat :=
  if fmt = 1 then packRaw12 ws
  else if fmt = 2 then (ws.map (leBytes 2)).flatten else (ws.map (leBytes 4)).flatten

/-! ### Where bytes lie (R215) -/

/-- Stripe of byte address `a`: 1,024 bytes, what one slot moves. -/
def stripeOf (a : Nat) : Nat := a / 1024

/-- Die of byte address `a`. -/
def dieOf (a : Nat) : Nat := stripeOf a % 16

/-- 32-bit word within its die of byte address `a`. -/
def wordOf (a : Nat) : Nat := stripeOf a / 16 * 256 + a % 1024 / 4

/-! ### Pages (R216, R222, R223) -/

/-- Pages of the pool: those below the staging area and the accumulation region (R216). -/
def State.poolSize (s : State) : Nat := 8128 - s.rd CAP.REGIONS.ACC

/-- Pages a stored block lies in. -/
def Blk.pages (b : Blk) : List Nat := if b.next / 65536 = b.addr / 65536 then [b.addr / 65536] else [b.addr / 65536, b.next / 65536]

/-- A frame pins its pages: it is OPEN or CLOSED and kept (R222). -/
def Frame.pins (f : Frame) : Bool := f.state == 1 || f.state == 2

/-- Pages the writer of channel `n` holds: those of its last pretrigger_count samples, of a frame that waits for its number, and the one it
is writing (R222, R233). -/
def State.heldPages (s : State) (n : Nat) : List Nat :=
  let c := s.cap.ch.getD n {}
  let pre := c.outN - s.rd (CAP.CHn_PRE.SAMPLES n)
  let from_ := match c.openF with
    | some f => if f.numbered then pre else min f.first pre
    | none => pre
  let writing := fun (b : Blk) => c.outN < b.index + 32
  ((c.blocks.filter (fun b => from_ < min c.outN (b.index + 32) || writing b)).map Blk.pages).flatten ++ c.page.toList

/-- Pages that are not free: held, pinned, header, spill and leaf-input pages (R216, R478). -/
def State.busyPages (s : State) : List Nat :=
  ((List.range 8).map s.heldPages).flatten
    ++ ((s.cap.tabA ++ s.cap.tabB).map (fun f => if f.pins then (f.blocks.map Blk.pages).flatten else [])).flatten
    ++ s.cap.headers.map HeaderPage.page ++ s.cap.spill ++ s.cap.leaf

/-- Number of free pages. -/
def State.freePages (s : State) : Nat :=
  let size := s.poolSize
  size - ((s.busyPages.filter (· < size)).eraseDups).length

/-- The first page from `p` on, cyclically in a pool of `size`, that is not among `busy`. -/
def nextFree (busy : List Nat) (size : Nat) : Nat → Nat → Option Nat
  | 0, _ => none
  | fuel + 1, p => if busy.contains p then nextFree busy size fuel (if p + 1 < size then p + 1 else 0) else some p

/-- The free count after a change: the low-water mark, and CAP_POOL_LOW below the warning level, armed again above twice
the level (R243, R246). -/
def State.poolCheck (s : State) : State :=
  let f := s.freePages
  let lvl := s.rd CAP.POOL_WARN.LEVEL
  let s := if f < s.rd CAP.POOL_WARN.LOW_WATER then s.wr CAP.POOL_WARN.LOW_WATER f else s
  if f < lvl ∧ s.cap.lowArmed then { s with cap := { s.cap with lowArmed := false } }.event 0x0212 []
  else if 2 * lvl < f then { s with cap := { s.cap with lowArmed := true } } else s

/-- Pages that a commit still in the alignment delay may pin, though no longer held (R189, R195). -/
def State.lagPages (s : State) : List Nat := (s.cap.ch.map (fun c => (c.blocks.map Blk.pages).flatten)).flatten

/-- The next free page at or after the allocation pointer (R222). While another is free, none is taken that a commit still in the
alignment delay may pin (notes/assumptions/107.md). -/
def State.nextPage (s : State) : Option Nat :=
  let size := s.poolSize
  let busy := s.busyPages
  let at_ := if s.cap.allocPtr < size then s.cap.allocPtr else 0
  if size = 0 then none
  else match nextFree (busy ++ s.lagPages) size (busy.length + s.lagPages.length + 1) at_ with
    | some p => some p
    | none => nextFree busy size (busy.length + 1) at_

/-- The allocation pointer moved past page `p`. -/
def State.tookPage (s : State) (p : Nat) : State :=
  { s with cap := { s.cap with allocPtr := if p + 1 < s.poolSize then p + 1 else 0 } }

/-! ### Header slots (R223) -/

/-- A header slot: its page and place, or none where a page is needed and none is free. -/
def State.headerSlot (s : State) : Option (Nat × State) :=
  match s.cap.headers.getLast? with
  | some h =>
    if h.used < 512 then
      some (h.page * 512 + h.used, { s with cap := { s.cap with
        headers := s.cap.headers.dropLast ++ [{ h with used := h.used + 1, live := h.live + 1 }] } })
    else match s.nextPage with
      | none => none
      | some p => some (p * 512, (({ s with cap := { s.cap with headers := s.cap.headers ++ [HeaderPage.mk p 1 1] } }).tookPage p).poolCheck)
  | none => match s.nextPage with
    | none => none
    | some p => some (p * 512, (({ s with cap := { s.cap with headers := [HeaderPage.mk p 1 1] } }).tookPage p).poolCheck)

/-- The frame of a header slot is released; its page becomes free with the last one. -/
def State.freeSlot (s : State) (slot : Nat) : State :=
  { s with cap := { s.cap with
    headers := (s.cap.headers.map (fun h => if h.page = slot / 512 then { h with live := h.live - 1 } else h)).filter
      (fun h => h.live != 0) } }

/-! ### Holders and release (R222) -/

/-- A CLOSED frame without holders, and not retained, is released. -/
def State.tryRelease (s : State) (t i : Nat) : State := match (s.table t)[i]? with
  | none => s
  | some f =>
    if f.state = 2 ∧ f.holders = [] ∧ ¬ f.retain then
      ((s.modFrame t i (fun f => { f with state := 3 })).freeSlot f.headerSlot).poolCheck
    else s

/-- A holder's claim on a frame ends. -/
def State.dropHolder (s : State) (t i : Nat) (h : Holder) : State :=
  (s.modFrame t i (fun f => { f with holders := f.holders.erase h })).tryRelease t i

/-- A claim added to a frame. -/
def State.addHolder (s : State) (t i : Nat) (h : Holder) : State :=
  s.modFrame t i (fun f => { f with holders := f.holders ++ [h] })

/-- An unreleased frame: OPEN or CLOSED. -/
def State.unreleased (s : State) (t : Nat) : Bool := (s.table t).any Frame.pins

/-! ### Headers (R236 to R238) -/

/-- Bytes 0x00 to 0x57 of a frame's header, with `flags` and `count`. -/
def OpenFrame.head (f : OpenFrame) (channel : Nat) : List Nat :=
  leBytes 2 0xF5A7 ++ [1, 16] ++ leBytes 4 f.flags ++ leBytes 6 f.roll ++ [channel, f.mode] ++ leBytes 4 f.number
    ++ [f.format, f.range, 0, 0] ++ leBytes 8 (f.trigTime / 65536) ++ leBytes 2 (f.trigTime % 65536)
    ++ [f.trigSource, f.seqState] ++ leBytes 4 f.trigCount ++ leBytes 8 (f.firstTime / 65536)
    ++ leBytes 2 (f.firstTime % 65536) ++ [0, 0] ++ leBytes 4 f.firstValid ++ leBytes 4 f.got
    ++ leBytes 4 (if f.triggered then f.pre else 0) ++ leBytes 4 f.epoch ++ leBytes 4 f.stepIdx ++ leBytes 2 f.temp
    ++ [f.tbState, 0] ++ leBytes 4 f.ratio ++ leBytes 4 f.delay ++ leBytes 4 f.errFlags

/-- The data bytes of a frame. -/
def OpenFrame.data (f : OpenFrame) : List Nat := packWords f.format f.words.reverse

/-- The digest of a frame: header to 0x57, bit 10 of the flags 0, then the data (R236). -/
def OpenFrame.digest (f : OpenFrame) (channel : Nat) : List Nat := sha256 (f.head channel ++ f.data)

/-- The 128 bytes of a header. -/
def OpenFrame.header (f : OpenFrame) (channel : Nat) (digest : List Nat) (ref : Nat) : List Nat :=
  f.head channel ++ slice digest 0 32 ++ leBytes 8 ref

/-- A header as a delivery presents it: ECC_CORRECTED where the delivery or the scrubber corrected (R242). -/
def deliveredHeader (h : List Nat) (ecc : Bool) : List Nat :=
  if ecc then slice h 0 5 ++ [(h.getD 5 0) ||| 4] ++ (h.drop 6) else h

/-! ### Storage (R218, R219, R222, R234) -/

/-- Bytes of a stored block read from capture memory. -/
def State.readBlk (s : State) (fmt : Nat) (b : Blk) : List Nat :=
  let n := blockBytes fmt
  let here := min n (65536 - b.addr % 65536)
  Memory.read 0 s.cap.mem b.addr here ++ Memory.read 0 s.cap.mem b.next (n - here)

/-- Bytes of a stored block written to capture memory. -/
def State.writeBlk (s : State) (fmt : Nat) (b : Blk) (bs : List Nat) : State :=
  let here := min (blockBytes fmt) (65536 - b.addr % 65536)
  { s with cap := { s.cap with
    mem := Memory.write 0 (Memory.write 0 s.cap.mem b.addr (bs.take here)) b.next (bs.drop here) } }

/-- The data bytes of a stored frame from sample 0, as delivered. -/
def State.frameData (s : State) (f : Frame) : List Nat :=
  let all := (f.blocks.map (s.readBlk f.format)).flatten
  let words : List Nat := (List.range (f.first % 32 + f.samples)).map (fun i =>
    if f.format = 1 then (le all (i * 3 / 2) 2 >>> (i % 2 * 4)) % 4096
    else if f.format = 2 then le all (2 * i) 2 else le all (4 * i) 4)
  packWords f.format (words.drop (f.first % 32))

/-- A place for the block that begins at output `i` of channel `n`: none where a page is needed and none is free. -/
def State.placeBlk (s : State) (n i fmt : Nat) : Option State :=
  let c := s.cch n
  let size := blockBytes fmt
  match c.page with
  | some p =>
    let off := c.offset
    if off + size ≤ 65536 then
      let b : Blk := ⟨i, p * 65536 + off, p * 65536 + off⟩
      if off + size = 65536 then
        some (s.modCap n (fun c => { c with blocks := b :: c.blocks, page := none, offset := 0 }))
      else some (s.modCap n (fun c => { c with blocks := b :: c.blocks, offset := off + size }))
    else match s.nextPage with
      | none => none
      | some q =>
        let b : Blk := ⟨i, p * 65536 + off, q * 65536⟩
        some (((s.modCap n (fun c => { c with
          blocks := b :: c.blocks, page := some q, offset := off + size - 65536 })).tookPage q).poolCheck)
  | none => match s.nextPage with
    | none => none
    | some q =>
      let b : Blk := ⟨i, q * 65536, q * 65536⟩
      some (((s.modCap n (fun c => { c with blocks := b :: c.blocks, page := some q, offset := size })).tookPage q).poolCheck)

/-- The block that ends with the newest output of channel `n` written to memory; missing outputs as 0. -/
def State.storeBlk (s : State) (n fmt : Nat) : State :=
  let c := s.cch n
  match c.blocks with
  | [] => s
  | b :: _ =>
    let ws := ((c.recent.take (c.outN - b.index)).reverse.map Out.word)
    s.writeBlk fmt b (packWords fmt (ws ++ List.replicate (32 - ws.length) 0))

/-- Outputs kept back for a commit that is still in the alignment delay (R189): 48 ticks of outputs at most. -/
def State.lagOutputs (s : State) (n : Nat) : Nat := 48 * s.posPerSc / (s.filP n).ratio + 2

/-- What the writer keeps: the last `pretrigger_count` outputs with those of the alignment delay, and the blocks that hold any of them
or of a frame that waits for its number (R222, R233). -/
def State.trimKept (s : State) (n : Nat) : State :=
  let c := s.cch n
  let keep := s.rd (CAP.CHn_PRE.SAMPLES n) + s.lagOutputs n + 32
  let oldest := match c.openF with
    | some f => if f.numbered then c.outN - keep else min f.first (c.outN - keep)
    | none => c.outN - keep
  let held := c.blocks.filter (fun b => oldest < b.index + 32)
  let s := s.modCap n (fun c => { c with recent := c.recent.take keep, blocks := held })
  if (c.outN - s.rd (CAP.CHn_PRE.SAMPLES n)) % 32 = 0 then s.poolCheck else s

/-- Blocks among those of channel `n` that hold any of outputs `first` to `first + count - 1`, oldest first. -/
def blocksOf (bs : List Blk) (first count : Nat) : List Blk :=
  (bs.filter (fun b => first < b.index + 32 && b.index < first + count)).reverse

/-! ### The Q0 reservation and the hash limit (R20, R221, R223) -/

/-- Twice the bytes of an output of channel `n` (R221). -/
def State.outBytes2 (s : State) (n : Nat) : Nat :=
  let fmt := (s.filP n).format (s.rd (CAP.CHn_CFG.FORMAT n))
  if fmt = 1 then 3 else if fmt = 2 then 4 else 8

/-- Sample byte rate of channel `n` at slice clock `f` Hz, in bytes per second, as numerator and denominator: the output rate, of
a sample rate of `2 g f`, by the bytes per output (R48, R221). -/
def State.byteRate (s : State) (n f : Nat) : Nat × Nat := (2 * s.groupSize * f * s.outBytes2 n, 2 * (s.filP n).ratio)

/-- What channel `n` brings to D of R221: its sample byte rate and, where it is TRIGGERED with dead-time bytes fewer than a header,
the header term of R223. -/
def State.keptRate (s : State) (n f : Nat) : Nat × Nat :=
  let p := s.filP n
  let g := s.groupSize
  let b2 := s.outBytes2 n
  let out := 2 * g * f
  let nd := 256 * g / p.ratio
  if s.rd (CAP.CHn_CFG.KIND n) = 0 ∧ nd * b2 < 256 then
    let len := s.rd (CAP.CHn_LEN.SAMPLES n) + nd
    (out * b2 * len + (256 - nd * b2) * out, 2 * p.ratio * len)
  else s.byteRate n f

/-- f of R221 in Hz: `min (1.001 f_S, 10.0 GHz)`; a start from IDLE takes the measured frequency. -/
def State.rateHz (s : State) : Nat :=
  min ((if s.dev = devIdle then s.rd ADC.SCLK.FREQ_KHZ else s.rd ADC.SCLK_START.FREQ_KHZ) * 1001) 10000000000

/-- A sum of fractions. -/
def addFrac (x y : Nat × Nat) : Nat × Nat := (x.1 * y.2 + y.1 * x.2, x.2 * y.2)

/-- D of R221 in bytes per second, over those of the channels given that keep. -/
def State.demand (s : State) (chs : List Nat) : Nat × Nat :=
  (chs.filter (fun n => s.on (CAP.CHn_CFG.KEEP n))).foldl (fun d n => addFrac d (s.keptRate n s.rateHz)) (0, 1)

/-- r for a demand: one position for each 1.2 GB/s, rounded up (R221). -/
def reservation (d : Nat × Nat) : Nat := ceilDiv d.1 (d.2 * 1200000000)

/-- Channels that stand for an input: the lead channels. -/
def State.leads (s : State) : List Nat := (List.range 8).filter s.isLead

/-- Channels that capture: not STOPPED. -/
def State.capturing (s : State) : List Nat := s.leads.filter (fun n => s.chState n != chStopped)

/-- Byte rate of a LIVE stream of channel `n` with one header for 2^20 samples (R20, R409). -/
def State.liveRate (s : State) (n : Nat) : Nat × Nat :=
  addFrac (s.byteRate n s.rateHz) (2 * s.groupSize * s.rateHz * 128, (s.filP n).ratio * 1048576)

/-- Distinct LIVE streams open, by host, stream id and channel: the parts of a stripe count once (R409). -/
def State.liveStreams (s : State) : List (Nat × Nat × Nat) :=
  ((s.streamsOf kLive).map (fun pt => (s.rd (HPT.Pp_HOST.HOST_ID pt.1), pt.2.id, pt.2.param.getD 0 0))).eraseDups

/-- The hash limit of R20 would be broken with the channels given capturing and `extra` beside the open LIVE streams. -/
def State.hashOver (s : State) (chs : List Nat) (extra : Nat × Nat) : Bool :=
  let d := (s.liveStreams.map (fun l => s.liveRate l.2.2)).foldl addFrac (addFrac (s.demand chs) extra)
  248000000000 * d.2 < d.1

/-- The Q0 registers after a change of what captures; the change of r waits for the group boundary (R221). -/
def State.demandRefresh (s : State) : State :=
  let r := reservation (s.demand s.capturing)
  let s := (List.range 8).foldl (fun s n =>
    s.wr (CAP.CHn_DEMAND.MBPS n) (if s.capturing.contains n then (s.demand [n]).1 / ((s.demand [n]).2 * 1000000) else 0)) s
  { s with cap := { s.cap with nextR := some (min 200 r) } }

/-- r that the current settings require, over every channel they let keep: `CAP.Q0.DEMAND` (R221, R246). -/
def State.settingsDemand (s : State) : Nat := min 4095 (reservation (s.demand s.leads))

/-- Q0_RESERVATION_CHANGE (R221): the change takes effect at a group boundary, where windows 8g begin. -/
def execQ0ReservationChange (s : State) : Host.Outcome State Fault Refusal :=
  .next (match s.cap.nextR with
    | some r => if s.cap.slot = 0 ∧ s.cap.window % 8 = 0 then { s with cap := { s.cap with nextR := none } }.wr CAP.Q0.RESERVED r else s
    | none => s)

/-! ### The arbiter (R224, R225, R240) -/

/-- The class that owns position `p` of window `w`: 0 Q0 samples, 1 Q0 headers, 2 to 6 for Q1 to Q5; and the second
owner of position 31 (R224). -/
def slotOwner (w p : Nat) : Nat × Option Nat :=
  if p = 4 ∨ p = 20 then (2, none)
  else if p = 9 ∨ p = 25 then (3, none)
  else if p = 14 ∨ p = 30 then (4, none)
  else if p = 31 then match w % 4 with
    | 0 => (1, some 5)
    | 1 => (5, none)
    | 2 => (1, some 6)
    | _ => (6, none)
  else (0, none)

/-- Index among the 200 Q0 positions of a group of position `p` of window `w` (R224). -/
def q0Index (w p : Nat) : Nat :=
  w % 8 * 25 + ((List.range p).filter (fun k => (slotOwner 0 k).1 = 0)).length

/-- Position `i` of a group is reserved under `r` (R224). -/
def q0Reserved (i r : Nat) : Bool := i * r / 200 < (i + 1) * r / 200

/-- Bytes the archive mover holds on die, and in the staging area (R370). -/
def Arc.onDie (a : Arc) : Nat := ((a.fifo.filter (fun p => !p.staged)).map Piece.len).sum
@[inherit_doc Arc.onDie] def Arc.staging (a : Arc) : Nat := ((a.fifo.filter Piece.staged).map Piece.len).sum

/-- Tag of a staged stripe that waits for its slot. -/
def stageTag : Nat := 60

/-- The mover reads on: it has a frame and a stripe's room on die, or in the staging area once the stripe staged before it has had its slot
(R370). -/
def State.moverReads (s : State) : Bool :=
  s.arc.job.isSome && (s.arc.onDie + 1024 ≤ 262144 ||
    s.arc.staging + 1024 ≤ 4194304 && !s.cap.reqs.any (fun q => q.tag == stageTag))

/-- A class has a request; class 4 is the archive mover's Q3. -/
def State.wants (s : State) (c : Nat) : Bool :=
  if c = 4 then s.moverReads else s.cap.reqs.any (fun q => q.cls = c && q.stripes != 0)

/-- The class a slot goes to: its owner where it has a request, else in the order of R225, then what is offered
after Q5. -/
def State.slotFor (s : State) : Option Nat :=
  let (o, o2) := slotOwner s.cap.window s.cap.slot
  let own := if o = 0 then q0Reserved (q0Index s.cap.window s.cap.slot) (s.rd CAP.Q0.RESERVED) && s.wants 0 else s.wants o
  if own then some o
  else match o2 with
    | some c => if s.wants c then some c else ([0, 1, 2, 3, 4, 5, 6, 7].find? s.wants)
    | none => [0, 1, 2, 3, 4, 5, 6, 7].find? s.wants

/-- One stripe of a class moved: the requests left, and the one it is of as it stood. -/
def serveReq (c : Nat) : List SlotReq → List SlotReq × Option SlotReq
  | [] => ([], none)
  | q :: qs =>
    if q.cls = c ∧ q.stripes ≠ 0 then
      (if q.stripes = 1 then qs else { q with stripes := q.stripes - 1, addr := q.addr + 1024 } :: qs, some q)
    else
      let (l, r) := serveReq c qs
      (q :: l, r)

/-- A correctable capture-memory error (R240): counted, reported at 1 and at each multiple of 65,536. -/
def State.eccCorrected (s : State) : State :=
  let c := s.rd CAP.ECC.COUNT
  if c = 2 ^ 31 - 1 then s
  else
    let s := s.count CAP.ECC.COUNT CAP.ECC.SAT 1
    if c + 1 = 1 ∨ (c + 1) % 65536 = 0 then s.event 0x0213 [] else s

/-- Place of a request of Q2 among its kind: tile merges and decay sweeps, then stack merges, then snapshot copies (R290). -/
def SlotReq.rank (q : SlotReq) : Nat := if 40 ≤ q.tag then 0 else if 32 ≤ q.tag then 1 else 2

/-- A request behind all of its class but those of a later rank. -/
def insertReq (q : SlotReq) : List SlotReq → List SlotReq
  | [] => [q]
  | r :: l => if r.cls = q.cls ∧ q.cls = 3 ∧ q.rank < r.rank then q :: r :: l else r :: insertReq q l

/-- A request of a class for `k` stripes from byte address `addr` added, to write them or, with `read`, to read them; `tag` names what waits
for them. -/
def State.request (s : State) (c k addr : Nat) (read : Bool := false) (tag : Nat := 0) : State :=
  if k = 0 then s else { s with cap := { s.cap with reqs := insertReq ⟨c, k, addr / 1024 * 1024, read, tag⟩ s.cap.reqs } }

/-- A stored header waits on die for a slot: one slot takes the headers of one stripe (R223, R225). -/
def State.requestHeader (s : State) (addr : Nat) : State :=
  if s.cap.reqs.any (fun q => q.cls == 1 && q.stripes == 1 && stripeOf q.addr == stripeOf addr) then s else s.request 1 1 addr

/-- Requests that carry a tag are still waiting: how many. -/
def State.waitingFor (s : State) (tag : Nat) : Nat := (s.cap.reqs.filter (fun q => q.tag == tag)).length

/-- Requests that carry a tag given up. -/
def State.dropRequests (s : State) (tag : Nat) : State :=
  { s with cap := { s.cap with reqs := s.cap.reqs.filter (fun q => q.tag != tag) } }

/-- Stripes of `n` bytes. -/
def stripesFor (n : Nat) : Nat := ceilDiv n 1024

/-- What waits for the reads of a delivery: a stream's head item, a binding's next part, a cell's DMA request, a word read through I3C. -/
def tagStream (p id : Nat) : Nat := 1000 + 256 * p + id
@[inherit_doc tagStream] def tagBind (c port : Nat) : Nat := 20000 + 16 * c + port
@[inherit_doc tagStream] def tagDma (c : Nat) : Nat := 30000 + c

/-- Reads for a delivery still wait for their slots. -/
def State.capReading (s : State) (tag : Nat) : Bool := s.cap.reqs.any (fun q => q.tag == tag)

/-- An error was corrected in the reads of a delivery so far (R242). -/
def State.readEcc (s : State) (tag : Nat) : Bool := s.cap.eccTags.contains tag

/-- An error was corrected in a read for a delivery, if it is for one (R242, R368). -/
def State.noteEcc (s : State) (tag : Nat) : State :=
  if tag < 1000 || s.readEcc tag then s else { s with cap := { s.cap with eccTags := tag :: s.cap.eccTags } }

/-- A delivery is over, or given up: no read of it waits on. -/
def State.endReads (s : State) (tag : Nat) : State :=
  { s with cap := { s.cap with reqs := s.cap.reqs.filter (fun q => q.tag != tag), eccTags := s.cap.eccTags.filter (· != tag) } }

/-- Byte address at which a frame's data begin. -/
def Frame.startAddr (f : Frame) : Nat := match f.blocks with
  | b :: _ => b.addr
  | [] => f.headerSlot * 128

/-- A frame's header and `n` bytes of its data read in class `c` for a delivery (R225). -/
def State.readFrame (s : State) (c : Nat) (f : Frame) (n tag : Nat) : State :=
  (s.request c 1 (f.headerSlot * 128) true tag).request c (stripesFor n) f.startAddr true tag

/-- A correctable error found by a read at byte address `addr`: counted, reported, and the corrected word written back in a slot offered
after Q5 (R240). -/
def State.corrected (s : State) (addr : Nat) : State := s.eccCorrected.request 7 1 addr

/-- The first page from `p` on that the scrubber reads: held, pinned, or of a region, which lie above the pool (R216, R240). -/
def State.scrubFrom (s : State) (p : Nat) : Nat :=
  if s.poolSize ≤ p then p else ((s.busyPages.filter (p ≤ ·)).foldl min s.poolSize)

/-- The byte address the scrubber reads next. -/
def State.scrubAddr (s : State) : Nat :=
  let p := s.scrubFrom s.cap.scrubPage
  p * 65536 + (if p = s.cap.scrubPage then s.cap.scrubStripe * 1024 else 0)

/-- The scrubber reads one stripe; a full turn counts a pass (R240). -/
def State.scrub (s : State) : State :=
  let a := s.scrubAddr + 1024
  if a < 536870912 then { s with cap := { s.cap with scrubPage := a / 65536, scrubStripe := a % 65536 / 1024 } }
  else { s with cap := { s.cap with scrubPage := 0, scrubStripe := 0 } }.countPlain CAP.SCRUB.PASSES 1

/-- A block of a format lies in the stripe of byte address `a`, in part or whole. -/
def Blk.inStripe (b : Blk) (fmt a : Nat) : Bool :=
  let n := blockBytes fmt
  let here := min n (65536 - b.addr % 65536)
  stripeOf b.addr == stripeOf a || stripeOf (b.addr + here - 1) == stripeOf a || here < n && stripeOf b.next == stripeOf a

/-- The frames that lie in the stripe of byte address `a` were corrected by the scrubber (R242). -/
def State.markScrubbed (s : State) (a : Nat) : State :=
  let mark := fun (f : Frame) =>
    if f.pins && (f.blocks.any (fun b => b.inStripe f.format a) || stripeOf (f.headerSlot * 128) == stripeOf a) then
      { f with scrubbed := true } else f
  { s with cap := { s.cap with tabA := s.cap.tabA.map mark, tabB := s.cap.tabB.map mark } }

/-! ### Register rules of the block -/

/-- Bytes of a pre-trigger depth in a format within the mirror (R220). -/
def preFits (fmt pre : Nat) : Bool := sampleBytes fmt pre + (if fmt = 1 ∧ pre % 2 = 1 then 1 else 0) ≤ 262144

/-- Kind, length, depth and format stand with R220. -/
def capRange (kind len pre fmt : Nat) : Bool :=
  len % 32 = 0 && len ≤ 2 ^ 31 && (if kind = 1 then 65536 else 256) ≤ len && pre < len && preFits fmt pre

/-- Field values refused as such (R220, R246, R248). -/
def CAP.valueBad (s : State) (n : Fld → Nat) (f : Fld) : Bool :=
  (f = CAP.ROLL_CFG.FRAMES && 1048576 < n f) ||
  (List.range 8).any (fun c =>
    (f = CAP.CHn_CFG.FORMAT c && n f != 1 && n f != 2) ||
    ((f = CAP.CHn_LEN.SAMPLES c || f = CAP.CHn_PRE.SAMPLES c || f = CAP.CHn_CFG.KIND c || f = CAP.CHn_CFG.FORMAT c) &&
      !capRange (n (CAP.CHn_CFG.KIND c)) (n (CAP.CHn_LEN.SAMPLES c)) (n (CAP.CHn_PRE.SAMPLES c))
        ((s.filP c).format (n (CAP.CHn_CFG.FORMAT c)))))

/-- Settings of channel `n` stand with R220 at a start. -/
def State.capFits (s : State) (n : Nat) : Bool :=
  capRange (s.rd (CAP.CHn_CFG.KIND n)) (s.rd (CAP.CHn_LEN.SAMPLES n)) (s.rd (CAP.CHn_PRE.SAMPLES n))
    ((s.filP n).format (s.rd (CAP.CHn_CFG.FORMAT n)))

end Sys2Proof.Machine
end

