-- ==== Sys2Proof/Machine/Acc.lean ====
section
/-! DEFINITION. Stacks and exposure maps (09_accumulation.md): frames added sample by sample, limits, tiles and decay,
snapshots with their areas and readers, clears, and the checks at a start. -/

namespace Sys2Proof.Machine

/-- Accumulation record of channel `n`. -/
def State.ach (s : State) (n : Nat) : AccCh := s.acc.getD n {}

/-- Accumulation record of channel `n` changed. -/
def State.modAcc (s : State) (n : Nat) (f : AccCh → AccCh) : State := { s with acc := s.acc.modify n f }

/-! ### Settings -/

/-- The settings of channel `n` that govern what its stack (kind 0) or its map (1) adds (R308, R249). -/
def kindFields (n kind : Nat) : List Fld :=
  if kind = 0 then
    [ACC.CHn_STK_CFG.EN n, ACC.CHn_STK_CFG.SQUARES n, ACC.CHn_STK_CFG.PLACE n, ACC.CHn_STK_CFG.AT_LIMIT n, ACC.CHn_STK_FIRST.SAMPLE n,
     ACC.CHn_STK_POINTS.POINTS n, ACC.CHn_STK_LIMIT.FRAMES n]
  else
    [ACC.CHn_MAP_CFG.EN n, ACC.CHn_MAP_CFG.DECAY n, ACC.CHn_MAP_CFG.ROW_SHIFT n, ACC.CHn_MAP_CFG.CURVE n, ACC.CHn_MAP_CFG.COL_WIDTH n,
     ACC.CHn_MAP_FIRST.SAMPLE n, ACC.CHn_MAP_LOW.LOW n, FIL.CHn_MODE.MODE n]

/-- Those of both. -/
def accFields (n : Nat) : List Fld := kindFields n 0 ++ kindFields n 1

/-- A setting of channel `n` as its accumulation has it in force. -/
def State.accRd (s : State) (n : Nat) (f : Fld) : Nat := SMap.get 0 (s.ach n).inForce f.key ^^^ f.reset

/-- The settings of a kind of channel `n` come into force: what they govern is empty. -/
def State.accTake (s : State) (n kind : Nat) : State :=
  s.modAcc n (fun a => { a with inForce := (kindFields n kind).foldl (fun m f => SMap.set 0 m f.key (s.rd f ^^^ f.reset)) a.inForce })

/-- The stack of channel `n` lies on die. -/
def State.stkOnDie (s : State) (n : Nat) : Bool := s.accRd n (ACC.CHn_STK_CFG.PLACE n) == 0

/-- Pages channel `n`'s settings need, `rd` reading them (R306). -/
def accPages (rd : Fld → Nat) (n : Nat) : Nat :=
  let pts := rd (ACC.CHn_STK_POINTS.POINTS n)
  let sq := rd (ACC.CHn_STK_CFG.SQUARES n) == 1
  let stk := if rd (ACC.CHn_STK_CFG.EN n) = 1 then
      (if rd (ACC.CHn_STK_CFG.PLACE n) = 0 then 0 else ceilDiv ((if sq then 12 else 4) * pts) 65536)
        + ceilDiv (128 + (if sq then 16 else 4) * pts) 65536
    else 0
  stk + if rd (ACC.CHn_MAP_CFG.EN n) = 1 then 32 + 33 else 0

/-- Pages that all settings need, `rd` reading them: `ACC.REGION_USE.NEED` (R306). -/
def State.accNeed (s : State) (rd : Fld → Nat) : Nat := (s.leads.map (accPages rd)).sum

/-- Decay curve `curve` of the image in force (R297). -/
def State.decayCurve (s : State) (curve : Nat) : Option (List Nat) := match s.image with
  | none => none
  | some im => im.table 6 curve

/-- The first failing check of channel `n`'s settings, which `rd` reads; 0 where all stand (R306). -/
def State.accCheck (s : State) (rd : Fld → Nat) (n : Nat) : Nat :=
  let mode := (s.filP n).mode
  let en := rd (ACC.CHn_STK_CFG.EN n) == 1
  let sq := rd (ACC.CHn_STK_CFG.SQUARES n) == 1
  let pts := rd (ACC.CHn_STK_POINTS.POINTS n)
  let onDie := rd (ACC.CHn_STK_CFG.PLACE n) == 0
  let most := if onDie then (if sq then 65536 else 262144) * s.groupSize else if sq then 4194304 else 16777216
  let limit := rd (ACC.CHn_STK_LIMIT.FRAMES n)
  if en && (mode = 1 || mode = 3) then 1
  else if en && (s.rd (CAP.CHn_LEN.SAMPLES n) < rd (ACC.CHn_STK_FIRST.SAMPLE n) + pts || most < pts || pts = 0) then 2
  else if rd ACC.REGION.PAGES < s.accNeed rd then 3
  else if en && (limit = 0 || (if mode = 0 then 1048576 else 65536) < limit) then 4
  else if en && !onDie && !s.on (CAP.CHn_CFG.KEEP n) then 5
  else if rd (ACC.CHn_MAP_CFG.EN n) = 1 && rd (ACC.CHn_MAP_CFG.DECAY n) = 1 && (s.decayCurve (rd (ACC.CHn_MAP_CFG.CURVE n))).isNone then 7
  else 0

/-- The check that channel `n` fails at a start (R306). -/
def State.accCause (s : State) (n : Nat) : Nat := s.accCheck s.rd n

/-- The check of R306 that a write fails, `n` giving the fields with it in place: a channel's own, and the region's for its size. -/
def State.accWrite (s : State) (n : Fld → Nat) (f : Fld) : Nat :=
  if f = ACC.REGION.PAGES then (if n f < s.accNeed n then 3 else 0)
  else if 0x3880 ≤ f.addr ∧ f.access = .rwl then s.accCheck n ((f.addr - 0x3880) / 64)
  else 0

/-- Field values refused as such (R307, R309). -/
def ACC.rangeBad (n : Fld → Nat) (f : Fld) : Bool :=
  (f = ACC.REGION.PAGES && 4096 < n f) ||
  (List.range 8).any (fun c =>
    (f = ACC.CHn_STK_POINTS.POINTS c && (n f < 1 || 16777216 < n f)) ||
    (f = ACC.CHn_STK_LIMIT.FRAMES c && (n f < 1 || 1048576 < n f)) ||
    (f = ACC.CHn_MAP_CFG.COL_WIDTH c && (n f < 1 || 16384 < n f)) ||
    (f = ACC.CHn_SNAP_CFG.DECAY_MS c && n f = 0))

/-- Values refused: those out of range, and settings that fail a check with the write in place (R306; notes/assumptions/58.md). -/
def ACC.valueBad (s : State) (n : Fld → Nat) (f : Fld) : Bool := ACC.rangeBad n f || s.accWrite n f != 0

/-- The cause a refused write records (R306). -/
def ACC.causeOf (s : State) (n : Fld → Nat) (locked : Bool) (f : Fld) : Nat :=
  if locked then 6
  else if (List.range 8).any (fun c => f = ACC.CHn_STK_LIMIT.FRAMES c && (n f < 1 || 1048576 < n f)) then 4
  else if (List.range 8).any (fun c => f = ACC.CHn_STK_POINTS.POINTS c && (n f < 1 || 16777216 < n f)) then 2
  else if f = ACC.REGION.PAGES && 4096 < n f then 3
  else s.accWrite n f

/-! ### Values (R282) -/

/-- v of an output word in a chain mode and format, for stacks and single-valued maps. -/
def accValue (fmt word : Nat) : Int :=
  if fmt = 1 then toSigned 12 word else if fmt = 2 then toSigned 16 word
  else satS 16 (roundShiftEven (toSigned 24 word) 8)

/-! ### What waits for slots of class Q2 (R289, R294, R296, R302) -/

/-- Tags of the requests that the copy of a snapshot, the merges of a QDR stack, the merges of tiles and a decay sweep of channel `n` wait
for. -/
def snapTag (n kind : Nat) : Nat := 16 + 2 * n + kind
@[inherit_doc snapTag] def stackTag (n : Nat) : Nat := 32 + n
@[inherit_doc snapTag] def tileTag (n : Nat) : Nat := 40 + n
@[inherit_doc snapTag] def sweepTag (n : Nat) : Nat := 48 + n

/-- First byte of the accumulation region (R216). -/
def State.accBase (s : State) : Nat := s.poolSize * 65536

/-! ### Clears (R303) -/

/-- The stack of channel `n` cleared. -/
def State.stkClear (s : State) (n : Nat) : State :=
  let s := s.modAcc n (fun a => { a with
    sum := [], sq := [], stk := {}, partialP := none, stkSnap := { a.stkSnap with clear := false } })
  ((s.accTake n 0).wr (ACC.CHn_STK_STATUS.FRAMES n) 0).put (ACC.CHn_SNAP_STK.VALID n) false

/-- The map of channel `n` cleared. -/
def State.mapClear (s : State) (n : Nat) : State :=
  let s := s.modAcc n (fun a => { a with
    tiles := [], due := [], merging := [], master := [], map := {}, mapLostEver := false, decaySteps := 0
    mapFrames := 0, mapLost := 0, mapOff := 0, mapSnap := { a.mapSnap with clear := false } })
  (((s.accTake n 1).wr (ACC.CHn_MAP_STATUS.FRAMES n) 0).put (ACC.CHn_SNAP_MAP.VALID n) false).dropRequests (tileTag n)

/-- Frames that wait for channel `n`'s QDR stack given up, with their claims. -/
def State.stkGiveUp (s : State) (n : Nat) : State :=
  let s := (s.ach n).wait.foldl (fun s w => s.dropHolder w.1 w.2 (.stack n)) s
  (s.modAcc n (fun a => { a with wait := [] })).dropRequests (stackTag n)

/-- A frame that has ended with KEEP = 0 and that accumulation has yet to take (R218). -/
def State.untaken (s : State) (n : Nat) : Bool := (s.cch n).closing.any (fun f => !f.live && !f.keep)

/-- Accumulation of channel `n` as the channel leaves STOPPED: cleared, the snapshot and decay periods begun
(R296, R298, R303). A snapshot whose boundary is to come, that still copies or waits for its area, comes before the clear (R299, R304). -/
def State.accStart (s : State) (n : Nat) : State :=
  let busy := fun (x : SnapSt) => x.copying || x.waiting || x.pending && s.untaken n
  let s := if busy (s.ach n).stkSnap then s.modAcc n (fun a => { a with stkSnap := { a.stkSnap with clear := true } })
    else ((s.stkGiveUp n).stkClear n).modAcc n (fun a => { a with stkSnap := { a.stkSnap with pending := false } })
  let s := if busy (s.ach n).mapSnap then s.modAcc n (fun a => { a with mapSnap := { a.mapSnap with clear := true } })
    else (s.mapClear n).modAcc n (fun a => { a with mapSnap := { a.mapSnap with pending := false }, decayDue := 0 })
  s.modAcc n (fun a => { a with
    stkSnap := { a.stkSnap with dueAt := s.ticks + ticksOfMs (s.rd (ACC.CHn_SNAP_CFG.PERIOD_MS n)) }
    mapSnap := { a.mapSnap with dueAt := s.ticks + ticksOfMs (s.rd (ACC.CHn_SNAP_CFG.PERIOD_MS n)) }
    decayDueAt := s.ticks + ticksOfMs (s.rd (ACC.CHn_SNAP_CFG.DECAY_MS n)) })

/-! ### Snapshots (R298, R299) -/

/-- A kind's snapshot state: 0 stack, 1 map. -/
def AccCh.snap (a : AccCh) (kind : Nat) : SnapSt := if kind = 0 then a.stkSnap else a.mapSnap

/-- A kind's snapshot state changed. -/
def AccCh.modSnap (a : AccCh) (kind : Nat) (f : SnapSt → SnapSt) : AccCh :=
  if kind = 0 then { a with stkSnap := f a.stkSnap } else { a with mapSnap := f a.mapSnap }

/-- The snapshot area is held: a reader has yet to take its record (R299). The record stays readable after that. -/
def SnapSt.held (x : SnapSt) : Bool := match x.area with
  | some ar => !ar.readers.isEmpty || ar.compositor
  | none => false

/-- A kind adds, by the settings it has in force. -/
def State.accOn (s : State) (n kind : Nat) : Bool :=
  s.accRd n (if kind = 0 then ACC.CHn_STK_CFG.EN n else ACC.CHn_MAP_CFG.EN n) == 1

/-- Tiles waiting to merge: `ACC.MERGE.TILES` (R307). -/
def State.tilesWaiting (s : State) : Nat := (s.acc.map (fun a => a.due.length + a.merging.length)).sum

/-- The longest QDR stack queue: `ACC.MERGE.FRAMES` (R307). -/
def State.framesWaiting (s : State) : Nat := s.acc.foldl (fun m a => max m a.wait.length) 0

/-- Channel `n`'s stack holds N_max frames (R287). -/
def State.stkFull (s : State) (n : Nat) : Bool := decide (s.accRd n (ACC.CHn_STK_LIMIT.FRAMES n) ≤ s.rd (ACC.CHn_STK_STATUS.FRAMES n))

/-- `ACC.CHn_STK_STATUS.STATE` of channel `n`: 0 off, 1 adding, 2 copying, 3 waiting for the area, 4 at its limit (R309). -/
def State.stkState (s : State) (n : Nat) : Nat :=
  let x := (s.ach n).stkSnap
  if x.copying then 2 else if x.waiting then 3 else if !s.on (ACC.CHn_STK_CFG.EN n) then 0
  else if s.stkFull n && s.accRd n (ACC.CHn_STK_CFG.AT_LIMIT n) == 0 then 4 else 1

/-- Cells of a tile: tile `i` holds 32 columns and 64 rows (R294). -/
def tileOf (cell : Nat) : Nat := cell / 512 / 32 * 8 + cell % 512 / 64

/-- Counts added into a master cell; the hits above its limit are lost (R295). -/
def mergeCells (master cells : SMap Nat) : SMap Nat × Nat :=
  cells.foldl (fun (acc : SMap Nat × Nat) p =>
    let v := SMap.get 0 acc.1 p.1 + p.2
    (SMap.set 0 acc.1 p.1 (min v 0xFFFFFFFF), acc.2 + (v - 0xFFFFFFFF))) (master, 0)

/-- Hits lost on channel `n`: counted, the first since the clear reported (R295, R305). -/
def State.mapLost (s : State) (n k : Nat) : State :=
  if k = 0 then s
  else
    let s := (s.count (ACC.CHn_MAP_LOST.COUNT n) (ACC.CHn_MAP_LOST.SAT n) k).modAcc n (fun a => { a with mapLost := satInc 32 a.mapLost k })
    if (s.ach n).mapLostEver then s else (s.modAcc n (fun a => { a with mapLostEver := true })).event 0x0222 []

/-- Every tile with hits merged into the master copy (R299). -/
def State.mergeAll (s : State) (n : Nat) : State :=
  let a := s.ach n
  let (m, lost) := a.merging.foldl (fun (acc : SMap Nat × Nat) t =>
    let (m, l) := mergeCells acc.1 t.2
    (m, acc.2 + l)) (mergeCells a.master a.tiles)
  ((s.modAcc n (fun a => { a with tiles := [], due := [], merging := [], master := m })).mapLost n lost)

/-- idx of R296. -/
def decayIdx (v : Nat) : Nat :=
  if v < 8 then v else let e := Nat.log2 v; 8 * (e - 2) + (v >>> (e - 3)) % 8

/-! ### Slots of class Q2 (R289, R294, R296, R302) -/

/-- Read-modify-write of Q2 in the accumulation region: `bytes` moved, waited for under a tag. -/
def State.mergeBytes (s : State) (bytes tag : Nat) : State := s.request 3 (stripesFor bytes) s.accBase true tag

/-- The merge of an accepted frame, of format `fmt`, into channel `n`'s QDR stack (R289). -/
def State.mergeRequest (s : State) (n fmt : Nat) : State :=
  let p := s.accRd n (ACC.CHn_STK_POINTS.POINTS n)
  s.mergeBytes ((if s.accRd n (ACC.CHn_STK_CFG.SQUARES n) != 0 then 24 else 8) * p + sampleBytes fmt p) (stackTag n)

/-- The copy of a snapshot of channel `n` (R302): for a map, the merges of the tiles with hits come first. -/
def State.copyRequest (s : State) (n kind : Nat) : State :=
  let p := s.accRd n (ACC.CHn_STK_POINTS.POINTS n)
  let sq := s.accRd n (ACC.CHn_STK_CFG.SQUARES n) != 0
  if kind = 0 then
    s.mergeBytes ((if s.stkOnDie n then (if sq then 16 else 4) else if sq then 28 else 8) * p) (snapTag n 0)
  else
    let tiles := ((s.ach n).tiles.map (fun c => tileOf c.1)).eraseDups.length
    s.mergeBytes (16384 * tiles + 4194304) (snapTag n 1)

/-- Tile `i` of channel `n`'s map in a decay sweep: its hits merged, then its master cells decayed (R296). -/
def State.decayTile (s : State) (n i : Nat) : State := match s.decayCurve (s.accRd n (ACC.CHn_MAP_CFG.CURVE n)) with
  | none => s
  | some cv =>
    let own := fun (p : Nat × Nat) => tileOf p.1 == i
    let a := s.ach n
    let (m, lost) := mergeCells a.master (a.tiles.filter own)
    let m := (m.map (fun p => if own p then (p.1, p.2 * le cv (4 + 2 * decayIdx p.2) 2 / 65536) else p)).filter (fun p => p.2 != 0)
    ((s.modAcc n (fun a => { a with
      master := m, tiles := a.tiles.filter (fun p => !own p), due := a.due.filter (· != i) })).mapLost n lost)

/-- A decay sweep of channel `n`'s map begins: 256 tiles in order, 16 slots each (R296). -/
def State.decaySweep (s : State) (n : Nat) : State :=
  (s.modAcc n (fun a => { a with decaySteps := satInc 32 a.decaySteps 1, decayDue := a.decayDue - 1 })).mergeBytes 4194304 (sweepTag n)

/-- A correction in a merge marks what the stack or the map has added (R34, R240). -/
def State.flagMerge (s : State) (q : SlotReq) (ecc : Bool) : State :=
  let mark := fun (x : Added) => { x with flags := x.flags ||| 1024 }
  if !ecc then s
  else if 32 ≤ q.tag ∧ q.tag < 40 then s.modAcc (q.tag - 32) (fun a => { a with stk := mark a.stk })
  else if 40 ≤ q.tag ∧ q.tag < 56 then s.modAcc (q.tag % 8) (fun a => { a with map := mark a.map })
  else s

/-- Readers of channel `n`'s snapshots of a kind: streams, cells (R299, R329). -/
def State.snapReaders (s : State) (n kind : Nat) : List Holder :=
  ((s.streamsOf kSnapshots).filter (fun pt => pt.2.param.getD 0 0 = n && pt.2.param.getD 1 0 = kind)).map
    (fun pt => Holder.stream pt.1 pt.2.id)
  ++ ((List.range 192).map (fun c =>
    let cell := s.cmb.cells.getD c {}
    if s.rd (CMB.CELLc.STATE c) = 2 ∨ s.rd (CMB.CELLc.STATE c) = 3 then
      (cell.binds.filter (fun b => b.kind = 5 && b.source = n && b.param = kind)).map (fun b => Holder.cell c b.port)
    else [])).flatten

/-- The value in force of a display field (R455). -/
def State.proF (s : State) (f : Fld) : Nat := SMap.get 0 s.pro.inForce f.key ^^^ f.reset

/-- Channel `n` is placed on the display (R449). -/
def State.placed (s : State) (n : Nat) : Bool := s.proF (PRO.CHn_PLACE.EN n) != 0

/-- A map record up to its digest (R301, R470). -/
def State.mapHead (s : State) (n : Nat) : List Nat :=
  let a := s.ach n
  let f := a.map.last
  let t := if f.triggered then f.trigTime else f.firstTime
  leBytes 2 0xF5A8 ++ [1, n] ++ leBytes 4 ((a.map.flags % 65536 ||| 16384 * b2n s.sec.service.isSome) + b2n a.mapLostEver * 65536
      + s.accRd n (ACC.CHn_MAP_CFG.DECAY n) * 131072)
    ++ leBytes 6 f.roll ++ [f.mode, f.range] ++ leBytes 4 f.number ++ leBytes 4 a.mapFrames
    ++ leBytes 8 (t / 65536) ++ leBytes 2 (t % 65536) ++ leBytes 2 (s.accRd n (ACC.CHn_MAP_CFG.COL_WIDTH n))
    ++ [s.accRd n (ACC.CHn_MAP_CFG.ROW_SHIFT n), s.accRd n (FIL.CHn_MODE.MODE n)] ++ leBytes 2 (s.accRd n (ACC.CHn_MAP_LOW.LOW n))
    ++ leBytes 4 (s.accRd n (ACC.CHn_MAP_FIRST.SAMPLE n)) ++ leBytes 4 a.map.firstEpoch ++ leBytes 4 a.map.lastEpoch
    ++ leBytes 4 a.mapLost ++ leBytes 4 a.mapOff ++ leBytes 4 a.decaySteps

/-- What the record of channel `n`'s map holds is taken: the map with every tile merged, once no decay sweep runs that began before
(R299, R304). -/
def State.mapCapture (s : State) (n : Nat) : State :=
  if (s.ach n).mapSnap.copying && (s.ach n).mapSnap.taken.isNone && s.waitingFor (sweepTag n) == 0 then
    let s := s.mergeAll n
    let head := s.mapHead n
    s.modAcc n (fun a => { a with mapSnap := { a.mapSnap with
      taken := some ⟨a.map.last.number, a.map.last.roll, head, a.master⟩ } })
  else s

/-- What a slot of Q2 brings about: the 16th of a tile ends the tile's turn in a sweep. With the sweep's end a record that waited for it is
taken, and then a step that fell due meanwhile begins (R296, R304). -/
def State.sweepSlot (s : State) (q : SlotReq) : State :=
  if 48 ≤ q.tag ∧ q.tag < 56 ∧ (q.stripes - 1) % 16 = 0 then
    let n := q.tag - 48
    let s := s.decayTile n ((4096 - q.stripes) / 16)
    if q.stripes = 1 then
      let s := s.mapCapture n
      if (s.ach n).decayDue != 0 then s.decaySweep n else s
    else s
  else s

/-- The copy of a kind's snapshot begins: its readers are those of this boundary (R299). -/
def State.snapBegin (s : State) (n kind : Nat) : State :=
  let rs := s.snapReaders n kind
  let s := s.modAcc n (fun a => a.modSnap kind (fun x => { x with
    pending := false, waiting := false, copying := true, readers := rs, compositor := kind == 1 && s.placed n }))
  let s := s.copyRequest n kind
  if kind = 1 then s.mapCapture n else s

/-- What falls due at a frame boundary of channel `n`: due tiles change places with spares, a decay step, and, with `due`, what was asked
before it: snapshots begin or wait for their area, clears, with the frames accepted before them (R294, R296, R299, R303, R304). A QDR
stack's record counts the frames still to be merged. -/
def State.accBoundary (s : State) (n : Nat) (due : Bool) : State :=
  if !s.up then s
  else
    let a := s.ach n
    let k := min a.due.length (8 - a.merging.length)
    let go := a.due.take k
    let s := s.modAcc n (fun a => { a with
      due := a.due.drop k
      merging := a.merging ++ go.map (fun t => (t, a.tiles.filter (fun p => tileOf p.1 = t)))
      tiles := a.tiles.filter (fun p => !go.contains (tileOf p.1)) })
    let s := (List.range k).foldl (fun s _ => s.mergeBytes 16384 (tileTag n)) s
    let s := if (s.ach n).decayDue != 0 && s.waitingFor (sweepTag n) == 0 then s.decaySweep n else s
    let one := fun (s : State) (kind : Nat) =>
      let sn := (s.ach n).snap kind
      let added := if kind = 0 then (s.ach n).stk.any || !(s.ach n).wait.isEmpty else (s.ach n).map.any
      if sn.copying then s
      else if (sn.pending && due || sn.waiting) && s.accOn n kind && added then
        if !sn.held then s.snapBegin n kind
        else s.modAcc n (fun a => a.modSnap kind (fun x => { x with pending := false, waiting := true }))
      else if sn.clear && due then (if kind = 0 then (s.stkGiveUp n).stkClear n else s.mapClear n)
      else s
    one (one s 0) 1

/-- What has been asked of channel `n`'s accumulation waits for its boundary: the close of the open frame, or of the newest that is still
to be taken; with neither it is at once (R299, R303). -/
def State.accAsked (s : State) (n : Nat) : State :=
  let c := s.cch n
  if c.openF.isSome then s.modCap n (fun c => { c with openF := c.openF.map (fun f => { f with bound := true }) })
  else if s.untaken n then
    s.modCap n (fun c =>
      let last := (c.closing.reverse.find? (fun f => !f.live && !f.keep)).map OpenFrame.number
      { c with closing := c.closing.map (fun f => if !f.live && !f.keep && some f.number == last then { f with bound := true } else f) })
  else s.accBoundary n true

/-- A snapshot of a kind requested; one pending or being copied stands for it too (R298, R299). -/
def State.snapRequest (s : State) (n kind : Nat) (clear : Bool) : State :=
  (s.modAcc n (fun a => a.modSnap kind (fun x => { x with
    pending := x.pending || !x.copying && s.accOn n kind, clear := x.clear || clear }))).accAsked n

/-- A clear by command: at the next frame boundary (R303). -/
def State.clearRequest (s : State) (n kind : Nat) : State :=
  (s.modAcc n (fun a => a.modSnap kind (fun x => { x with clear := true }))).accAsked n

/-- Snapshot then clear of both kinds of channel `n` (R303). -/
def State.accFlush (s : State) (n : Nat) : State := (s.snapRequest n 0 true).snapRequest n 1 true

/-- A frame or record passes by the bindings of halted cells that would take it: word 45 counts it on resume (R342). -/
def State.passBy (s : State) (takes : Binding → Bool) : State :=
  { s with cmb := { s.cmb with cells := (List.range 192).map (fun c =>
    let x := s.cmb.cells.getD c {}
    if s.rd (CMB.CELLc.STATE c) = 4 then { x with binds := x.binds.map (fun b => if takes b then { b with skipped := b.skipped + 1 } else b) }
    else x) } }

/-- A reader has taken, or given up, a snapshot record: the area is released with the last one, and a snapshot that waits
for it begins at the next frame boundary (R299). -/
def State.snapTaken (s : State) (n kind : Nat) (h : Option Holder) : State :=
  let upd := fun (ar : SnapArea) => match h with
    | some h => { ar with readers := ar.readers.erase h }
    | none => { ar with compositor := false }
  let sn := (s.ach n).snap kind
  match sn.area with
  | none => s
  | some ar =>
    let s := s.modAcc n (fun a => a.modSnap kind (fun x => { x with area := some (upd ar) }))
    if sn.waiting ∧ ¬ ((s.ach n).snap kind).held ∧ (s.cch n).openF.isNone then s.accBoundary n false else s

/-! ### Records (R300, R301) -/

/-- The points of a stack in format 0x05 or 0x06. -/
def AccCh.points (a : AccCh) (sq : Bool) (p : Nat) : List Nat :=
  ((List.range p).map (fun i =>
    leBytes 4 (ofSigned 32 (SMap.get 0 a.sum i)) ++ if sq then leBytes 4 0 ++ leBytes 8 (SMap.get 0 a.sq i) else [])).flatten

/-- The header of a stack record: that of frame k with the exceptions of R300; in diagnostic service it says so (R470). -/
def State.stackHead (s : State) (n : Nat) : OpenFrame :=
  let a := s.ach n
  let f := a.stk.last
  let p := s.accRd n (ACC.CHn_STK_POINTS.POINTS n)
  let first := s.accRd n (ACC.CHn_STK_FIRST.SAMPLE n)
  let fl := a.stk.flags
  let fl := if fl.testBit 1 then fl - 2 else fl
  let fl := if fl.testBit 0 then fl - 1 else fl
  let fl := fl + b2n a.partialP.isSome
  let fl := if a.stk.firstEpoch != a.stk.lastEpoch && !fl.testBit 3 then fl + 8 else fl
  let fl := fl ||| 16384 * b2n s.sec.service.isSome
  { f with
    flags := fl
    trigCount := s.rd (ACC.CHn_STK_STATUS.FRAMES n)
    firstTime := ((f.firstTime : Int) + s.posSpan ((first * f.ratio : Nat) : Int) 1).toNat
    firstValid := a.partialP.getD p
    got := p
    pre := min p (f.pre - first)
    format := if s.accRd n (ACC.CHn_STK_CFG.SQUARES n) != 0 then 6 else 5
    epoch := a.stk.firstEpoch
    stepIdx := a.stk.lastEpoch
    errFlags := 0
    words := [] }

/-- The cells of a map, column by column (R301). -/
def cellBytes (cells : SMap Nat) : List Nat := ((List.range 524288).map (fun i => leBytes 4 (SMap.get 0 cells i))).flatten

/-- Frame, roll, header up to the digest and data of the record that a copy of channel `n` has made; none where every frame it waited for
was passed over (R291, R300, R301). -/
def State.snapMade (s : State) (n kind : Nat) : Option (Nat × Nat × List Nat × List Nat) :=
  if kind = 0 then
    if (s.ach n).stk.any then
      let h := s.stackHead n
      some (h.number, h.roll, h.head n, (s.ach n).points (s.accRd n (ACC.CHn_STK_CFG.SQUARES n) != 0) (s.accRd n (ACC.CHn_STK_POINTS.POINTS n)))
    else none
  else (s.ach n).mapSnap.taken.map (fun m => (m.frame, m.roll, m.head, cellBytes m.cells))

/-- The 16-byte prefix of an item (R397). -/
def itemPrefix (kind source number bytes : Nat) : List Nat :=
  [kind, source, 0, 0] ++ leBytes 4 number ++ leBytes 8 bytes

/-- A snapshot record of channel `n` is complete: it is a leaf, each stream subscribed at its boundary takes its claim or records its loss, each
cell's binding takes its copy, and it stands in its area for them (R299, R329, R399). -/
def State.snapDone (s : State) (n kind k roll : Nat) (head data : List Nat) : State :=
  let sn := (s.ach n).snap kind
  let digest := sha256 (head ++ data)
  let (ref, s) := s.addLeaf (kind + 2) digest
  let bytes := head ++ digest ++ leBytes 8 ref ++ (if kind = 1 then List.replicate 24 0 else []) ++ data
  let s := s.passBy (fun b => b.kind = 5 && b.source = n && b.param = kind)
  let readers := (s.snapReaders n kind).filter (fun h => sn.readers.contains h)
  let cells := readers.filter (fun h => match h with | .cell _ _ => true | _ => false)
  let (s, takers) := readers.foldl (fun (acc : State × List Holder) h => match h with
    | .stream p id =>
      let (s', t) := acc.1.offer p id ⟨4, k, .bytes (itemPrefix (kind + 3) n k bytes.length ++ bytes), bytes.length⟩ k k roll
      (s', if t then acc.2 ++ [h] else acc.2)
    | _ => acc) (s, [])
  let s := cells.foldl (fun s h => match h with
    | .cell c port => { s with cmb := { s.cmb with cells := s.cmb.cells.modify c (fun x => { x with
        binds := x.binds.map (fun b => if b.port = port then { b with waits := b.waits ++ [{ data := bytes, ready := true }] } else b) }) } }
    | _ => s) s
  let s := s.modAcc n (fun a => a.modSnap kind (fun x => { x with area := some ⟨k, roll, bytes, takers ++ cells, sn.compositor⟩ }))
  let s := if kind = 0 then (s.wr (ACC.CHn_SNAP_STK.FRAME n) k).put (ACC.CHn_SNAP_STK.VALID n) true
    else (s.wr (ACC.CHn_SNAP_MAP.FRAME n) k).put (ACC.CHn_SNAP_MAP.VALID n) true
  s.event 0x0220 [n, kind, k]

/-- ACC_SNAPSHOT (R299 to R302): the copy of a stack (kind 0) or map (1) of channel `n` is complete, its bytes moved in Q2, and a clear that
waited for it follows. -/
def execAccSnapshot (n kind : Nat) (s : State) : Host.Outcome State Fault Refusal :=
  .next (
    let sn := (s.ach n).snap kind
    if n < 8 ∧ kind < 2 ∧ sn.copying ∧ s.up ∧ (if kind = 0 then (s.ach n).wait.isEmpty else sn.taken.isSome) ∧ s.waitingFor (snapTag n kind) = 0 then
      let s := match s.snapMade n kind with
        | some (k, roll, head, data) => s.snapDone n kind k roll head data
        | none => s
      let s := s.modAcc n (fun a => a.modSnap kind (fun x => { x with copying := false, readers := [], compositor := false, taken := none }))
      -- the record is of the state before the clear
      if ((s.ach n).snap kind).clear then (if kind = 0 then s.stkClear n else s.mapClear n) else s
    else s)

/-- SNAPSHOT_PERIOD (R298): the period of channel `n` has elapsed. -/
def execSnapshotPeriod (n : Nat) (s : State) : Host.Outcome State Fault Refusal :=
  .next (
    let ms := s.rd (ACC.CHn_SNAP_CFG.PERIOD_MS n)
    let due := (s.ach n).stkSnap.dueAt
    if n < 8 ∧ ms ≠ 0 ∧ due ≤ s.ticks ∧ s.up ∧ s.isLead n ∧ s.chState n ≠ chStopped then
      let s := s.modAcc n (fun a => { a with stkSnap := { a.stkSnap with dueAt := due + ticksOfMs ms } })
      (s.snapRequest n 0 false).snapRequest n 1 false
    else s)

/-! ### Adding frames -/

/-- Whether the stack and the map take a frame that reaches accumulation now: at its commit, or with KEEP = 0 as a whole after it has ended;
those not taken are counted (R218, R289, R291, R299). A QDR stack becomes a holder of the frame. -/
def State.accCommit (s : State) (n : Nat) (f : OpenFrame) : State × OpenFrame :=
  let a := s.ach n
  let stkEn := s.on (ACC.CHn_STK_CFG.EN n)
  let stk := stkEn && !s.stkFull n && !a.stkSnap.copying && !(a.stkSnap.waiting && a.stkSnap.clear) &&
    (s.stkOnDie n || f.keep && a.wait.length < 4)
  let mapEn := s.on (ACC.CHn_MAP_CFG.EN n)
  let map := mapEn && !a.mapSnap.copying && !(a.mapSnap.waiting && a.mapSnap.clear)
  let s := if stkEn && !stk then s.count (ACC.CHn_PASSED.STK n) (ACC.CHn_PASSED.STK_SAT n) 1 else s
  let s := if mapEn && !map then s.count (ACC.CHn_PASSED.MAP n) (ACC.CHn_PASSED.MAP_SAT n) 1 else s
  let s := if stk && !s.stkOnDie n then
      s.modAcc n (fun a => { a with wait := a.wait ++ [(f.roll % 2, f.number)] }) else s
  (s, { f with stk := stk, map := map })

/-- A value added to point `i` of the stack (R286). -/
def State.stkPoint (s : State) (n i : Nat) (v : Int) : State :=
  s.modAcc n (fun a => { a with
    sum := SMap.set 0 a.sum i (SMap.get 0 a.sum i + v)
    sq := if s.accRd n (ACC.CHn_STK_CFG.SQUARES n) != 0 then SMap.set 0 a.sq i (SMap.get 0 a.sq i + v.natAbs * v.natAbs) else a.sq })

/-- A hit on map cell `cell` (R294, R295). -/
def State.mapHit (s : State) (n cell : Nat) : State :=
  let v := SMap.get 0 (s.ach n).tiles cell
  if v = 65535 then s.mapLost n 1
  else s.modAcc n (fun a => { a with
    tiles := SMap.set 0 a.tiles cell (v + 1)
    due := if v + 1 = 32768 && !a.due.contains (tileOf cell) then a.due ++ [tileOf cell] else a.due })

/-- A sample outside the rows counted (R292). -/
def State.mapOff (s : State) (n : Nat) : State :=
  (s.count (ACC.CHn_MAP_OFF.COUNT n) (ACC.CHn_MAP_OFF.SAT n) 1).modAcc n (fun a => { a with mapOff := satInc 32 a.mapOff 1 })

/-- Output `i` of a frame, of word `w`, into the map (R292, R293). -/
def State.mapSample (s : State) (n i fmt w : Nat) : State :=
  let first := s.accRd n (ACC.CHn_MAP_FIRST.SAMPLE n)
  let width := s.accRd n (ACC.CHn_MAP_CFG.COL_WIDTH n)
  let col := (i - first) / width
  if i < first ∨ 1024 ≤ col ∨ width = 0 then s
  else
    let low : Int := toSigned 16 (s.accRd n (ACC.CHn_MAP_LOW.LOW n))
    let row := fun (v : Int) => asrI (v - low) (s.accRd n (ACC.CHn_MAP_CFG.ROW_SHIFT n))
    if fmt = 4 then
      let r0 := row (toSigned 16 w)
      let r1 := row (toSigned 16 (w / 65536))
      if r1 < 0 ∨ 511 < r0 ∨ r1 < r0 then s.mapOff n
      else
        let lo := (max r0 0).toNat
        let hi := (min r1 511).toNat
        (List.range (hi + 1 - lo)).foldl (fun s k => s.mapHit n (col * 512 + lo + k)) s
    else
      let r := row (accValue fmt w)
      if 0 ≤ r ∧ r ≤ 511 then s.mapHit n (col * 512 + r.toNat) else s.mapOff n

/-- Output `i` of frame `f`, of word `w`, reaches accumulation (R283, R285, R288). -/
def State.accSample (s : State) (n : Nat) (f : OpenFrame) (i w : Nat) : State × OpenFrame :=
  if f.live then (s, f)
  else
    let first := s.accRd n (ACC.CHn_STK_FIRST.SAMPLE n)
    let p := s.accRd n (ACC.CHn_STK_POINTS.POINTS n)
    let onDie := f.stk && s.stkOnDie n
    let (s, f) := if onDie && i = first && (!f.valid || first < f.firstValid) then
        (s.count (ACC.CHn_PASSED.STK n) (ACC.CHn_PASSED.STK_SAT n) 1, { f with stk := false })
      else (s, f)
    let s := if f.stk && onDie && first ≤ i && i < first + p then s.stkPoint n (i - first) (accValue f.format w) else s
    (if f.map && f.valid && f.firstValid ≤ i then s.mapSample n i f.format w else s, f)

/-- A frame joins what a stack or map has added (R300, R301). -/
def Added.add (a : Added) (f : OpenFrame) : Added :=
  { flags := a.flags ||| f.flags
    firstEpoch := if a.any then a.firstEpoch else f.epoch
    lastEpoch := if f.flags.testBit 3 then (f.epoch + 1) % 2 ^ 32 else f.epoch
    last := { f with words := [] }
    any := true }

/-- The stack of channel `n` counts a frame; at N_max its limit acts (R287). -/
def State.stkCount (s : State) (n : Nat) (f : OpenFrame) : State :=
  let m := s.rd (ACC.CHn_STK_STATUS.FRAMES n) + 1
  let s := (s.modAcc n (fun a => { a with stk := a.stk.add f })).wr (ACC.CHn_STK_STATUS.FRAMES n) m
  if m = s.accRd n (ACC.CHn_STK_LIMIT.FRAMES n) then
    (s.event 0x0221 []).modAcc n (fun a => { a with stkSnap := { a.stkSnap with
      pending := !a.stkSnap.copying, clear := a.stkSnap.clear || s.accRd n (ACC.CHn_STK_CFG.AT_LIMIT n) != 0 } })
  else s

/-- A frame of channel `n` has ended with `real` outputs taken (R287, R288, R291, R299). -/
def State.accFrameEnd (s : State) (n : Nat) (f : OpenFrame) (real : Nat) : State :=
  if f.live then s
  else
    let first := s.accRd n (ACC.CHn_STK_FIRST.SAMPLE n)
    let p := s.accRd n (ACC.CHn_STK_POINTS.POINTS n)
    let s := if f.stk && s.stkOnDie n then
        if real ≤ first then s
        else
          let s := if real < first + p then s.modAcc n (fun a => { a with partialP := some (real - first) }) else s
          s.stkCount n f
      else s
    -- a truncated frame is not added to a QDR stack and gives up its claim (R289)
    let s := if f.stk && !s.stkOnDie n && f.flags.testBit 0 then
        (s.modAcc n (fun a => { a with wait := a.wait.filter (fun w => w != (f.roll % 2, f.number)) })).dropHolder (f.roll % 2)
          f.number (.stack n)
      else s
    let s := if f.map then
        (s.modAcc n (fun a => { a with map := a.map.add f, mapFrames := satInc 32 a.mapFrames 1 })).countPlain (ACC.CHn_MAP_STATUS.FRAMES n) 1
      else s
    s.accBoundary n (f.keep || f.bound || f.stk && s.stkFull n || (s.cch n).openF.isNone && !s.untaken n)

/-- The stop of channel `n`, or the end of its roll other than in continuous mode: snapshots. One that copies stands for the stop's too,
since no frame is added while it copies (R298, R299, R304). -/
def State.accStop (s : State) (n : Nat) : State :=
  let one := fun (s : State) (kind : Nat) => if s.accOn n kind then s.snapRequest n kind false else s
  one (one s 0) 1

/-- STACK_MERGE (R289): the oldest waiting frame of channel `n`'s QDR stack has been read in the slots of Q2, and its samples are added. -/
def execStackMerge (n : Nat) (s : State) : Host.Outcome State Fault Refusal :=
  .next (match (s.ach n).wait with
    | [] => s
    | (t, i) :: rest => match (s.table t)[i]? with
      | none => s
      | some fr =>
        let closed := (s.ach n).wait.countP (fun w => match (s.table w.1)[w.2]? with | some f => f.state == 2 | none => false)
        if fr.state = 2 ∧ s.up ∧ s.waitingFor (stackTag n) < closed then
          let first := s.accRd n (ACC.CHn_STK_FIRST.SAMPLE n)
          let p := s.accRd n (ACC.CHn_STK_POINTS.POINTS n)
          let h := fr.header
          let bs := s.frameData fr
          let f : OpenFrame := { number := i, flags := le h 4 4, roll := le h 8 6, mode := h.getD 15 0, format := fr.format
                                 range := h.getD 21 0, trigTime := le h 24 8 * 65536 + le h 32 2, trigSource := h.getD 34 0
                                 seqState := h.getD 35 0, trigCount := le h 36 4, firstTime := le h 40 8 * 65536 + le h 48 2
                                 triggered := le h 0x3C 4 != 0 || h.getD 34 0 != 255
                                 firstValid := le h 0x34 4, got := fr.samples, pre := le h 0x3C 4, epoch := le h 0x40 4
                                 stepIdx := le h 0x44 4, temp := le h 0x48 2, tbState := h.getD 0x4A 0
                                 ratio := le h 0x4C 4, delay := le h 0x50 4, errFlags := le h 0x54 4 }
          let word := fun (k : Nat) => if fr.format = 1 then (le bs (k * 3 / 2) 2 >>> (k % 2 * 4)) % 4096
            else if fr.format = 2 then le bs (2 * k) 2 else le bs (4 * k) 4
          let s := s.modAcc n (fun a => { a with wait := rest })
          let s := if first < f.firstValid || s.stkFull n then s.count (ACC.CHn_PASSED.STK n) (ACC.CHn_PASSED.STK_SAT n) 1
            else
              let s := (List.range p).foldl (fun s k => s.stkPoint n k (accValue fr.format (word (first + k)))) s
              s.stkCount n f
          let s := s.dropHolder t i (.stack n)
          if (s.cch n).openF.isNone then s.accBoundary n true else s
        else s)

/-- TILE_MERGE (R294): with its 16 slots of Q2 the oldest due tile of channel `n` is added to the master copy and becomes a spare. -/
def execTileMerge (n : Nat) (s : State) : Host.Outcome State Fault Refusal :=
  .next (match (s.ach n).merging with
    | [] => s
    | (_, cells) :: rest =>
      if s.up ∧ s.waitingFor (tileTag n) < rest.length + 1 then
        let (m, lost) := mergeCells (s.ach n).master cells
        ((s.modAcc n (fun a => { a with master := m, merging := rest })).mapLost n lost)
      else s)

/-- DECAY_STEP (R296): a decay period has elapsed; the sweep runs at the frame boundary. -/
def execDecayStep (n : Nat) (s : State) : Host.Outcome State Fault Refusal :=
  .next (
    if n < 8 ∧ s.up ∧ s.on (ACC.CHn_MAP_CFG.EN n) ∧ s.on (ACC.CHn_MAP_CFG.DECAY n) ∧ (s.ach n).decayDueAt ≤ s.ticks ∧ s.isLead n
        ∧ s.chState n ≠ chStopped then
      let s := s.modAcc n (fun a => { a with
        decayDue := a.decayDue + 1, decayDueAt := a.decayDueAt + ticksOfMs (s.rd (ACC.CHn_SNAP_CFG.DECAY_MS n)) })
      if (s.cch n).openF.isNone then s.accBoundary n false else s
    else s)

end Sys2Proof.Machine
end

