-- ==== Sys2Proof/Machine/Flags.lean ====
section
/-! DEFINITION. The flag computations of a Comb cell (R313, R314): wrap or clamp of a 56-bit result with V, the scaler
with L, N and Z, and the conditions of R324. -/

namespace Sys2Proof.Machine

/-- What an operation stores of its true result `x` in an accumulator: clamped with SAT, else wrapped modulo 2^56. -/
def acc56 (sat : Bool) (x : Int) : Int := if sat then satS 56 x else toSigned 56 (ofSigned 56 x)

/-- V: the true result lies outside 56 bits. -/
def over56 (x : Int) : Bool := !fitsS 56 x

/-- The scaler: shift right by `s` with round-half-even, then the limit of 24 bits; the flag says that it limited. -/
def scale24 (s : Nat) (v : Int) : Int × Bool :=
  let r := roundShiftEven v s
  (satS 24 r, !fitsS 24 r)

/-- N and Z from a result, V made sticky. -/
def Cell.flagNZV (x : Cell) (result : Int) (v : Bool) : Cell :=
  { x with fN := decide (result < 0), fZ := decide (result = 0), fV := x.fV || v }

/-- V made sticky, N and Z as they stand. -/
def Cell.flagV (x : Cell) (v : Bool) : Cell := { x with fV := x.fV || v }

/-- L made sticky. -/
def Cell.flagL (x : Cell) (l : Bool) : Cell := { x with fL := x.fL || l }

/-- Whether condition `k` holds (R324). -/
def Cell.cond (x : Cell) (k : Nat) : Bool := match k with
  | 0 => true
  | 1 => x.fZ
  | 2 => !x.fZ
  | 3 => x.fN
  | 4 => !x.fN
  | 5 => x.fN || x.fZ
  | 6 => !(x.fN || x.fZ)
  | 7 => x.fV
  | 8 => !x.fV
  | 9 => x.fL
  | 10 => !x.fL
  | _ => false

end Sys2Proof.Machine
end

