-- ==== Sys2Proof/Machine/Operands.lean ====
section
/-! DEFINITION. The operand forms of the Comb's instruction words (R315, R318 to R322): fields of a 48-bit word, registers,
cursors and their address updates, the two parallel moves, and which words a load accepts (R338). -/

namespace Sys2Proof.Machine

/-! ### Fields of a word (R318, R320) -/

/-- Class of a word, bits [47:44]. -/
def pwClass (w : Nat) : Nat := bits w 44 4

/-- Op code of a word: four bits in class DMAC, six in the others. -/
def pwOp (w : Nat) : Nat := if pwClass w = 2 then bits w 40 4 else bits w 38 6

/-- SAT of a word. -/
def pwSat (w : Nat) : Bool := if pwClass w = 2 then bit w 39 else bit w 37

/-- Destination accumulator of ALU and MAC. -/
def pwDst (w : Nat) : Nat := bits w 35 2

/-- Sources SA and SB. -/
def pwSA (w : Nat) : Nat := bits w 31 4
@[inherit_doc pwSA] def pwSB (w : Nat) : Nat := bits w 27 4

/-- Shift count of ALU shifts. -/
def pwShift (w : Nat) : Nat := bits w 25 6

/-- Even accumulator of the pair of DMAC. -/
def pwPair (w : Nat) : Nat := 2 * bits w 38 1

/-- Register code and immediate of IMM. -/
def pwReg (w : Nat) : Nat := bits w 33 4
@[inherit_doc pwReg] def pwImm (w : Nat) : Int := toSigned 24 w

/-- Cursor and register code of ADDR; immediate. -/
def pwCur (w : Nat) : Nat := bits w 34 3
@[inherit_doc pwCur] def pwAReg (w : Nat) : Nat := bits w 30 4
@[inherit_doc pwCur] def pwAImm (w : Nat) : Nat := bits w 0 14

/-- Condition, count and target of CTRL. -/
def pwCond (w : Nat) : Nat := bits w 34 4
@[inherit_doc pwCond] def pwCount (w : Nat) : Nat := bits w 13 16 + 1
@[inherit_doc pwCond] def pwTarget (w : Nat) : Nat := bits w 0 13

/-- Port, address-register index and linked port of STREAM; 16-bit code of EVENT and TRAP. -/
def pwPort (w : Nat) : Nat := bits w 34 4
@[inherit_doc pwPort] def pwIdx (w : Nat) : Nat := bits w 28 2
@[inherit_doc pwPort] def pwLink (w : Nat) : Nat := bits w 24 4
@[inherit_doc pwPort] def pwCode (w : Nat) : Nat := bits w 0 16

/-! ### Registers (R312 to R314, R319) -/

/-- Data register and accumulator as signed numbers. -/
def Cell.dS (x : Cell) (i : Nat) : Int := toSigned 24 (x.d.getD i 0)
@[inherit_doc Cell.dS] def Cell.aS (x : Cell) (i : Nat) : Int := toSigned 56 (x.a.getD i 0)

/-- A register code read at 56 bits. -/
def Cell.src56 (x : Cell) (code : Nat) : Int := if code < 8 then x.dS code else x.aS (code - 8)

/-- A register code read into a 24-bit destination, through the scaler for an accumulator; the flag sets L. -/
def Cell.src24 (x : Cell) (code : Nat) : Int × Bool :=
  if code < 8 then (x.dS code, false) else scale24 x.sh (x.aS (code - 8))

/-- A register code written: a data register keeps 24 bits, an accumulator 56. -/
def Cell.setReg (x : Cell) (code : Nat) (v : Int) : Cell :=
  if code < 8 then { x with d := x.d.set code (ofSigned 24 v) } else { x with a := x.a.set (code - 8) (ofSigned 56 v) }

/-! ### Cursors (R315) -/

/-- Fields of a cursor: address, window base, L, stride, mode. -/
def curAddr (c : Nat) : Nat := bits c 0 14
@[inherit_doc curAddr] def curBase (c : Nat) : Nat := bits c 14 14
@[inherit_doc curAddr] def curLen (c : Nat) : Nat := bits c 28 14 + 1
@[inherit_doc curAddr] def curStride (c : Nat) : Int := toSigned 12 (bits c 42 12)
@[inherit_doc curAddr] def curMode (c : Nat) : Nat := bits c 54 2

/-- `w` bits of a cursor from bit `lo` replaced. -/
def curPut (c lo w v : Nat) : Nat := c - bits c lo w * 2 ^ lo + v % 2 ^ w * 2 ^ lo

/-- A cursor with another address. -/
def curAt (c a : Nat) : Nat := curPut c 0 14 a

/-- The low `k` bits of `v` reversed. -/
def revBits : Nat → Nat → Nat
  | 0, _ => 0
  | k + 1, v => v % 2 * 2 ^ k + revBits k (v / 2)

/-- A cursor after a load: LINEAR, address and base 0, L = 16,384, stride 1. -/
def curReset : Nat := 16383 * 2 ^ 28 + 2 ^ 42

/-- The address update by `delta` under the cursor's mode. BITREV with an L that is no power of two, which only MVC can set
up, gives an address the spec does not state: free (notes/assumptions/8.md). -/
def curStep (c : Nat) (delta : Int) : Nat :=
  let a := curAddr c
  let b := curBase c
  let l := curLen c
  let d := (a + 16384 - b) % 16384
  let k := Nat.log2 l
  let a' : Nat :=
    if curMode c = 1 then (b + (((d : Int) + delta) % (l : Int)).toNat) % 16384
    else if curMode c = 2 then
      if 2 ^ k = l then
        let r := (((revBits k (d % l) : Nat) : Int) + delta) % (l : Int)
        (b + revBits k r.toNat) % 16384
      else Config.freeValue 20 (c * 2 ^ 14 + ofSigned 14 delta) % 16384
    else (((a : Int) + delta) % 16384).toNat
  curAt c a'

/-- The update a move field asks for. -/
def curUpdate (c code : Nat) : Nat := match code with
  | 1 => curStep c 1
  | 2 => curStep c (-1)
  | 3 => curStep c (curStride c)
  | _ => c

/-! ### Parallel moves (R321, R322) -/

/-- What a move writes, read before the instruction: a register, a memory word, its cursor, and whether it limited. -/
structure Move where
  reg : Option (Nat × Int) := none
  mem : Option (Nat × Nat) := none
  cur : Option (Nat × Nat) := none
  lim : Bool := false
  deriving DecidableEq, Repr

/-- A word of X or Y memory. -/
def Cell.word (x : Cell) (y : Bool) (a : Nat) : Nat := SMap.get 0 (if y then x.y else x.x) (a % 16384)

/-- Move field `m` on the X bus, or on the Y bus, as it reads before the instruction. -/
def Cell.readMove (x : Cell) (y : Bool) (m : Nat) : Move :=
  let kind := bits m 10 2
  if kind = 0 then {}
  else if kind = 3 then
    let src := bits m 6 4
    let dst := bits m 2 4
    if dst < 8 then let (v, l) := x.src24 src; { reg := some (dst, v), lim := l } else { reg := some (dst, x.src56 src) }
  else
    let ci := bits m 8 2 + if y then 4 else 0
    let c := x.cur.getD ci 0
    let r := bits m 2 4
    let upd := some (ci, curUpdate c (bits m 6 2))
    if kind = 1 then { reg := some (r, toSigned 24 (x.word y (curAddr c))), cur := upd }
    else let (v, l) := x.src24 r; { mem := some (curAddr c, ofSigned 24 v), cur := upd, lim := l }

/-- A move written. -/
def Cell.writeMove (x : Cell) (y : Bool) (m : Move) : Cell :=
  let x := match m.reg with | some (r, v) => x.setReg r v | none => x
  let x := match m.mem with
    | some (a, v) => if y then { x with y := SMap.set 0 x.y a v } else { x with x := SMap.set 0 x.x a v }
    | none => x
  let x := match m.cur with | some (i, c) => { x with cur := x.cur.set i c } | none => x
  x.flagL m.lim

/-- Both moves of word `w`, read of `old` and written into `new`. -/
def Cell.moves (old new : Cell) (w : Nat) : Cell :=
  (new.writeMove false (old.readMove false (bits w 12 12))).writeMove true (old.readMove true (bits w 0 12))

/-! ### Words a load accepts (R318 to R324, R338) -/

/-- The bits of `w` outside `[hi : lo]` ranges given as (lo, width) pairs are 0. -/
def onlyBits (w : Nat) (l : List (Nat × Nat)) : Bool :=
  (l.foldl (fun v p => curPut v p.1 p.2 0) w) == 0

/-- A move field is well formed. -/
def moveOk (m : Nat) : Bool := match bits m 10 2 with
  | 0 => m == 0
  | 3 => bits m 6 4 ≤ 11 && bits m 2 4 ≤ 11 && bits m 0 2 == 0
  | _ => bits m 2 4 ≤ 11 && bits m 0 2 == 0

/-- The register a move writes. -/
def moveDst (m : Nat) : Option Nat := if bits m 10 2 = 1 ∨ bits m 10 2 = 3 then some (bits m 2 4) else none

/-- Register codes the operation of an ALU, MAC or DMAC word writes. -/
def opDsts (w : Nat) : List Nat := match pwClass w with
  | 0 => if pwOp w = 8 then [] else [8 + pwDst w]
  | 1 => [8 + pwDst w]
  | _ => [8 + pwPair w, 9 + pwPair w]

/-- Rules 1 and 3 of R322: both moves well formed, no register written twice. -/
def movesOk (w : Nat) : Bool :=
  let xm := bits w 12 12
  let ym := bits w 0 12
  let ds := (moveDst xm).toList ++ (moveDst ym).toList
  moveOk xm && moveOk ym && ds.all (fun r => !(opDsts w).contains r) && ds.eraseDups.length == ds.length

/-- A word of P that a load accepts, in a program of `n` words with the given bindings (R318 to R324, R338). -/
def wordOk (n : Nat) (binds : List Binding) (w : Nat) : Bool :=
  let inbox := fun (p : Nat) => binds.any (fun b => b.port = p && b.kind != 4)
  let outbox := fun (p : Nat) => binds.any (fun b => b.port = p && b.kind == 4)
  let op := pwOp w
  w < 2 ^ 48 && match pwClass w with
  | 0 => op ≤ 0x11 && pwSA w ≤ 11 && bit w 24 == false && (bits w 25 6 == 0 || (0x0C ≤ op && op ≤ 0x0E)) && movesOk w
  | 1 => op ≤ 3 && pwSA w < 8 && pwSB w < 8 && bits w 24 3 == 0 && movesOk w
  | 2 => op ≤ 4 && bits w 24 2 == 0 && movesOk w
  | 3 => op ≤ 3 && pwReg w ≤ 11 && (op == 0 || 8 ≤ pwReg w) && bits w 24 9 == 0
  | 4 =>
    let fixed := [(44, 4), (38, 6), (34, 3)]
    if op = 3 then onlyBits w (fixed ++ [(14, 2), (0, 14)]) && bits w 14 2 ≤ 2 &&
      (bits w 14 2 != 2 || 2 ^ Nat.log2 (pwAImm w + 1) == pwAImm w + 1)
    else if op = 4 then onlyBits w (fixed ++ [(0, 12)])
    else if op = 9 then onlyBits w (fixed ++ [(0, 14)]) && pwAImm w ≤ 47
    else if op ≤ 2 then onlyBits w (fixed ++ [(0, 14)])
    else if op = 5 ∨ op = 6 then onlyBits w (fixed ++ [(30, 4)]) && pwAReg w < 8
    else if op = 7 ∨ op = 8 then onlyBits w (fixed ++ [(30, 4)]) && 8 ≤ pwAReg w && pwAReg w ≤ 11
    else false
  | 5 =>
    let fixed := [(44, 4), (38, 6), (34, 4)]
    pwCond w ≤ 10 &&
    if op = 1 ∨ op = 2 then onlyBits w (fixed ++ [(0, 13)]) && pwTarget w < n
    else if op = 4 then onlyBits w (fixed ++ [(13, 16), (0, 13)]) && pwTarget w < n
    else if op = 5 then onlyBits w (fixed ++ [(30, 4), (0, 13)]) && pwTarget w < n && pwAReg w < 8
    else if op = 6 then onlyBits w (fixed ++ [(13, 16)])
    else if op = 9 then onlyBits w (fixed ++ [(0, 16)])
    else op ≤ 10 && onlyBits w fixed
  | 6 =>
    let fixed := [(44, 4), (38, 6), (34, 4)]
    if op = 0 then onlyBits w (fixed ++ [(28, 2)]) && inbox (pwPort w)
    else if op = 1 then onlyBits w fixed && inbox (pwPort w)
    else if op = 2 then onlyBits w (fixed ++ [(24, 4)]) && outbox (pwPort w) && (pwLink w == 15 || inbox (pwLink w))
    else if op = 3 then onlyBits w (fixed ++ [(30, 4)]) && pwAReg w ≤ 11
    else if op = 5 then onlyBits w (fixed ++ [(28, 2)])
    else if op = 7 then onlyBits w (fixed ++ [(0, 16)])
    else op ≤ 7 && onlyBits w fixed
  | _ => false

/-- Every word of a program is accepted, and no RPT stands ahead of a CTRL or STREAM word (R338). -/
def wordsOk (n : Nat) (binds : List Binding) : List Nat → Bool
  | [] => true
  | w :: ws =>
    let rpt := pwClass w == 5 && pwOp w == 6
    let next := match ws with
      | v :: _ => pwClass v != 5 && pwClass v != 6
      | [] => true
    wordOk n binds w && (!rpt || next) && wordsOk n binds ws

end Sys2Proof.Machine
end

