-- ==== Sys2Proof/Machine/CmbIn.lean ====
section
/-! DEFINITION. The inbox side of the Comb (R325 to R329, R342): TAP dealing, frame, stamp and snapshot bindings, and how a
buffer is filled and becomes ready. -/

namespace Sys2Proof.Machine

/-- The record of cell `c`. -/
def State.cell (s : State) (c : Nat) : Cell := s.cmb.cells.getD c {}

/-- The record of cell `c` changed. -/
def State.modCell (s : State) (c : Nat) (f : Cell → Cell) : State := { s with cmb := { s.cmb with cells := s.cmb.cells.modify c f } }

/-- Cell states of R339. -/
def cellEmpty : Nat := 0
@[inherit_doc cellEmpty] def cellLoaded : Nat := 1
@[inherit_doc cellEmpty] def cellRunning : Nat := 2
@[inherit_doc cellEmpty] def cellWaiting : Nat := 3
@[inherit_doc cellEmpty] def cellHalted : Nat := 4
@[inherit_doc cellEmpty] def cellTrapped : Nat := 5
@[inherit_doc cellEmpty] def cellLoading : Nat := 6
@[inherit_doc cellEmpty] def cellReserved : Nat := 7

/-- State of cell `c`. -/
def State.cellState (s : State) (c : Nat) : Nat := s.rd (CMB.CELLc.STATE c)

/-- Cells whose states counted in `CMB.STATUS` (R350). -/
def State.cellCount (s : State) (st : Nat) : Nat := ((List.range 192).filter (fun c => s.cellState c = st)).length

/-- Cell `c` put into a state, the counts of `CMB.STATUS` with it; a reserved cell shows its state in `CMB.SUPn_EST`. -/
def State.setCellState (s : State) (c st : Nat) : State :=
  let old := s.cellState c
  let bump := fun (s : State) (x : Nat) (up : Bool) =>
    let g := fun (s : State) (f : Fld) => s.wr f (if up then s.rd f + 1 else s.rd f - 1)
    if x = cellRunning then g s CMB.STATUS.RUNNING else if x = cellWaiting then g s CMB.STATUS.WAITING
    else if x = cellTrapped then g s CMB.STATUS.TRAPPED else if x = cellHalted then g s CMB.STATUS.HALTED else s
  let s := bump (bump (s.wr (CMB.CELLc.STATE c) st) old false) st true
  if c % 24 = 23 then s.wr (CMB.SUPn_EST.STATE (c / 24)) st else s

/-- Cell `c` executes: RUNNING or WAITING. -/
def State.cellExecutes (s : State) (c : Nat) : Bool := s.cellState c == cellRunning || s.cellState c == cellWaiting

/-- A binding of cell `c` changed. -/
def State.modBind (s : State) (c port : Nat) (f : Binding → Binding) : State :=
  s.modCell c (fun x => { x with binds := x.binds.map (fun b => if b.port = port then f b else b) })

/-- The binding of a port. -/
def Cell.bind? (x : Cell) (port : Nat) : Option Binding := x.binds.find? (fun b => b.port = port)

/-- The first free buffer of a binding. -/
def Binding.freeBuf (b : Binding) : Option Nat := (List.range b.buffers).find? (fun i => b.bufs.getD i 0 = 0)

/-- Words an item of a format takes (R326). -/
def itemWords (fmt n : Nat) : Nat := if fmt = 4 then 2 * n else n

/-! ### Buffers (R325, R326) -/

/-- Bytes packed three to a word (R326). -/
def packBytes : List Nat → List Nat
  | a :: b :: c :: bs => (a + 256 * b + 65536 * c) :: packBytes bs
  | [a, b] => [a + 256 * b]
  | [a] => [a]
  | [] => []

/-- Data words of output words of a format: main words, and the flag words of memory option 3. -/
def dataWords (fmt : Nat) (ws : List Nat) : List Nat × List Nat :=
  if fmt = 1 then (ws.map (fun w => ofSigned 24 (toSigned 12 w)), [])
  else if fmt = 2 then (ws.map (fun w => ofSigned 24 (toSigned 16 w)), [])
  else if fmt = 3 then (ws.map (· % 16777216), ws.map (· / 16777216))
  else ((ws.map (fun w => [ofSigned 24 (toSigned 16 w), ofSigned 24 (toSigned 16 (w / 65536))])).flatten, [])

/-- Output words out of a frame's data bytes. -/
def unpackWords (fmt : Nat) (bs : List Nat) (first n : Nat) : List Nat :=
  (List.range n).map (fun k =>
    let i := first + k
    if fmt = 1 then (le bs (i * 3 / 2) 2 >>> (i % 2 * 4)) % 4096 else if fmt = 2 then le bs (2 * i) 2 else le bs (4 * i) 4)

/-- Words written into a 16,384-word memory from `a` on. -/
def putWords (m : SMap Nat) (a : Nat) : List Nat → SMap Nat
  | [] => m
  | w :: ws => putWords (SMap.set 0 m (a % 16384) (w % 16777216)) (a + 1) ws

/-- A block of words into the memories a binding or descriptor names (R333). -/
def Cell.place (x : Cell) (mem base : Nat) (ws flags : List Nat) (flagAt : Nat) : Cell := match mem with
  | 0 => { x with x := putWords x.x base ws }
  | 1 => { x with y := putWords x.y base ws }
  | 2 => { x with x := putWords x.x base ws, y := putWords x.y base ws }
  | _ => { x with x := putWords x.x base ws, y := putWords x.y flagAt flags }

/-- The 48 words ahead of the data of a buffer (R325). -/
def bufferHead (header : List Nat) (index items skipped : Nat) (valid last ecc : Bool) : List Nat :=
  (packBytes (slice header 0 129)).take 43 ++ [index, items, min skipped 0xFFFFFF, b2n valid + 2 * b2n last + 4 * b2n ecc, 0]

/-- The word at the PC of a cell. -/
def Cell.word? (x : Cell) : Nat := x.p.getD x.pc 0

/-- A cell that stalls shows WAITING, one that goes on RUNNING; a reserved cell in service shows RESERVED throughout (R317, R339). -/
def State.stall (s : State) (c : Nat) : State :=
  let s := s.modCell c (fun x => { x with stalled := true })
  if s.cellState c = cellRunning then s.setCellState c cellWaiting else s
@[inherit_doc State.stall] def State.unstall (s : State) (c : Nat) : State :=
  let s := s.modCell c (fun x => { x with stalled := false })
  if s.cellState c = cellWaiting then s.setCellState c cellRunning else s

/-- Cell `c` waits in the STREAM instruction of an op code, not in a CLOSE before it. -/
def State.waitsAt (s : State) (c op : Nat) : Bool :=
  let w := (s.cell c).word?
  (s.cell c).stalled && !(s.cell c).inClose && pwClass w == 6 && pwOp w == op

/-- Cell `c` waits in IN on a port (R330). -/
def State.waitsIn (s : State) (c port : Nat) : Bool := s.waitsAt c 0 && pwPort (s.cell c).word? == port

/-- Bytes read for cell `c` by its super's engine before what `tag` names goes on (R332). -/
def State.addCopy (s : State) (c tag addr bytes : Nat) (arch : Bool) : State :=
  if bytes = 0 then s else s.modCell c (fun x => { x with copies := x.copies ++ [⟨tag, addr, bytes, arch⟩] })

/-- Bytes are still to be read for cell `c` under a tag from capture memory. -/
def State.copying (s : State) (c tag : Nat) : Bool := (s.cell c).copies.any (fun q => q.tag == tag) || s.capReading tag

/-- What is still to be read for cell `c` under a tag is given up. -/
def State.endCopies (s : State) (c tag : Nat) : State :=
  (s.modCell c (fun x => { x with copies := x.copies.filter (fun q => q.tag != tag) })).endReads tag

/-- What one command's accesses to on-die memories showed: bit 0 of `err` a word of SRAM corrected, bit 1 a word of a cell's memory
(R345, R537; notes/assumptions/104.md). -/
def State.cellErrors (s : State) (err : Nat) : State :=
  let s := if err.testBit 0 then s.sramCorrected else s
  if err.testBit 1 then s.count CMB.ECC.COUNT CMB.ECC.SAT 1 else s

/-- Buffer `i` of a binding filled and ready; a cell that waits in IN for it goes on (R325, R330). -/
def State.fillBuf (s : State) (c port i : Nat) (head ws flags : List Nat) : State :=
  match (s.cell c).bind? port with
  | none => s
  | some b =>
    let base := b.base + i * b.words
    let s := s.modCell c (fun x => x.place b.memory base (head ++ ws) flags (base + 48))
    let s := s.modBind c port (fun b => { b with bufs := b.bufs.set i 2, ready := b.ready ++ [i], skipped := 0 })
    if s.waitsIn c port then s.unstall c else s

/-! ### TAP (R327) -/

/-- Cells of super `m` with a TAP binding of group `g` that execute. -/
def State.tapCells (s : State) (m g : Nat) : List Nat :=
  ((List.range 24).map (· + 24 * m)).filter (fun c =>
    s.cellExecutes c && (s.cell c).binds.any (fun b => b.kind = 1 && b.group = g))

/-- The groups of super `m` that have an executing cell. -/
def State.tapGroups (s : State) (m : Nat) : List Nat :=
  (((List.range 24).map (· + 24 * m)).map (fun c =>
    if s.cellExecutes c then ((s.cell c).binds.filter (fun b => b.kind = 1)).map Binding.group else [])).flatten.eraseDups

/-- Words in use in super `m`'s tap stage. -/
def State.stageUsed (s : State) (m : Nat) : Nat := ((s.cmb.stage.filter (fun e => e.super = m)).map Staged.words).sum

/-- The tap stages replaced. -/
def State.setStage (s : State) (l : List Staged) : State := { s with cmb := { s.cmb with stage := l } }

/-- A group's record. -/
def State.tapGroup (s : State) (m g : Nat) : TapGroup :=
  (s.cmb.groups.find? (fun e => e.super = m && e.group = g)).getD ⟨m, g, 0, false⟩

/-- A group's record replaced. -/
def State.setTapGroup (s : State) (e : TapGroup) : State :=
  { s with cmb := { s.cmb with groups := e :: s.cmb.groups.filter (fun x => !(x.super = e.super && x.group = e.group)) } }

/-- A frame skipped by a group: counted as LONG or BUSY and in word 45 of its bindings, the group's first skip reported
(R325, R327, R348). -/
def State.tapSkip (s : State) (m g : Nat) (long : Bool) : State :=
  let s := if long then s.count (CMB.SUPn_SKIP.LONG m) (CMB.SUPn_SKIP.LONG_SAT m) 1
    else s.count (CMB.SUPn_SKIP.BUSY m) (CMB.SUPn_SKIP.BUSY_SAT m) 1
  let s := (s.tapCells m g).foldl (fun s c => s.modCell c (fun x => { x with
    binds := x.binds.map (fun b => if b.kind = 1 && b.group = g then { b with skipped := b.skipped + 1 } else b) })) s
  let e := s.tapGroup m g
  if e.skipped then s else (s.setTapGroup { e with skipped := true }).event 0x0232 [m, g]

/-- Whether a binding's buffers can hold `words` data words. -/
def Binding.holds (b : Binding) (words : Nat) : Bool := words + 48 ≤ b.words

/-- One group deals a frame: to the next cell in turn with a fitting free buffer, or the frame is skipped (R327). -/
def State.tapDeal (s : State) (m g table number fmt items : Nat) : State :=
  let cells := s.tapCells m g
  let words := itemWords fmt items
  let e := s.tapGroup m g
  let ord := cells.filter (e.turn ≤ ·) ++ cells.filter (· < e.turn)
  let bind := fun (c : Nat) => (s.cell c).binds.find? (fun b => b.kind = 1 && b.group = g)
  let fits := ord.filter (fun c => match bind c with | some b => b.holds words | none => false)
  let staged := s.cmb.stage.any (fun x => x.super = m && x.table = table && x.number = number)
  match fits.find? (fun c => match bind c with | some b => b.freeBuf.isSome | none => false) with
  | none => s.tapSkip m g fits.isEmpty
  | some c =>
    if !staged && 65536 < s.stageUsed m + words then s.tapSkip m g (decide (65536 < words))
    else match bind c with
      | none => s
      | some b =>
        let i := b.freeBuf.getD 0
        let s := s.modBind c b.port (fun b => { b with
          bufs := b.bufs.set i 1
          waits := b.waits ++ [{ buf := i, table := table, number := number, format := fmt, items := items }] })
        let more := s.cmb.stage.map (fun x =>
          if x.super = m && x.table = table && x.number = number then { x with takers := x.takers + 1 } else x)
        let s := s.setStage (if staged then more else ⟨m, table, number, words, 1⟩ :: s.cmb.stage)
        s.setTapGroup { e with turn := c + 1 }

/-- A frame numbered in the roll reaches the tap of each super its channel feeds (R311, R327); stopped cells are passed
by (R342). -/
def State.tapCommit (s : State) (n : Nat) (f : OpenFrame) : State :=
  (s.members n).foldl (fun s m =>
    let s := (s.tapGroups m).foldl (fun s g => s.tapDeal m g (f.roll % 2) f.number f.format f.length) s
    ((List.range 24).map (· + 24 * m)).foldl (fun s c =>
      if s.cellState c = cellHalted then s.modCell c (fun x => { x with
        binds := x.binds.map (fun b => if b.kind = 1 then { b with skipped := b.skipped + 1 } else b) })
      else s) s) s

/-- A frame's header is complete: its TAP copies may drain (R325). -/
def State.tapClose (s : State) (n : Nat) (f : OpenFrame) (header : List Nat) : State :=
  let words := f.words.reverse
  (s.members n).foldl (fun s m =>
    ((List.range 24).map (· + 24 * m)).foldl (fun s c => s.modCell c (fun x => { x with
      binds := x.binds.map (fun b => if b.kind = 1 then { b with
        waits := b.waits.map (fun w => if w.table = f.roll % 2 && w.number = f.number && !w.ready then
          { w with header := header, data := words, items := f.got, ready := true } else w) } else b) })) s) s

/-- A stage entry has one cell less to drain it. -/
def State.stageDrain (s : State) (m table number : Nat) : State :=
  let l := s.cmb.stage.map (fun x =>
    if x.super = m && x.table = table && x.number = number then { x with takers := x.takers - 1 } else x)
  s.setStage (l.filter (fun x => x.takers != 0))

/-! ### FRAMES (R328) -/

/-- The FRAMES bindings subscribed to channel `n`: cell and port, and whether each can hold one more frame. -/
def State.frameBinds (s : State) (n : Nat) : List (Nat × Nat × Bool) :=
  ((List.range 192).map (fun c =>
    if s.cellExecutes c then
      ((s.cell c).binds.filter (fun b => b.kind = 2 && s.lead b.source = n)).map (fun b => (c, b.port, decide (b.waits.length < 64)))
    else [])).flatten

/-- A kept frame is committed: each FRAMES binding that holds fewer than 64 becomes a holder; the others skip it. -/
def State.framesCommit (s : State) (n : Nat) (f : OpenFrame) : State × List Holder :=
  let s := s.passBy (fun b => b.kind = 2 && s.lead b.source = n)
  (s.frameBinds n).foldl (fun (acc : State × List Holder) b =>
    let (c, port, room) := b
    if room then
      (acc.1.modBind c port (fun b => { b with waits := b.waits ++ [{ table := f.roll % 2, number := f.number, format := f.format }] }),
        acc.2 ++ [.cell c port])
    else (acc.1.modBind c port (fun b => { b with skipped := b.skipped + 1 }), acc.2)) (s, [])

/-! ### STAMPS (R329) -/

/-- Bytes of a stamp record (R169). -/
def Stamp.bytes (t : Stamp) : List Nat :=
  leBytes 8 t.tick ++ leBytes 2 t.frac ++ [t.input, t.flags] ++ leBytes 4 t.seq

/-- A stamp record in six words (R326). -/
def Stamp.words (t : Stamp) : List Nat :=
  [t.tick % 16777216, t.tick / 16777216 % 16777216, t.tick / 2 ^ 48 % 65536 + t.flags * 65536, t.frac + t.input * 65536,
   t.seq % 16777216, t.seq / 16777216]

/-- Stamp records a buffer of a binding holds. -/
def Binding.stampRoom (b : Binding) : Nat := (b.words - 48) / 6

/-- The loss record of a run: time of the first lost record, sequence of the last, LOSS set (R173, R329). -/
def lossRecord (input : Nat) (run : Nat × Nat × Nat) : Stamp := { tick := run.1, frac := run.2.1, input := input, flags := 128, seq := run.2.2 }

/-- A record is lost to a STAMPS binding: it joins the run of losses, and word 45 counts it (R325, R329). -/
def Binding.missStamp (b : Binding) (t : Stamp) : Binding :=
  { b with
    skipped := b.skipped + 1
    lossRun := match b.lossRun with
      | some (a, fr, _) => some (a, fr, t.seq)
      | none => some (t.tick, t.frac, t.seq) }

/-- The loss record of the run that a binding has lost, once it has room for it. -/
def Binding.flushLoss (b : Binding) (now : Nat) : Binding := match b.lossRun with
  | some r => if b.stamps.length < 65536 then { b with stamps := b.stamps ++ [(now, lossRecord b.source r)], lossRun := none } else b
  | none => b

/-- A STAMPS binding takes one record behind the loss record that is due: held up to 65,536 entries, beyond that lost (R329). -/
def Binding.takeStamp (b : Binding) (t : Stamp) (now : Nat) : Binding :=
  let c := b.flushLoss now
  if c.stamps.length < 65536 then { c with stamps := c.stamps ++ [(now, t)] } else b.missStamp t

/-- The first records of a STAMPS binding into its next free buffer. -/
def State.stampBuffer (s : State) (c port : Nat) : State := match (s.cell c).bind? port with
  | none => s
  | some b => match b.freeBuf with
    | none => s
    | some i =>
      let k := min b.stampRoom b.stamps.length
      if k = 0 then s
      else
        let ws := ((b.stamps.take k).map (fun x => x.2.words)).flatten
        let s := s.modBind c port (fun b => { b with stamps := b.stamps.drop k }.flushLoss s.ticks)
        s.fillBuf c port i (bufferHead [] 0 k b.skipped false true false) ws []

/-! ### Meanings -/

/-- What waits first for a binding's buffers changed. -/
def State.modWait (s : State) (c port : Nat) (f : Inbox → Inbox) : State :=
  s.modBind c port (fun b => { b with waits := match b.waits with
    | w :: ws => f w :: ws
    | [] => [] })

/-- A frame's part into a buffer of a FRAMES binding (R328): first its reads are asked for, and once they are made it is copied, with
what they corrected (R242); the claim ends with the last part. -/
def State.framePart (s : State) (c port : Nat) (b : Binding) (w : Inbox) (i : Nat) : State :=
  match (s.table w.table)[w.number]? with
  | none => s.modBind c port (fun b => { b with waits := b.waits.drop 1 })
  | some f =>
    if f.state = 2 then
      let per := b.words - 48
      let room := if f.format = 4 then per / 2 else per
      let k := min room (f.samples - w.done)
      let last := decide (f.samples ≤ w.done + k)
      if !w.asked then
        (s.addCopy c (tagBind c port) f.startAddr (128 + sampleBytes f.format k) false).modWait c port (fun w => { w with asked := true })
      else if s.copying c (tagBind c port) then s
      else
      let ecc := w.ecc || f.scrubbed || s.readEcc (tagBind c port)
      let s := s.endReads (tagBind c port)
      let (ws, fl) := dataWords f.format (unpackWords f.format (s.frameData f) w.done k)
      let s := s.fillBuf c port i (bufferHead (deliveredHeader f.header ecc) w.done k b.skipped true last ecc) ws fl
      if last then
        (s.modBind c port (fun b => { b with waits := b.waits.drop 1 })).dropHolder w.table w.number (.cell c port)
      else s.modWait c port (fun w => { w with done := w.done + k, asked := false, ecc := ecc })
    else s

/-- A snapshot record's part into a buffer (R329), in the same way: byte-packed, the reader's claim ends with the last part. -/
def State.snapPart (s : State) (c port : Nat) (b : Binding) (w : Inbox) (i : Nat) : State :=
  let room := (b.words - 48) * 3
  let body := w.data.drop 128
  let k := min room (body.length - w.done)
  let last := decide (body.length ≤ w.done + k)
  if !w.asked then
    (s.addCopy c (tagBind c port) s.accBase (128 + k) false).modWait c port (fun w => { w with asked := true })
  else if s.copying c (tagBind c port) then s
  else
    let ecc := w.ecc || s.readEcc (tagBind c port)
    let s := s.endReads (tagBind c port)
    let ws := packBytes ((body.drop w.done).take k)
    let s := s.fillBuf c port i (bufferHead (slice w.data 0 128) (w.done / 3) ws.length b.skipped true last ecc) ws []
    if last then
      (s.modBind c port (fun b => { b with waits := b.waits.drop 1 })).snapTaken b.source b.param (some (.cell c port))
    else s.modWait c port (fun w => { w with done := w.done + k, asked := false, ecc := ecc })

/-- BUFFER_READY (R325 to R329): the next buffer of port `port` of cell `c` is complete; a part whose reads are not made yet waits for
them. `err` is what the accesses showed (R345, R537). -/
def execBufferReady (c port err : Nat) (s : State) : Host.Outcome State Fault Refusal :=
  .next (
    if s.up ∧ c < 192 ∧ s.cellExecutes c = true then
      let s := s.cellErrors err
      match (s.cell c).bind? port with
      | none => s
      | some b =>
        if b.kind = 3 then (if b.stampRoom ≤ b.stamps.length then s.stampBuffer c port else s)
        else match b.waits with
          | [] => s
          | w :: ws =>
            if b.kind = 1 then
              if w.ready then
                let (dw, fl) := dataWords w.format w.data
                let skipped := b.skipped
                let s := s.modBind c port (fun b => { b with waits := ws })
                let s := s.stageDrain (c / 24) w.table w.number
                let s := s.count (CMB.SUPn_TAP.FRAMES (c / 24)) (CMB.SUPn_TAP.SAT (c / 24)) 1
                s.fillBuf c port w.buf (bufferHead w.header 0 w.items skipped true true false) dw fl
              else s
            else match b.freeBuf with
              | none => s
              | some i => if b.kind = 2 then s.framePart c port b w i else if b.kind = 5 then s.snapPart c port b w i else s
    else s)

/-- STAMPS_FLUSH (R329): the flush time has passed since the binding's first record. -/
def execStampsFlush (c port : Nat) (s : State) : Host.Outcome State Fault Refusal :=
  .next (
    if s.up ∧ c < 192 ∧ s.cellExecutes c = true then
      match (s.cell c).bind? port with
      | none => s
      | some b => match b.stamps with
        | (t, _) :: _ => if b.kind = 3 ∧ t + b.param ≤ s.ticks then s.stampBuffer c port else s
        | [] => s
    else s)

end Sys2Proof.Machine
end

