-- ==== Sys2Proof/Machine/Live.lean ====
section
/-! DEFINITION. The live-stream packer's side of the host streams (R399 to R401, R409): live items opened, fed, closed, or
voided when the ring, the quota or the credit leaves no room. -/

namespace Sys2Proof.Machine

/-- Place of port `p` among the ports of a stripe mask, and how many there are; an empty mask is the port itself. -/
def stripePlace (mask p : Nat) : Nat × Nat :=
  if mask = 0 then (0, 1) else (popcount p mask, popcount 64 mask)

/-- A packet of sequence `seq` may go under the credit of a stream (R393). -/
def Strm.credited (t : Strm) (seq : Nat) : Bool := newer t.credit seq

/-- The LIVE parts of channel `n`. -/
def State.liveParts (s : State) (n : Nat) : List (Nat × Strm) :=
  (s.streamsOf kLive).filter (fun pt => s.lead (pt.2.param.getD 0 0) = n)

/-- An item is a live item of frame `number` still open. -/
def Item.isLive (i : Item) (number : Nat) : Bool := match i.body with
  | .live _ false => i.number == number
  | _ => false

/-- A live frame of `roll` begins: the part whose turn it is has its item, or records its loss while its partner is absent
(R403, R409). -/
def State.liveOpen (s : State) (n number roll : Nat) : State :=
  (s.liveParts n).foldl (fun s pt =>
    let (k, m) := stripePlace (pt.2.param.getD 1 0) pt.1
    s.modStrm pt.1 pt.2.id (fun t =>
      let turn := t.deal % m = k
      { t with
        deal := t.deal + 1
        queue := if !turn then t.queue
          else if s.session pt.1 = sesOpen then
            t.queue ++ [⟨4, number, .live (itemPrefix 2 n number (2 ^ 64 - 1)) false, 16⟩]
          else addSkip t.queue (if (s.port pt.1).holdEnded then skipAbsent else skipBusy) number number roll })) s

/-- The open live item of a stream is void for a reason: its packets not acknowledged are withdrawn and a SKIP takes their first
sequence (R401). -/
def Strm.voidLive (t : Strm) (reason number roll : Nat) : Strm :=
  let own := ((t.unacked.reverse.takeWhile (fun p => !p.flags.testBit 2)).length)
  let keep := t.unacked.take (t.unacked.length - own)
  let sent := t.queue.headD ⟨0, 0, .bytes [], 0⟩
  let mine := sent.isLive number
  { t with
    queue := addSkip (t.queue.filter (fun i => !i.isLive number)) reason number number roll
    unacked := if mine then keep else t.unacked
    nextSeq := if mine then (t.nextSeq + 2 ^ 32 - own) % 2 ^ 32 else t.nextSeq
    resend := none
    offset := if mine then 0 else t.offset }

/-- Bytes of a live frame reach the streams that carry it: appended while ring, quota and credit leave room, else the
item is void (R399, R400). -/
def State.liveBytes (s : State) (n number roll : Nat) (bs : List Nat) (close : Bool) : State :=
  (s.liveParts n).foldl (fun s pt =>
    if pt.2.queue.any (fun i => i.isLive number) then
      let q := s.port pt.1
      let pmax := s.rd (HPT.Pp_STATUS.P_MAX pt.1) * 64
      let unsent := fun (i : Item) => match i.body with
        | .live b _ => b.length - pt.2.offset
        | _ => 0
      let blocked := pt.2.queue.any (fun i => i.isLive number && pmax ≤ unsent i) && !pt.2.credited pt.2.nextSeq
      if q.quotaMb * 2 ^ 20 < q.held + bs.length then s.modStrm pt.1 pt.2.id (fun t => t.voidLive skipQuota number roll)
      else if ringBytes < q.ring + bs.length || blocked || s.session pt.1 != sesOpen then
        s.modStrm pt.1 pt.2.id (fun t => t.voidLive skipBusy number roll)
      else
        s.modStrm pt.1 pt.2.id (fun t => { t with queue := t.queue.map (fun i => match i.body with
          | .live b false => if i.number = number then { i with body := .live (b ++ bs) close, cost := i.cost + bs.length } else i
          | _ => i) })
    else s) s

/-! ### Leaf inputs (R478) -/

/-- Bytes of leaf inputs kept: none while no MANIFESTS stream is open; else those of open and waiting manifests and of the
MANIFEST items not acknowledged. -/
def State.leafBytes (s : State) : Nat :=
  let ports := s.streamsOf kManifests
  if ports.isEmpty then 0
  else
    let items := ((ports.map (fun pt => (pt.2.queue ++ pt.2.inflight.map (·.2)).filter (fun i => i.typ == 8))).flatten).eraseDups
    let held := items.map (fun i => match i.body with
      | .bytes bs => bs.length - (16 + le bs 20 4)
      | _ => 0)
    33 * s.sec.leaves.length + 33 * ((s.sec.queue.flatten).map (fun m => m.leaves.length)).sum + held.sum

/-- Pool pages taken and given back as the leaf inputs need them; with none free the pool is full as for a stored header
(R223, R229). -/
def State.leafSync (s : State) : State :=
  let need := ceilDiv s.leafBytes 65536
  if need < s.cap.leaf.length then
    ({ s with cap := { s.cap with leaf := s.cap.leaf.drop (s.cap.leaf.length - need) } }).poolCheck
  else (List.range (need - s.cap.leaf.length)).foldl (fun s _ => match s.nextPage with
    | some p => (({ s with cap := { s.cap with leaf := s.cap.leaf ++ [p] } }.request 1 64 (p * 65536)).tookPage p).poolCheck
    | none => { s with cap := { s.cap with noPage := true } }) s

/-! ### READOUT (R396) -/

/-- A READOUT stream deals the frames of its table and roll in order: a CLOSED frame under a claim, or a loss; for a frame that is
no longer, or never was, there to be read a SKIP keeps the numbers contiguous, its reason a free value since R400 names none; an OPEN
frame is waited for (R331, R399, R401; notes/assumptions/105.md). Its parameters are the table and first frame and count as given,
then the table and the roll they named at the open. -/
def State.readoutFeed : Nat → Nat → Nat → State → State
  | 0, _, _, s => s
  | k + 1, p, id, s => match s.strm? p id with
    | none => s
    | some t =>
      let tab := t.param.getD 3 0
      let roll := t.param.getD 4 0
      if t.param.getD 2 0 ≤ t.deal ∨ s.cap.tableRoll.getD tab 0 ≠ roll then s
      else match (s.table tab)[t.next]? with
        | none => s
        | some f =>
          if f.state = 1 then s
          else
            let s := if f.state = 2 then
                let cost := 128 + sampleBytes f.format f.samples
                let (s, took) := s.offer p id ⟨4, t.next, .frame tab t.next, cost⟩ t.next t.next roll
                if took then s.addHolder tab t.next (.stream p id) else s
              else
                let (r, s) := s.free 24 8
                s.modStrm p id (fun x => { x with queue := addSkip x.queue r t.next t.next roll })
            State.readoutFeed k p id (s.modStrm p id (fun x => { x with next := x.next + 1, deal := x.deal + 1 }))

/-- Every READOUT stream served. -/
def State.readoutFeeds (s : State) : State :=
  (s.streamsOf kReadout).foldl (fun s pt => s.readoutFeed (s.table (pt.2.param.getD 3 0)).length pt.1 pt.2.id) s

end Sys2Proof.Machine
end

