-- ==== Sys2Proof/Machine/CalStep.lean ====
section
/-! DEFINITION. Calibration steps as frames see them (R45 to R47, R83, R104, R108): slices that change places, coefficients that
take effect, and the waits for a frame to close. -/

namespace Sys2Proof.Machine

/-- Calibration record of channel `m`. -/
def State.calCh (s : State) (m : Nat) : ChCal := s.cal.ch.getD m {}

/-- Calibration record of channel `m` changed. -/
def State.modCal (s : State) (m : Nat) (f : ChCal → ChCal) : State :=
  { s with cal := { s.cal with ch := s.cal.ch.modify m f } }

/-- Slice `k` of channel `m` changed. -/
def State.modSlice (s : State) (m k : Nat) (f : Slice → Slice) : State :=
  s.modCal m (fun c => { c with slices := c.slices.modify k f })

/-- Slice `k` of channel `m` in a role, at a position, on a multiplexer source (R41, R42). -/
def State.setRole (s : State) (m k role pos mux : Nat) : State :=
  ((s.wr (ADC.SLICEk.ROLE m k) role).wr (ADC.SLICEk.POSITION m k) pos).wr (ADC.SLICEk.MUX m k) mux

/-- The physical slice of channel `m` in service at logical position `p` (R40). -/
def State.sliceAt (s : State) (m p : Nat) : Nat :=
  ((List.range 17).find? (fun k => s.rd (ADC.SLICEk.ROLE m k) = 0 && s.rd (ADC.SLICEk.POSITION m k) = p)).getD 0

/-- The incoming slice of channel `m` that shadows a position, if any; a slice displaced in this slice clock is none (R44, R45). -/
def State.shadowing (s : State) (m : Nat) : Option Nat :=
  (List.range 17).find? (fun k => s.rd (ADC.SLICEk.ROLE m k) = 3 && (s.calCh m).leaving != some k)

/-- One step of the group led by `n`: its epoch increments once (R83). -/
def State.epochStep (s : State) (n : Nat) : State := s.wr (CAL.EPOCH.EPOCH n) (s.rd (CAL.EPOCH.EPOCH n) + 1)

/-- The certified value that channel `m` took for this calibration comes into force at its first epoch (R88, R90): its history entry
gets the epoch once, and waits for the channel no more. -/
def State.certInForce (s : State) (m : Nat) : State :=
  let c := s.calCh m
  if c.certNext then
    let e := s.rd (CAL.EPOCH.EPOCH (s.lead m))
    let newest := match s.led.certs with | x :: _ => x.index | [] => 0
    let s := { s with led := { s.led with certs := s.led.certs.map (fun (x : CertEntry) =>
      if x.index = c.certIdx then { x with
        firstEpoch := if x.firstEpoch.getD m 0 = 0xFFFFFFFF then x.firstEpoch.set m e else x.firstEpoch
        waiting := if x.waiting.testBit m then x.waiting - 2 ^ m else x.waiting } else x) } }
    let s := if c.certIdx = newest then s.putBit CAL.CERT_STATUS.WAITING m false else s
    (s.modCal m (fun c => { c with certNext := false })).event 0x0315 []
  else s

/-- Slice `k` of channel `m` enters CALIBRATING: its measurement begins (R41, R95). -/
def State.calibrate (s : State) (m k : Nat) : State :=
  ((s.setRole m k 2 31 4).modSlice m k (fun x => { x with since := s.now })).wr (CAL.STATE.SLICE m) k

/-- A slice clock after its handover the displaced slice of channel `m` leaves AIN and enters CALIBRATING (R45, R46). -/
def State.leaveDue (s : State) (m : Nat) : State := match (s.calCh m).leaving with
  | some k => (s.modCal m (fun c => { c with leaving := none })).calibrate m k
  | none => s

/-- The next sample of the input led by `n` begins a slice clock. -/
def State.atSliceClock (s : State) (n : Nat) : Bool := (s.cch n).pos % s.posPerSc == 0

/-- A step may take effect on the group led by `n` now, at a slice-clock boundary with SCLK there: in M8 unless the open frame
already contains one, in M4 and M2 once no frame is open or one has closed in the slice clock before (R47, R57, R108, R109). A live
frame holds a step back in any mode only where it contains one already (DESIGN CHOICE, notes/assumptions/95.md). -/
def State.stepAllowed (s : State) (n : Nat) : Bool :=
  let c := s.cch n
  let has := fun (o : Option OpenFrame) => match o with
    | some f => f.flags.testBit 3
    | none => false
  let full := match c.openF with
    | some f => !f.waits && f.got == f.length
    | none => true
  s.atSliceClock n && s.on ADC.SCLK.OK && !has c.liveF && (full || c.stepFree || s.groupSize == 1 && !has c.openF)

/-- A handover accepted on channel `m` is carried out at a boundary: the incoming slice takes position `p`, the displaced one
takes the spare role and goes on beside it for one slice clock (R40, R45, R46, R93). -/
def State.handover (s : State) (m k p : Nat) : State :=
  let old := s.sliceAt m p
  let s := ((s.setRole m old 3 p 0).setRole m k 0 p 0).wr (ADC.STATUS.SPARE m) old
  let s := s.modSlice m k (fun x => { x with handTb := s.ticks })
  let s := s.put (ADC.STATUS.SWAP_PENDING m) false
  s.modCal m (fun c => { c with waiting := none, nextPos := p + 1, leaving := some old, prev := none })

/-- The coefficients of the positions of channel `m` up to this slice clock, kept for the samples before it (R45, R59). -/
def State.keepPast (s : State) (m : Nat) : State :=
  let at_ := (s.cch (s.lead m)).pos / s.posPerSc
  let cs := (List.range 16).map (fun p => ((s.calCh m).slices.getD (s.sliceAt m p) {}).coef)
  s.modCal m (fun c => { c with past := some (at_, cs) })

/-- The group's present epoch is one that the running pass of channel `m` created: its first brings the certified value into force
(R88, R114). -/
def State.passEpoch (s : State) (m : Nat) : State :=
  if s.rd (CAL.STATE.PASS m) = 2 then
    let e := s.rd (CAL.EPOCH.EPOCH (s.lead m))
    (s.modCal m (fun c => { c with epochs := some ((c.epochs.map Prod.fst).getD e, e) })).certInForce m
  else s

/-- Channel `m` has an accepted background update that may be applied: 8 s since the last, no pass running (R104). -/
def State.bgDue (s : State) (m : Nat) : Bool :=
  let c := s.calCh m
  !c.bgNew.isEmpty && (match c.bgUpdateAt with
    | some t => decide (t + ticksOfS 8 ≤ s.now)
    | none => true) && s.rd (CAL.STATE.PASS m) != 2 && s.rd (CAL.STATE.PASS m) != 4

/-- The coefficients with a background change (R100). -/
def BgUpd.apply (u : BgUpd) (co : Coef) : Coef :=
  { co with
    off := co.off.map (· + u.off)
    gain := co.gain.map (fun g => divRound (g * 10000000) (10000000 + u.gain))
    trim := co.trim - divRound u.skew 10
    eq := (List.range 7).map (fun i => co.eq.getD i 0 + u.eq.getD i 0) }

/-- The accepted changes of channel `m` come into force, each on the slice in service at its position (R104). -/
def State.bgApply (s : State) (m : Nat) : State :=
  let s := (s.calCh m).bgNew.foldl (fun s pu =>
    let k := s.sliceAt m pu.1
    let s := s.modSlice m k (fun x => { x with coef := pu.2.apply x.coef })
    s.wr (ADC.SLICEk.TRIM m k) (ofSigned 10 (((s.calCh m).slices.getD k {}).coef.trim))) s
  s.modCal m (fun c => { c with bgNew := [], bgUpdateAt := some s.now })

/-- Every handover and update of the group led by `n` that is due takes effect as one step, where its frames allow it
(R47, R83, R104, R108). In M8 a lone handover acts from its position on, every other step from the slice clock's first sample
(R46, R47). -/
def State.stepsDue (s : State) (n : Nat) : State :=
  let ms := s.members n
  let bg := ms.any s.bgDue
  if (bg || ms.any (fun m => (s.calCh m).waiting.isSome)) && s.stepAllowed n then
    let off := match (s.calCh n).waiting with
      | some (_, p) => if s.groupSize = 1 && !bg then p else 0
      | none => 0
    let own := ms.filter (fun m => (s.calCh m).waiting.isSome)
    let s := ms.foldl State.keepPast s
    let s := own.foldl (fun s m => match (s.calCh m).waiting with
      | some (k, p) => s.handover m k p
      | none => s) s
    let s := ms.foldl (fun s m => if s.bgDue m then s.bgApply m else s) s
    let s := (s.epochStep n).modCap n (fun c => { c with stepOff := off })
    own.foldl State.passEpoch s
  else s

/-- What a slice-clock boundary brings the group led by `n`: displaced slices leave AIN, and steps that are due act (R45, R47). -/
def State.boundary (s : State) (n : Nat) : State :=
  if s.atSliceClock n then
    (((s.members n).foldl State.leaveDue s).stepsDue n).modCap n (fun c => { c with stepFree := false })
  else s

end Sys2Proof.Machine
end

