-- ==== Sys2Proof/Machine/Frames.lean ====
section
/-! DEFINITION. The life of a frame (06_trigger.md R195, 07_capture_memory_and_rolls.md R218 to R222, R230, R233 to R239):
outputs written and kept, frames committed, filled, ended, truncated, and completed with header and digest. -/

namespace Sys2Proof.Machine

/-! ### What a frame carries -/

/-- The frame flags the moment of a sample brings: TB_COAST, TB_UNWARM, CAL_OVERDUE, MAKER_SERVICE (R16, R110, R124, R130,
R144). -/
def State.sampleFlags (s : State) (n : Nat) : Nat :=
  16 * b2n s.tbCoast + 32 * b2n (!s.warm) + 4096 * b2n ((s.members n).any (fun m => s.on (CAL.STATE.OVERDUE m)))
    + 16384 * b2n s.sec.service.isSome

/-- Mean of the last 8 readings of channel `n`'s sensor, in 1/128 °C, as 16 bits (R92, R236); rounded to the nearest 1/128 °C, ties
away from zero (DESIGN CHOICE, notes/assumptions/18.md). -/
def State.tempMean (s : State) (n : Nat) : Nat :=
  let l := (s.cal.ch.getD n {}).temps
  if l.isEmpty then 0 else ofSigned 16 (divRound l.sum (l.length : Int))

/-- An output of channel `n` with its time on TB, tb_state and temperature (R146, R264, R236). -/
def State.stampOut (s : State) (n : Nat) (o : Out) : Out :=
  let p := s.filP n
  let off := if p.mode = 0 then (s.cch n).stepOff - o.pos % s.posPerSc else 0
  { o with stepOff := off, time := s.posTimeLess o.pos p.groupDelay.1 p.groupDelay.2, tbs := s.rd TB.STATE.TB_STATE, temp := s.tempMean n }

/-- The settings a frame of channel `n` begins with (R218, R236, R265). -/
def State.newFrame (s : State) (n : Nat) (live : Bool) : OpenFrame :=
  let p := s.filP n
  { live := live
    keep := !live && s.on (CAP.CHn_CFG.KEEP n)
    retain := s.on (CAP.CHn_CFG.RETAIN n)
    trigCount := s.rd (TRG.CHn_COUNT.COUNT n)
    length := if live then 1048576 else s.rd (CAP.CHn_LEN.SAMPLES n)
    range := s.rd (ADC.RANGE.ACTIVE n)
    format := p.format (s.rd (CAP.CHn_CFG.FORMAT n))
    ratio := p.ratio
    delay := if p.stages then min p.delay 0xFFFFFFFF else 0
    minphase := p.stages && p.phase == 1
    mode := s.rd ADC.MODE.ACTIVE
    roll := s.rollNumber
    flags := 2048 * b2n (p.stages && p.phase == 1) }

/-! ### Commit: number, descriptor, holders (R222, R228, R229, R233) -/

/-- A number of the roll; none when none is left. Taking the last one settles how the roll ends (R229). -/
def State.takeNumber (s : State) : Option (Nat × State) :=
  if s.cap.ending.isSome then none
  else
    let k := s.rd CAP.FRAMES.COUNT
    let s := s.wr CAP.FRAMES.COUNT (k + 1)
    let e := if k + 1 = s.rd CAP.ROLL_CFG.FRAMES then some 2 else if k + 1 = 1048576 then some 3 else none
    some (k, { s with cap := { s.cap with ending := e } })

/-- The holders a kept frame records at its commit: FRAMES streams that take it, FRAMES bindings, the archive mover, a QDR
stack (R222, R289, R328, R354). -/
def State.frameHolders (s : State) (n : Nat) (f : OpenFrame) : State × List Holder :=
  let cost := 128 + sampleBytes f.format f.length
  let ports := (s.streamsOf kFrames).filter (fun pt => s.lead (pt.2.param.getD 0 0) = n)
  let (s, hs) := ports.foldl (fun (acc : State × List Holder) pt =>
    let r := acc.1.offer pt.1 pt.2.id ⟨4, f.number, .frame (f.roll % 2) f.number, cost⟩ f.number f.number f.roll
    (r.1, if r.2 then acc.2 ++ [.stream pt.1 pt.2.id] else acc.2)) (s, [])
  let (s, cs) := s.framesCommit n f
  let mover := if s.on (CAP.CHn_CFG.ARCHIVE n) && s.rd DRM.ARCH_SIZE.PAGES != 0 then [Holder.mover] else []
  let stack := if f.stk && !s.stkOnDie n then [Holder.stack n] else []
  (s, hs ++ cs ++ mover ++ stack)

/-- The frame open on channel `n`: its live frame, or its captured one. -/
def State.frameOf (s : State) (n : Nat) (live : Bool) : Option OpenFrame := if live then (s.cch n).liveF else (s.cch n).openF

/-- The frame open on channel `n` replaced. -/
def State.setFrame (s : State) (n : Nat) (live : Bool) (o : Option OpenFrame) : State :=
  s.modCap n (fun c => if live then { c with liveF := o } else { c with openF := o })

/-- Frame `f` of channel `n` begins: it takes the flags owed to the channel's next frame (R140, R231). -/
def State.beginFrame (s : State) (n : Nat) (f : OpenFrame) : State :=
  let gap := if f.live then (s.cch n).gapLive else (s.cch n).gap
  let fl := f.flags + 8192 * b2n (s.clk.stepOwed.getD n false) + 32768 * b2n gap
  let s := (s.modClk (fun c => { c with stepOwed := c.stepOwed.set n false })).modCap n (fun c =>
    if f.live then { c with gapLive := false } else { c with gap := false })
  let s := s.setFrame n f.live (some { f with flags := fl, base := (fl, 0, false, 0xFFFFFFFF) })
  if f.live then s else (s.put (CAP.CHn_STATUS.OPEN_FRAME n) true).wr (CAP.CHn_STATUS.STATE n) chCapture

/-- Frame `f` of channel `n`, begun and left without a number, is no frame: what it took is owed again, and the channel waits for the
roll to end (R229). -/
def State.dropFrame (s : State) (n : Nat) (f : OpenFrame) : State :=
  let s := (s.setFrame n f.live none).modCap n (fun c =>
    if f.live then { c with gapLive := c.gapLive || f.flags.testBit 15 } else { c with gap := c.gap || f.flags.testBit 15 })
  let s := s.modClk (fun c => { c with stepOwed := c.stepOwed.set n (c.stepOwed.getD n false || f.flags.testBit 13) })
  if f.live then s else (s.put (CAP.CHn_STATUS.OPEN_FRAME n) false).wr (CAP.CHn_STATUS.STATE n) chHoldoff

/-- Outputs `i` to `i + k - 1` of frame `f` reach accumulation. -/
def State.accFeed (s : State) (n : Nat) (f : OpenFrame) (i k : Nat) : State × OpenFrame :=
  ((List.range k).zip ((f.words.drop (f.got - (i + k))).take k).reverse).foldl
    (fun acc jw => acc.1.accSample n acc.2 (i + jw.1) jw.2) (s, f)

/-- The frame open on channel `n` commits: it takes its number and descriptor, its header slot and holders where it is kept, its place in
stacks, maps and taps, and the whole blocks it has already go their ways (R222, R223, R233). With no number left it is no frame. -/
def State.numberFrame (s : State) (n : Nat) (live : Bool) : State := match s.frameOf n live with
  | none => s
  | some f => match s.takeNumber with
    | none => s.dropFrame n f
    | some (k, s) =>
      let f := { f with number := k, numbered := true }
      let s := s.countPlain (CAP.CHn_FRAMES.COUNT n) 1
      let t := f.roll % 2
      let whole := f.got / 32 * 32
      if f.live then
        let s := s.setTable t (s.table t ++ [{ channel := n, state := 5, format := f.format }])
        let s := (s.setFrame n true (some f)).liveOpen n k f.roll
        if whole = 0 then s else s.liveBytes n k f.roll (packWords f.format (f.words.reverse.take whole)) false
      else
        let (s, f) := if f.keep then s.accCommit n f else (s, f)
        let s := s.tapCommit n f
        let (s, slot) := if f.keep then (match s.headerSlot with
            | some (x, s') => (s', x)
            | none => ({ s with cap := { s.cap with noPage := true } }, 0xFFFFFFFF)) else (s, 0xFFFFFFFF)
        let (s, hs) := if f.keep then s.frameHolders n f else (s, [])
        let d : Frame := { channel := n, state := if f.keep then 1 else 4, format := f.format, headerSlot := slot
                           holders := hs, retain := f.retain, first := f.first
                           blocks := if f.keep then blocksOf (s.cch n).blocks f.first f.got else [] }
        let s := s.setTable t (s.table t ++ [d])
        let (s, f) := if f.keep then s.accFeed n f 0 whole else (s, f)
        s.setFrame n false (some f)

/-- Frame `f` of channel `n` begins and commits at once, its anchor being the earliest there is. -/
def State.openFrame (s : State) (n : Nat) (f : OpenFrame) : State := (s.beginFrame n f).numberFrame n f.live

/-! ### Numbers in the order of anchors (R189, R233) -/

/-- Frames begun and without a number: anchor, channel, whether live. -/
def State.unnumbered (s : State) : List (Nat × Nat × Bool) :=
  ((List.range 8).map (fun n => [true, false].filterMap (fun live => match s.frameOf n live with
    | some f => if f.numbered then none else some (f.firstTime, n, live)
    | none => none))).flatten

/-- The first of them in the order of anchors, equal ones in ascending channel. -/
def firstAnchor : List (Nat × Nat × Bool) → Option (Nat × Nat × Bool)
  | [] => none
  | a :: l => match firstAnchor l with
    | some b => if b.1 < a.1 || b.1 == a.1 && decide (b.2.1 < a.2.1) then some b else some a
    | none => some a

/-- Frames take their numbers in order, as long as the anchor and channel of the next one stand. -/
def State.numberWhile (s : State) (ok : Nat → Nat → Bool) : Nat → State
  | 0 => s
  | fuel + 1 => match firstAnchor s.unnumbered with
    | none => s
    | some (a, n, live) => if ok a n then (s.numberFrame n live).numberWhile ok fuel else s

/-- Events that lag, and expiries of timers, presented (R189, R192). -/
def State.presentDue (s : State) : State :=
  let s := s.presentLagging
  (List.range 8).foldl (fun s m => s.expireTimers m s.tb) s

/-- Frames whose anchor lies 48 ticks back, with no event of an earlier time still to be taken, take their numbers. -/
def State.numberDue (s : State) : State :=
  if s.unnumbered.isEmpty then s
  else
    let s := s.presentDue
    s.numberWhile (fun a n => decide (a / 65536 + 48 ≤ s.ticks) && (List.range 8).all (fun m => match (s.tch m).queue with
      | e :: _ => decide (a < e.time) || a == e.time && decide (n ≤ m)
      | [] => true)) 16

/-- The frame open on channel `n` takes its number now if it has none, after those of earlier anchors: it is about to close. -/
def State.numberNow (s : State) (n : Nat) (live : Bool) : State := match s.frameOf n live with
  | none => s
  | some f => if f.numbered then s else s.numberWhile (fun a m => decide (a < f.firstTime) || a == f.firstTime && decide (m ≤ n)) 16

/-! ### Filling -/

/-- Frame `f` with one more output (R84, R237, R268, R272). -/
def OpenFrame.take (f : OpenFrame) (o : Out) : OpenFrame :=
  let i := f.got
  let good := !o.settling && !o.hole
  let step := i != 0 && o.epoch != f.epoch && !f.flags.testBit 3
  let f := if i = 0 then
      { f with epoch := o.epoch, firstPos := o.pos, firstTime := o.time, tbState := o.tbs, temp := o.temp } else f
  let f := { f with
    words := o.word :: f.words
    got := i + 1
    flags := (f.flags ||| o.flags) ||| (4 * b2n o.ovr ||| (2 * b2n o.settling ||| 8 * b2n step))
    stepIdx := if step then i + o.stepOff else f.stepIdx
    firstValid := if f.valid then f.firstValid else if good then i else i + 1
    valid := f.valid || good }
  if f.got % 32 = 0 then { f with base := (f.flags, f.firstValid, f.valid, f.stepIdx) } else f

/-- An output joins the open frame of channel `n`; a whole block of a kept frame goes on to accumulation, which takes no output that a
truncation would discard (R218, R239, R276, R288). -/
def State.appendOut (s : State) (n : Nat) (o : Out) : State := match (s.cch n).openF with
  | none => s
  | some f =>
    let f := f.take o
    let (s, f) := if f.keep && f.numbered && f.got % 32 == 0 then s.accFeed n f (f.got - 32) 32 else (s, f)
    s.modCap n (fun c => { c with openF := some f })

/-- The open frame begins at output `first`: the outputs already written join it, and its blocks are pinned (R195, R222). -/
def State.fillFrom (s : State) (n first : Nat) : State := match (s.cch n).openF with
  | none => s
  | some f =>
    let c := s.cch n
    let start := c.outN - c.recent.length
    let first := max first start
    let outs := (c.recent.reverse.drop (first - start)).take f.length
    let s := s.modCap n (fun c => { c with openF := some { f with waits := false, first := first } })
    let s := if f.keep && f.numbered then s.modFrame (f.roll % 2) f.number (fun fr => { fr with
        first := first, blocks := blocksOf c.blocks first outs.length }) else s
    outs.foldl (fun s o => s.appendOut n o) s

/-- Output `o` is the trigger sample of the waiting frame `f`, or lies after it (R195, R266). -/
def State.isTrigger (s : State) (n : Nat) (f : OpenFrame) (o : Out) : Bool :=
  match f.detPos with
  | some k => if (s.filP n).mode = 0 then decide (k ≤ o.pos) else
      if f.format = 4 then decide ((f.trigTime : Int) < o.time + s.posSpan f.ratio 1) else decide (f.trigTime ≤ o.time)
  | none =>
      if f.format = 4 then decide ((f.trigTime : Int) < o.time + s.posSpan f.ratio 1) else decide (f.trigTime ≤ o.time)

/-! ### Ending (R198, R230, R235, R239) -/

/-- Frame `f` of channel `n` closes, whole or truncated with cause bit `err` of R238: it waits for its header and digest.
`last` says that its channel takes no further frame in the roll. -/
def State.closeFrame (s : State) (n : Nat) (f : OpenFrame) (err : Option Nat) (last : Bool) : State :=
  let cut := f.got % 32
  let f := match err with
    | none => f
    | some b =>
      let f := if cut = 0 then f else { f with
        words := f.words.drop cut, got := f.got - cut, errFlags := f.errFlags + 16
        flags := f.base.1, firstValid := f.base.2.1, valid := f.base.2.2.1, stepIdx := f.base.2.2.2 }
      { f with flags := f.flags ||| 1, errFlags := f.errFlags + 2 ^ b }
  -- a step whose first sample lies past the frame's last is not in the frame (R46, R84)
  let f := if f.flags.testBit 3 && f.got ≤ f.stepIdx then { f with flags := f.flags - 8, stepIdx := 0xFFFFFFFF } else f
  let full := s.cap.ending == some 3
  let f := { f with flags := f.flags ||| (128 * b2n last + 256 * b2n (last && full)) }
  let s := if err.isSome then s.count (CAP.CHn_TRUNC.COUNT n) (CAP.CHn_TRUNC.SAT n) 1 else s
  if f.live then (s.modCap n (fun c => { c with liveF := none, closing := c.closing ++ [f] }))
  else
    let s := if f.keep then
        (s.storeBlk n f.format).modFrame (f.roll % 2) f.number (fun fr => { fr with
          samples := f.got, blocks := blocksOf fr.blocks.reverse f.first f.got })
      else s
    let s := (s.modCap n (fun c => { c with openF := none, stepFree := true, closing := c.closing ++ [f] })).put
      (CAP.CHn_STATUS.OPEN_FRAME n) false
    if f.keep then s.accFrameEnd n f f.got else s

/-- The newest sampling position under output `o` of channel `n` (R249, R262). -/
def State.lastPos (s : State) (n : Nat) (o : Out) : Nat := o.pos + ((s.filP n).ratio - (s.filP n).df)

/-- The open frame of channel `n` has all its outputs and closes: a triggered channel goes to HOLDOFF, and so does every
channel once no number is left (R198, R229). A channel back in PRIMING stays there (R197). -/
def State.frameEnd (s : State) (n : Nat) : State :=
  let s := s.numberNow n false
  match (s.cch n).openF with
  | none => s
  | some f =>
    let none_ := s.cap.ending.isSome
    let newest := match (s.cch n).recent with | o :: _ => s.lastPos n o | [] => 0
    let s := s.closeFrame n f none none_
    if s.chState n = chPriming then s
    else if f.triggered then
      (s.modCap n (fun c => { c with
        deadTo := newest + 256 * s.groupSize, refill := s.rd (CAP.CHn_PRE.SAMPLES n), armedAt := none })).wr
        (CAP.CHn_STATUS.STATE n) chHoldoff
    else if none_ then s.wr (CAP.CHn_STATUS.STATE n) chHoldoff else s

/-- The open frame of channel `n` is full. -/
def State.frameFull (s : State) (n : Nat) : Bool := match (s.cch n).openF with
  | some f => !f.waits && f.got == f.length
  | none => false

/-- What is open of channel `n` closes at a stop or roll end with cause bit `err`: a full frame closes whole, one whose
trigger sample has not come keeps its pre-trigger samples (R239). -/
def State.truncate (s : State) (n err : Nat) : State :=
  let s := if s.frameFull n then s.frameEnd n else s
  let s := s.numberNow n false
  let s := match (s.cch n).openF with
    | none => s
    | some f =>
      let s := if f.waits then s.fillFrom n ((s.cch n).outN - f.pre) else s
      match (s.cch n).openF with
      | some f => s.closeFrame n f (some err) true
      | none => s
  let s := s.numberNow n true
  match (s.cch n).liveF with
  | some f => s.closeFrame n f (some err) true
  | none => s

/-! ### Writing (R219, R234) -/

/-- An output is written: its block placed where one begins, kept back, stored where one ends. A page that is needed and not
there ends the roll (R229). -/
def State.writeOut (s : State) (n : Nat) (o : Out) : State :=
  let fmt := (s.filP n).format (s.rd (CAP.CHn_CFG.FORMAT n))
  let i := (s.cch n).outN
  let keep := s.on (CAP.CHn_CFG.KEEP n)
  let s := if keep && i % 32 == 0 then (match s.placeBlk n i fmt with
      | none => { s with cap := { s.cap with noPage := true } }.modCap n (fun c => { c with starved := true })
      | some s' => match (s'.cch n).openF, (s'.cch n).blocks with
        | some f, b :: _ => if f.keep && f.numbered && !f.waits then
            s'.modFrame (f.roll % 2) f.number (fun fr => { fr with blocks := fr.blocks ++ [b] }) else s'
        | _, _ => s') else s
  let s := s.modCap n (fun c => { c with recent := o :: c.recent, outN := i + 1 })
  -- a whole stripe of the page is a request of class 0 (R224)
  let (stripes, addr) := match (s.cch n).blocks with
    | b :: _ => ((b.addr % 65536 + blockBytes fmt) / 1024 - b.addr % 65536 / 1024, b.addr)
    | [] => (0, 0)
  if keep && i % 32 == 31 then (s.storeBlk n fmt).request 0 stripes addr else s

/-- The counts that stand before ARMED, after an output that is written: with the last of them the channel is ARMED, at the time of the
newest sample under it (R27, R198, R266). -/
def State.countReady (s : State) (n : Nat) (o : Out) : State :=
  let c := s.cch n
  let t := s.posTime (s.lastPos n o)
  if s.chState n = chPriming then
    if c.priming = 0 ∨ o.settling = true then s
    else s.modCap n (fun c => { c with priming := c.priming - 1, armedAt := if c.priming = 1 then some t else c.armedAt })
  else if s.chState n = chHoldoff ∧ c.refill ≠ 0 then
    s.modCap n (fun c => { c with refill := c.refill - 1, armedAt := if c.refill = 1 then some t else c.armedAt })
  else s

/-- A frame of RECORD kind may begin with output `o` (R69, R218, R219). -/
def State.recordOpens (s : State) (n : Nat) (o : Out) : Bool :=
  s.on (CAP.CHn_CFG.KIND n) && (s.cch n).openF.isNone && !o.hole && (s.cch n).invalid == 0 && s.cap.ending.isNone &&
    (s.chState n == chPriming || s.chState n == chCapture)

/-- Output `o` of channel `n` falls inside the re-arm dead time, which ends with a sample of its own: it is not written
(R198, R219). -/
def State.inDead (s : State) (n : Nat) (o : Out) : Bool :=
  s.chState n == chHoldoff && decide (s.lastPos n o ≤ (s.cch n).deadTo)

/-- One output of channel `n` reaches the capture writer and its frames. -/
def State.pushOutput (s : State) (n : Nat) (o : Out) : State :=
  let s := if s.frameFull n then s.frameEnd n else s
  if s.chState n = chStopped ∨ ¬ s.on (CAP.CHn_STATUS.IN_ROLL n) ∨ (s.cch n).starved then s
  else if s.inDead n o then s
  else
    let s := (s.writeOut n o).countReady n o
    let i := (s.cch n).outN - 1
    let s := match (s.cch n).openF with
      | some f =>
        if f.waits then (if s.isTrigger n f o then s.fillFrom n (i - f.pre) else s) else s.appendOut n o
      | none => if s.recordOpens n o then (s.beginFrame n (s.newFrame n false)).fillFrom n i else s
    s.trimKept n

/-! ### Live frames (R70, R109, R233, R409) -/

/-- One output of channel `n` reaches its live packer: live frames of 2^20 outputs, their bytes sent block by block. -/
def State.liveFeed (s : State) (n : Nat) (o : Out) : State :=
  if s.chState n = chStopped ∨ ¬ s.on (CAP.CHn_STATUS.IN_ROLL n) ∨ (s.cch n).startInvalid then s
  else
    let s := if (s.cch n).liveF.isNone && !(s.liveParts n).isEmpty && s.cap.ending.isNone then
        s.beginFrame n (s.newFrame n true) else s
    match (s.cch n).liveF with
    | none => s
    | some f =>
      let f := f.take o
      let s := s.setFrame n true (some f)
      let s := if f.numbered && f.got % 32 == 0 then
          s.liveBytes n f.number f.roll (packWords f.format ((f.words.take 32).reverse)) false else s
      if f.got < f.length then s
      else
        let s := s.numberNow n true
        match (s.cch n).liveF with
        | some f => s.closeFrame n f none s.cap.ending.isSome
        | none => s

/-! ### Header and digest (R218, R235, R236, R474) -/

/-- The oldest closed frame of channel `n` gets its header, and its digest and leaf where it is kept or live. -/
def State.completeFrame (s : State) (n : Nat) : State := match (s.cch n).closing with
  | [] => s
  | f :: rest =>
    let s := s.modCap n (fun c => { c with closing := rest })
    let t := f.roll % 2
    if f.live then
      let d := f.digest n
      let (ref, s) := s.addLeaf 1 d
      s.liveBytes n f.number f.roll (f.header n d ref) true
    else if f.keep then
      let d := f.digest n
      let (ref, s) := s.addLeaf 1 d
      let h := f.header n d ref
      let slot := ((s.table t).getD f.number {}).headerSlot
      let s := if slot = 0xFFFFFFFF then s
        else { s with cap := { s.cap with mem := Memory.write 0 s.cap.mem (slot * 128) h } }.requestHeader (slot * 128)
      let s := s.modFrame t f.number (fun fr => { fr with state := 2, header := h })
      let s := if f.stk && !s.stkOnDie n && (s.ach n).wait.contains (t, f.number) then s.mergeRequest n f.format else s
      (s.tapClose n f h).readoutFeeds.leafSync.tryRelease t f.number
    else
      let h := f.header n [] 0xFFFFFFFFFFFFFFFF
      let s := s.tapClose n f h
      let (s, f) := s.accCommit n f
      let (s, f) := s.accFeed n f 0 f.got
      s.accFrameEnd n f f.got

end Sys2Proof.Machine
end

