-- ==== Sys2Proof/Machine/Rolls.lean ====
section
/-! DEFINITION. Sequencers taking their events (06_trigger.md R189 to R200), commit actions, and rolls: starts, stops, roll
ends, continuous rolls, releases (07_capture_memory_and_rolls.md R227 to R233, R239, R244). -/

namespace Sys2Proof.Machine

/-! ### Commit actions (R195 to R197) -/

/-- The time from which channel `n` has been ARMED: the end of its pre-trigger depth, or, with none to refill, of the re-arm dead time; in
HOLDOFF not before the holdoff has ended (R27, R198). -/
def State.armedFrom (s : State) (n : Nat) : Option Nat :=
  let c := s.cch n
  if s.chState n = chHoldoff then
    let ready := if c.armedAt = none ∧ c.refill = 0 ∧ c.deadTo < c.pos then some (s.posTime c.deadTo) else c.armedAt
    ready.bind (fun a => (s.tch n).hold.over.map (max a))
  else c.armedAt

/-- Channel `n` was ARMED at time `t`, whatever its registers show yet: no frame open, the pre-trigger depth and the dead time passed. A
holdoff holds it back only in HOLDOFF, not once a range change has brought it to ARMED again (R27, R195, R198, R200). -/
def State.armedFor (s : State) (n t : Nat) : Bool :=
  !s.on (CAP.CHn_CFG.KIND n) && s.cap.ending.isNone &&
    (s.chState n == chPriming || s.chState n == chArmed || s.chState n == chHoldoff) &&
    (match s.armedFrom n with
      | some a => decide (a ≤ t)
      | none => false)

/-- Index of the trigger sample of frame `f` among the outputs kept, the oldest that answers (R195, R266). -/
def State.triggerIndex (s : State) (n : Nat) (f : OpenFrame) : Option Nat :=
  let c := s.cch n
  let start := c.outN - c.recent.length
  ((List.range c.recent.length).find? (fun i => s.isTrigger n f (c.recent.reverse.getD i ⟨0, 0, false, false, 0, 0, 0, 0, 0, false, 0⟩))).map (· + start)

/-- A commit judged after a range change: the channel was ARMED at `t` before it and the whole frame lies before it (R197). -/
def State.cutAdmits (s : State) (n t : Nat) (f : OpenFrame) : Bool := match (s.cch n).cut with
  | some (tc, ic, some a, _) =>
    s.chState n == chPriming && decide (a ≤ t) && decide (t < tc) && s.cap.ending.isNone && !s.on (CAP.CHn_CFG.KIND n) &&
      (match s.triggerIndex n f with
        | some i => decide (i + f.length ≤ ic + f.pre)
        | none => false)
  | _ => false

/-- The writer of channel `n` goes back to output `i`: blocks that begin later are given back (R189, R219). -/
def State.rewind (s : State) (n i : Nat) : State :=
  let fmt := (s.filP n).format (s.rd (CAP.CHn_CFG.FORMAT n))
  s.modCap n (fun c =>
    let bs := c.blocks.filter (fun b => b.index < i)
    let stop : Nat := match bs with
      | b :: _ =>
        let here := min (blockBytes fmt) (65536 - b.addr % 65536)
        if here = blockBytes fmt then b.addr + here else b.next + (blockBytes fmt - here)
      | [] => 0
    let same := bs.length = c.blocks.length
    { c with
      recent := c.recent.drop (c.outN - i), outN := i, blocks := bs
      page := if same then c.page else if stop % 65536 = 0 then none else some (stop / 65536)
      offset := if same then c.offset else stop % 65536 }) |>.poolCheck

/-- The committed frame of channel `n` takes the outputs already there. Those after its last one are written again, now that
they are known to follow a frame (R195, R198, R219). -/
def State.placeTrigger (s : State) (n : Nat) : State := match (s.cch n).openF with
  | none => s
  | some f => match s.triggerIndex n f with
    | none => s
    | some i =>
      let c := s.cch n
      let stop := i - f.pre + f.length
      if s.chState n = chPriming then (s.fillFrom n (i - f.pre)).frameEnd n
      else if stop < c.outN then
        let late := (c.recent.take (c.outN - stop)).reverse
        late.foldl (fun s o => s.pushOutput n o) ((s.rewind n stop).fillFrom n (i - f.pre))
      else s.fillFrom n (i - f.pre)

/-- A commit action of channel `n` on event `e`, counted once as held, missed or committed (R195 to R197, R200, R206, R207). -/
def State.commitAction (s : State) (n : Nat) (e : TEvent) (seqState : Nat) : State :=
  let s := s.countPlain (TRG.CHn_COUNT.COUNT n) 1
  let h := (s.tch n).hold
  if h.runs e.time && !e.force then
    let s := s.count (TRG.CHn_HELD.COUNT n) (TRG.CHn_HELD.SAT n) 1
    if h.kind = 2 then
      let s := s.modTrg n (fun c => { c with hold := { h with left := h.left - 1 } })
      if h.left = 1 then s.put (TRG.CHn_STATUS.HOLDOFF n) false else s
    else s
  else
    let f := s.newFrame n false
    let f := { f with
      triggered := true, trigTime := e.time, trigSource := e.src, seqState := if e.force then 128 else seqState
      pre := s.rd (CAP.CHn_PRE.SAMPLES n), waits := true, detPos := e.pos
      flags := f.flags + 512 * b2n e.fallback }
    let admits := s.cutAdmits n e.time f
    -- at a stop a trigger sample at or after the boundary makes a miss (R244)
    let beyond := (s.cch n).stopAt.isSome && (s.triggerIndex n f).isNone
    if beyond || !admits && !s.armedFor n e.time then s.count (TRG.CHn_MISSED.COUNT n) (TRG.CHn_MISSED.SAT n) 1
    else
      let f := match (s.cch n).cut with
        | some (_, _, _, r) => if admits then { f with range := r } else f
        | none => f
      let h := holdoffOf (s.forceAt n e.time) e.time (s.tch n).rearms
      let s := (s.modTrg n (fun c => { c with hold := h })).put (TRG.CHn_STATUS.HOLDOFF n) (h.kind != 0 && (h.kind != 2 || h.left != 0) && (h.kind != 3 || h.until_.isNone))
      let s := s.wr (TRG.CHn_STATUS.LAST_SOURCE n) e.src
      let s := if e.pos.isSome then (s.wr (TRG.CHn_STATUS.PHI n) e.phi).put (TRG.CHn_STATUS.FALLBACK n) e.fallback else s
      let s := s.pulseCommit n (e.time / 65536)
      let s := s.openFrame n f
      let s := if admits then s.wr (CAP.CHn_STATUS.STATE n) chPriming else s
      s.placeTrigger n

/-! ### Sequencers (R192 to R194, R200) -/

/-- The front event of channel `n`'s sequencer is taken: a FORCE commits by itself, DIRECT commits on the channel's own
detector, TABLE runs at most one transition (R191, R192, R200). -/
def State.seqTake (s : State) (n : Nat) : State := match (s.tch n).queue with
  | [] => s
  | e :: rest =>
    let s := s.modTrg n (fun c => { c with queue := rest })
    let s := if 41 ≤ e.src ∧ e.src < 45 then s.modTrg n (fun c => { c with
        timers := c.timers.modify (e.src - 41) (fun t => { t with on := false, queued := false, expired := true }) }) else s
    if e.force then s.commitAction n e 128
    else if s.rd (TRG.CHn_SEQ.MODE n) = 0 then (if e.src = n then s.commitAction n e 0 else s)
    else match s.seqTable n with
      | none => s
      | some tab => match s.transition n tab e with
        | none => s
        | some (j, nx, ac) =>
          let st := s.rd (TRG.CHn_STATUS.STATE n)
          let s := if ac.testBit 0 then s.commitAction n e (st + 16 * j + 64) else s
          s.seqActions n tab e nx ac

/-- Every sample before the boundary of a stop of channel `n` has come (R239). -/
def State.samplesCame (s : State) (n : Nat) : Bool := match (s.cch n).stopAt with
  | some (p, _) => decide (p ≤ (s.cch n).pos) || !s.on ADC.SCLK.OK
  | none => true

/-- Events of sequencer `n` that fall due are not behind one of another sequencer with an earlier time, so that frames are
numbered in the order of their trigger times (R189, R233). -/
def State.seqDue (s : State) (n : Nat) : Bool := match (s.tch n).queue with
  | [] => false
  | e :: _ => s.samplesCame n && decide (e.time / 65536 + 48 ≤ s.ticks) && (List.range 8).all (fun m =>
      match (s.tch m).queue with
      | f :: _ => m == n || decide (e.time < f.time) || e.time == f.time && decide (n < m)
      | [] => true)

/-! ### Stops and roll ends (R26, R27, R227 to R231, R239, R270) -/

/-- Channels in the open roll. -/
def State.inRoll (s : State) : List Nat := (List.range 8).filter (fun n => s.on (CAP.CHn_STATUS.IN_ROLL n))

/-- The channels in the roll as `CAP.ROLL_STATUS.CHANNELS` shows them. -/
def State.showRoll (s : State) : State := s.wr CAP.ROLL_STATUS.CHANNELS ((s.inRoll.map (2 ^ ·)).sum)

/-- Device state after channels have stopped or started (R26). -/
def State.settleDev (s : State) : State :=
  if s.dev = devActive ∧ s.capturing = [] then
    { s.wr SYS.STATE.STATE devIdle with boot := { s.boot with idleSince := s.now } }
  else if s.dev = devIdle ∧ s.capturing ≠ [] then s.wr SYS.STATE.STATE devActive else s

/-- Channel `n` at STOPPED: chain stopped, the writer's pages given back (R216, R222, R276). Samples still to pass as invalid stay so
(R66). -/
def State.toStopped (s : State) (n : Nat) : State :=
  let s := (s.chainStop n).modCap n (fun c => { c with
    priming := 0, deadTo := 0, refill := 0, armedAt := none, recent := [], blocks := [], page := none, offset := 0, gap := false
    gapLive := false, startInvalid := false, cut := none, stopAt := none, alone := false, starved := false })
  let s := s.modTrg n (fun c => { c with timers := List.replicate 4 {}, hold := {}, queue := [], above := [] })
  let s := s.put (TRG.CHn_STATUS.HOLDOFF n) false
  ((s.wr (CAP.CHn_STATUS.STATE n) chStopped).put (CAP.CHn_STATUS.IN_ROLL n) false).poolCheck

/-- Channel `n` stopped with truncation cause bit `err`, its sequencer's events taken (R239, R244); so is the chain that ran on without its
channel (R261). -/
def State.stopChannel (s : State) (n err : Nat) : State :=
  if s.chState n = chStopped then (if (s.chain n).kept.isEmpty then s else s.chainStop n) else ((s.truncate n err).toStopped n).accStop n

/-- Channels stopped with truncation cause bit `err`. -/
def State.stopThese (s : State) (chs : List Nat) (err : Nat) : State := chs.foldl (fun s n => s.stopChannel n err) s

/-- The open roll ends with a cause (R229 to R231): 1 STOP, 2 FRAME_COUNT, 3 TABLE_FULL, 4 NO_PAGE, 5 ABORT, 6 SCLK. -/
def State.endRoll (s : State) (cause : Nat) : State :=
  if !s.on CAP.ROLL_STATUS.OPEN then s
  else
    let chs := s.inRoll
    let err := if cause = 4 then 2 else if cause = 5 then 3 else if cause = 6 then 1 else 0
    let on := s.on CAP.ROLL_CFG.CONTINUOUS && (cause == 2 || cause == 3 || cause == 4) && s.on ADC.SCLK.OK
    let s := chs.foldl (fun s n => s.truncate n err) s
    let s := chs.foldl (fun s n =>
      if on then
        let s := s.modTrg n (fun c => { c with hold := {}, timers := List.replicate 4 {}, queue := [] })
        let s := s.modCap n (fun c => { c with
          outN := ceilDiv c.outN 32 * 32, recent := [], blocks := [], armedAt := none, deadTo := 0, refill := 0
          stopAt := none, alone := false, starved := false })
        let s := s.put (TRG.CHn_STATUS.HOLDOFF n) false
        ((s.put (CAP.CHn_STATUS.IN_ROLL n) false).wr (CAP.CHn_STATUS.STATE n) chPriming).poolCheck
      else (s.toStopped n).accStop n) s
    let s := ((s.put CAP.ROLL_STATUS.OPEN false).wr CAP.ROLL_STATUS.LAST_END cause).wr CAP.ROLL_STATUS.CHANNELS 0
    let s := { s with cap := { s.cap with
      ending := none, endNext := none, noPage := false, rollEndAt := s.now, rolled := true
      nextChannels := if on then (chs.map (2 ^ ·)).sum ||| s.cap.nextChannels else 0 } }
    let s := s.event 0x0211 [s.rd CAP.ROLL_LO.NUMBER, s.rd CAP.ROLL_HI.NUMBER, cause, s.rd CAP.FRAMES.COUNT]
    (s.settleDev).demandRefresh

/-- A stop or roll end reaches channel `n`: its boundary is the next slice clock, or the next sample where SCLK is lost. Events of trigger
times at or after it are discarded; the others are still to be taken (R189, R194, R239, R244; notes/assumptions/106.md). -/
def State.markStop (s : State) (n : Nat) : State :=
  let c := s.cch n
  if c.stopAt.isSome then s
  else
    let p := if s.on ADC.SCLK.OK then ceilDiv c.pos s.posPerSc * s.posPerSc else c.pos
    let b := s.posTime p
    (s.modCap n (fun c => { c with stopAt := some (p, b), armedAt := (s.armedFrom n).or c.armedAt })).modTrg n (fun t =>
      { t with queue := t.queue.filter (fun e => decide (e.time < b)) })

/-- Every channel of the open roll is on its way to STOPPED. -/
def State.rollEnding (s : State) : Bool := s.on CAP.ROLL_STATUS.OPEN && s.inRoll.all (fun n => (s.cch n).stopAt.isSome)

/-- The open roll is to end with a cause: every channel gets its boundary (R229, R239). -/
def State.markEnd (s : State) (cause : Nat) : State :=
  if !s.on CAP.ROLL_STATUS.OPEN || s.rollEnding then s
  else s.inRoll.foldl State.markStop { s with cap := { s.cap with endNext := some cause } }

/-- What ends the roll at the close of a command: a page that was needed and not there; the last numbered frame closed; the last
channel gone (R229). -/
def State.settleRoll (s : State) : State :=
  if !s.on CAP.ROLL_STATUS.OPEN then s
  else if s.inRoll.isEmpty then s.endRoll (s.cap.endNext.getD 1)
  else if s.cap.endNext.isSome then s
  else if s.cap.noPage then s.markEnd 4
  else match s.cap.ending with
    | some c =>
      -- a frame that has begun and finds no number left is none
      let s := s.numberWhile (fun _ _ => true) 16
      if s.inRoll.all (fun n => (s.cch n).openF.isNone && (s.cch n).liveF.isNone) then s.markEnd c else s
    | none => s

/-- Nothing that falls before the boundary of channel `n`'s stop is still on its way: its samples have come, the alignment delay is over, and
no sequencer has an earlier event, nor a detector an earlier firing (R189, R233, R244). -/
def State.stopReady (s : State) (n : Nat) : Bool := match (s.cch n).stopAt with
  | none => false
  | some (_, b) => s.samplesCame n && decide (b / 65536 + 48 ≤ s.ticks) &&
      s.leads.all (fun m => (s.tch m).queue.all (fun e => decide (b ≤ e.time)) &&
        (match (s.tch m).det.wait with
          | some w => decide (b ≤ w.2.1)
          | none => true))

/-- Registers and device state after channels have left the roll (R26, R221, R229). -/
def State.stopShow (s : State) : State := (s.showRoll.settleRoll.settleDev).demandRefresh

/-- Channels whose stop has left nothing behind reach STOPPED, and so does the roll its end (R27, R229, R239). -/
def State.stopsDue (s : State) : State :=
  if !s.up || s.leads.all (fun n => (s.cch n).stopAt.isNone) then s
  else
    let s := s.presentDue.numberDue
    let own := s.leads.filter (fun n => (s.cch n).alone && s.stopReady n)
    let s := if own.isEmpty then s else (s.stopThese own 0).stopShow
    match s.cap.endNext with
    | some c => if s.inRoll.all s.stopReady then s.endRoll c else s
    | none => s

/-- Channels stopped by command or profile (R227): the roll ends with the last, and a stop in a continuous gap takes the
channel from the next roll, at once. -/
def State.stopChannels (s : State) (chs : List Nat) : State :=
  let live := chs.filter (fun n => s.on (CAP.CHn_STATUS.IN_ROLL n))
  let s : State := live.foldl (fun (s : State) n => (s.markStop n).modCap n (fun c => { c with alone := true })) s
  let s := s.stopThese (chs.filter (fun n => !live.contains n)) 0
  let s := { s with cap := { s.cap with
    nextChannels := chs.foldl (fun m n => if m.testBit n then m - 2 ^ n else m) s.cap.nextChannels
    heldStart := chs.foldl (fun m n => if m.testBit n then m - 2 ^ n else m) s.cap.heldStart } }
  let s := if s.cap.heldStart = 0 then (s.put CAP.ROLL_STATUS.WAIT_TABLE false).put CAP.ROLL_STATUS.WAIT_PAGES false else s
  s.stopShow

/-- SCLK is gone: firings that wait for a sample become events, the open roll ends, and channels in a gap go to STOPPED (R22, R201,
R229). -/
def State.stopAll (s : State) : State :=
  let s := (s.leads.foldl State.detectAnew s).markEnd 6
  let s := s.stopThese (s.leads.filter (fun n => !s.on (CAP.CHn_STATUS.IN_ROLL n))) 1
  ({ s with cap := { s.cap with nextChannels := 0 } }.settleDev).demandRefresh

/-! ### Starts (R194, R227, R228, R231) -/

/-- Pages the channels need to start (R227). -/
def State.pagesNeeded (s : State) (chs : List Nat) : Nat :=
  (chs.map (fun n =>
    let fmt := (s.filP n).format (s.rd (CAP.CHn_CFG.FORMAT n))
    let pre := s.rd (CAP.CHn_PRE.SAMPLES n)
    ceilDiv (sampleBytes fmt pre + (if fmt = 1 then pre % 2 else 0)) 65536 + 2)).sum

/-- Why a start of channels `chs` is refused: block (0 CAP, 1 FIL, 2 ACC), cause, channel (R20, R220, R221, R227, R258, R306,
R512). -/
def State.startRefusal (s : State) (chs : List Nat) : Option (Nat × Nat × Nat) :=
  let first := fun (f : Nat → Bool) => chs.find? f
  if !s.on ADC.SCLK.OK then some (0, 6, 0)
  else if (first (fun n => !s.capFits n)).isSome then some (0, 7, 0)
  else match first (fun n => (s.filP n).cause != 0) with
    | some n => some (1, (s.filP n).cause, n)
    | none => match first (fun n => s.accCause n != 0) with
      | some n => some (2, s.accCause n, n)
      | none =>
        if (first (fun n => s.rd (TRG.CHn_SEQ.MODE n) == 1 && (s.seqTable n).isNone)).isSome then some (0, 8, 0)
        else
          let all := (s.capturing ++ chs).eraseDups
          if 200 < reservation (s.demand all) ∨ s.hashOver all (0, 1) then some (0, 1, 0)
          else if s.poolSize < s.pagesNeeded chs then some (0, 2, 0) else none

/-- A refused start noted in the block that refuses it. -/
def State.noteRefusal (s : State) (r : Nat × Nat × Nat) : State := match r with
  | (0, c, _) => s.wr CAP.REFUSED.CAUSE c
  | (1, c, n) => (s.wr FIL.REFUSED.CAUSE c).wr FIL.REFUSED.CHANNEL n
  | (_, c, n) => (s.wr ACC.REFUSED.CAUSE c).wr ACC.REFUSED.CHANNEL n

/-- Channel `n` leaves STOPPED and joins the open roll (R25, R27, R66, R194, R262). -/
def State.channelStart (s : State) (n : Nat) : State :=
  let pre := if s.on (CAP.CHn_CFG.KIND n) then 0 else s.rd (CAP.CHn_PRE.SAMPLES n)
  let s := s.modCap n (fun c => { c with
    invalid := 8192, startInvalid := true, priming := pre, epoch := s.rd (CAL.EPOCH.EPOCH n), deadTo := 0, refill := 0, armedAt := none, outN := 0
    recent := [], blocks := [], page := none, offset := 0, openF := none, liveF := none, gap := false, gapLive := false
    cut := none })
  let s := s.modTrg n (fun c => { c with above := [] })
  let s := ((s.wr (CAP.CHn_STATUS.STATE n) chPriming).put (CAP.CHn_STATUS.IN_ROLL n) true).put (ADC.STATUS.INVALID n) true
  let s := if (s.chain n).kept.isEmpty || (s.chain n).kept != s.chainSet n then s.chainStart n else s
  ((s.seqReset n).accStart n).cancelTbSet 2

/-- The next block of 2^24 roll numbers taken, and recorded in the ledger (R228). -/
def State.takeRollBlock (s : State) : State := { s with
  cap := { s.cap with nextRoll := s.led.rollBlock * 2 ^ 24, rollLimit := (s.led.rollBlock + 1) * 2 ^ 24 }
  led := { s.led with rollRing := s.led.rollRing.put ((s.led.rollBlock + 1) % 2 ^ 24) } }

/-- A roll number, of the block in use, or of the next where it has run out (R228). -/
def State.takeRoll (s : State) : Nat × State :=
  let s := if s.cap.nextRoll < s.cap.rollLimit then s else s.takeRollBlock
  (s.cap.nextRoll, { s with cap := { s.cap with nextRoll := s.cap.nextRoll + 1 } })

/-- The table the next roll uses has no unreleased frame (R217, R227). -/
def State.tableFree (s : State) : Bool :=
  let k := if s.cap.nextRoll < s.cap.rollLimit then s.cap.nextRoll else s.led.rollBlock * 2 ^ 24
  !s.unreleased (k % 2)

/-- A roll opens (R217, R227, R228, R243). -/
def State.openRoll (s : State) (mask : Nat) : State :=
  let (k, s) := s.takeRoll
  let s := ((s.setTable (k % 2) []).put CAP.ROLL_STATUS.OPEN true).wr CAP.ROLL_STATUS.TABLE (k % 2)
  let s := ((s.wr CAP.ROLL_LO.NUMBER (k % 2 ^ 32)).wr CAP.ROLL_HI.NUMBER (k / 2 ^ 32)).wr CAP.FRAMES.COUNT 0
  let s := (List.range 8).foldl (fun s n => s.wr (CAP.CHn_FRAMES.COUNT n) 0) s
  let s := { s with cap := { s.cap with
    rollStart := s.now, ending := none, noPage := false, tableRoll := s.cap.tableRoll.set (k % 2) k } }
  s.event 0x0210 [k % 2 ^ 32, k / 2 ^ 32, mask]

/-- The ratio of the fit, or before a fit exists that of the measured frequency (R147, notes/assumptions/15.md). -/
def State.rhoNow (s : State) : Nat := match s.clk.fit with
  | some f => f.rho
  | none => if s.rd ADC.SCLK.FREQ_KHZ = 0 then 0 else (8 * 1250000 * 2 ^ 30) / s.rd ADC.SCLK.FREQ_KHZ

/-- The first channel leaves STOPPED from IDLE: the frequency and the ratio latch (R58, R147). -/
def State.latchSclk (s : State) : State :=
  if s.dev = devIdle then (s.wr ADC.SCLK_START.FREQ_KHZ (s.rd ADC.SCLK.FREQ_KHZ)).wr TB.SCLK_REF.RATIO s.rhoNow else s

/-- A mode change waits or a mode calibration runs (R52, R97, R112). -/
def State.modeBusy (s : State) : Bool := s.cal.modeNext.isSome || s.cal.modeCal

/-- A DARK entry that still waits is abandoned by a start (R523). -/
def State.abandonDark (s : State) : State :=
  if s.on SYS.STATE.ENTERING then
    (({ s with boot := { s.boot with entryStep := 0 } }.put SYS.STATE.ENTERING false).wr SYS.DARK.WAIT 0).wr SYS.REFUSED.CAUSE 1
      |>.event 0x0122 [1]
  else s

/-- The held channels start where their conditions are met; what they wait for is shown (R227, R228). -/
def State.tryStart (s : State) : State :=
  let chs := s.leads.filter (fun n => s.cap.heldStart.testBit n && s.chState n == chStopped)
  -- a switch that takes effect and an adoption keep every channel STOPPED (R506, R510)
  if s.prf.resumeAt.isSome || s.prf.adopting == 2 then s
  -- a channel on its way to STOPPED waits for it, and the next roll for the end of this one
  else if s.rollEnding || s.leads.any (fun n => s.cap.heldStart.testBit n && (s.cch n).stopAt.isSome) then s
  else if chs.isEmpty then
    ({ s with cap := { s.cap with heldStart := 0 } }.put CAP.ROLL_STATUS.WAIT_TABLE false).put CAP.ROLL_STATUS.WAIT_PAGES false
  else if s.cap.nextChannels ≠ 0 then
    -- in a continuous gap they join the next roll (R244)
    { s with cap := { s.cap with
      nextChannels := s.cap.nextChannels ||| ((chs.map (2 ^ ·)).sum), heldStart := 0 } }
  else
    let open_ := s.on CAP.ROLL_STATUS.OPEN
    let table := open_ || s.tableFree
    let pages := decide (s.pagesNeeded chs ≤ s.freePages)
    let spaced := open_ || !s.cap.rolled || decide (s.cap.rollStart + ticksOfUs 4 ≤ s.now)
    let s := (s.put CAP.ROLL_STATUS.WAIT_TABLE (!table)).put CAP.ROLL_STATUS.WAIT_PAGES (!pages)
    if table && pages && spaced && !s.modeBusy && s.on ADC.SCLK.OK && s.up && s.boot.entryStep == 0 then
      let s := s.abandonDark.latchSclk
      let s := if open_ then s else s.openRoll ((chs.map (2 ^ ·)).sum)
      let s := chs.foldl (fun s n => s.channelStart n) s
      ({ s with cap := { s.cap with heldStart := 0 } }.showRoll.settleDev).demandRefresh
    else s

/-- A start acts on channel `n`: it is STOPPED, or on its way there. -/
def State.startable (s : State) (n : Nat) : Bool := s.chState n == chStopped || (s.cch n).stopAt.isSome

/-- A start command or profile action for the channels of `mask`, once no check refuses it (R227). -/
def State.startChannels (s : State) (mask : Nat) : State :=
  let chs := (s.leads.filter (fun n => (s.members n).any (fun m => mask.testBit m))).filter s.startable
  { s with cap := { s.cap with heldStart := s.cap.heldStart ||| ((chs.map (2 ^ ·)).sum) } }.tryStart

/-! ### Releases (R222, R244) -/

/-- Why a release command is refused: 4 frame open, 5 unknown or not retained; 0 where it stands. -/
def State.releaseCause (s : State) (frame : Nat) (other all : Bool) : Nat :=
  let t := if other then 1 - s.curTable else s.curTable
  if all then 0
  else match (s.table t)[frame]? with
    | none => 5
    | some f => if f.state = 1 then 4 else if f.state = 2 ∧ f.retain then 0 else 5

/-- Retained frames released. -/
def State.release (s : State) (frame : Nat) (other all : Bool) : State :=
  let t := if other then 1 - s.curTable else s.curTable
  let one := fun (s : State) (i : Nat) => match (s.table t)[i]? with
    | some f => if f.state = 2 ∧ f.retain = true then (s.modFrame t i (fun f => { f with retain := false })).tryRelease t i else s
    | none => s
  if all then (List.range (s.table t).length).foldl one s else one s frame

/-! ### Meanings -/

/-- PRIMING_COMPLETE (R27, R218): invalid samples and pre-trigger depth have passed. -/
def execPrimingComplete (n : Nat) (s : State) : Host.Outcome State Fault Refusal :=
  .next (
    let c := s.cch n
    if s.isLead n ∧ s.up ∧ s.chState n = chPriming ∧ s.on (CAP.CHn_STATUS.IN_ROLL n) = true ∧ c.invalid = 0 ∧ c.priming = 0 then
      s.wr (CAP.CHn_STATUS.STATE n) (if s.on (CAP.CHn_CFG.KIND n) then chCapture else chArmed)
    else s)

/-- CHANNEL_REARM (R198). -/
def execChannelRearm (n : Nat) (s : State) : Host.Outcome State Fault Refusal :=
  .next (
    if s.isLead n ∧ s.up ∧ s.chState n = chHoldoff ∧ (s.armedFrom n).isSome = true ∧ s.cap.ending.isNone = true
        ∧ ¬ (s.tch n).hold.runs s.tb ∧ ¬ s.on (CAP.CHn_CFG.KIND n) then
      (s.modCap n (fun c => { c with armedAt := s.armedFrom n })).wr (CAP.CHn_STATUS.STATE n) chArmed
    else s)

/-- FRAME_END (R235). -/
def execFrameEnd (n : Nat) (s : State) : Host.Outcome State Fault Refusal :=
  .next (if s.isLead n ∧ s.up ∧ s.frameFull n then (s.frameEnd n).settleRoll else s)

/-- FRAME_CLOSED (R235). -/
def execFrameClosed (n : Nat) (s : State) : Host.Outcome State Fault Refusal :=
  .next (if n < 8 ∧ s.up then s.completeFrame n else s)

/-- HELD_START_ACT (R227). -/
def execHeldStartAct (s : State) : Host.Outcome State Fault Refusal :=
  .next (if s.cap.heldStart ≠ 0 ∧ s.up then s.tryStart else s)

/-- CONTINUOUS_ROLL_START (R231, R270): the next roll with the channels of the last, and those that joined in the gap. -/
def execContinuousRollStart (s : State) : Host.Outcome State Fault Refusal :=
  .next (
    let chs := s.leads.filter (fun n => s.cap.nextChannels.testBit n)
    if chs ≠ [] ∧ s.up ∧ ¬ s.on CAP.ROLL_STATUS.OPEN ∧ s.cap.rollEndAt + ticksOfUs 1 ≤ s.now
        ∧ s.cap.rollStart + ticksOfUs 4 ≤ s.now ∧ s.tableFree ∧ s.pagesNeeded chs ≤ s.freePages ∧ s.on ADC.SCLK.OK = true then
      let s := s.latchSclk.openRoll ((chs.map (2 ^ ·)).sum)
      let s := chs.foldl (fun s n =>
        if s.chState n = chStopped then s.channelStart n
        else
          let pre := if s.on (CAP.CHn_CFG.KIND n) then 0 else s.rd (CAP.CHn_PRE.SAMPLES n)
          let s := s.modCap n (fun c => { c with
            priming := pre, deadTo := 0, refill := 0, armedAt := if pre = 0 ∧ (s.cch n).invalid = 0 then some s.tb else none
            gap := true, gapLive := true, cut := none })
          (((s.wr (CAP.CHn_STATUS.STATE n) chPriming).put (CAP.CHn_STATUS.IN_ROLL n) true).seqReset n)) s
      ({ s with cap := { s.cap with nextChannels := 0 } }.showRoll.settleDev).demandRefresh
    else s)

end Sys2Proof.Machine
end

