-- ==== Sys2Proof/Machine/Adc.lean ====
section
/-! DEFINITION. Converters (02_converters.md): correction and the fan-out of each sample, ranges, SCLK; sync edges and markers,
which reach frames (04_clocks_and_time_base.md). -/

namespace Sys2Proof.Machine

/-! ### Correction (R49, R59, R62) -/

/-- The coefficients that correct the sample at position `pos` of the input led by `n`, those of the slice that holds its position in
its own slice clock, and its sub-converter: slice clocks taken in turn by the eight (R39, R45, R49, R59). A slice clock still to come
is taken as the present one (notes/assumptions/33.md). -/
def State.coefAt (s : State) (n pos : Nat) : Coef × Nat :=
  let g := s.groupSize
  let q := pos % s.posPerSc
  let m := n + q % g
  let now := ((s.calCh m).slices.getD (s.sliceAt m (q / g)) {}).coef
  (match (s.calCh m).past with
    | some (sc, cs) => if pos / s.posPerSc < sc then cs.getD (q / g) {} else now
    | none => now, pos / s.posPerSc % 8)

/-- y(k) of R59 in 2^-32 LSB for a raw code under the coefficients `c` of sub-converter `j`. -/
def rawY (c : Coef) (j raw : Nat) : Int := (((raw : Int) - 2048) * 256 - c.off.getD j 0) * c.gain.getD j 16777216

/-- The corrected sample at `pos` and whether it is overrange, from the raw codes of samples k - 3 to k + 3 (R59, R62), the sample's
own slice corrected with `c`. It is what raw12 and raw16 carry; in diagnostic service mode too, where R16 does not say what they
hold (DESIGN CHOICE, notes/assumptions/17.md). -/
def State.correctWith (s : State) (n pos : Nat) (c : Coef) (raw : List Nat) : Int × Bool :=
  let y := fun (i : Nat) =>
    let (d, j) := s.coefAt n (if pos + i < 3 then pos + i + 8 * s.posPerSc - 3 else pos + i - 3)
    rawY (if i = 3 then c else d) j (raw.getD i 0)
  let z : Int := ((List.range 7).map (fun i => c.eq.getD i 0 * y i)).sum
  let o := roundShiftEven z 49
  let r := raw.getD 3 0
  (clampI (-2048) 2047 o, r == 0 || r == 4095 || decide (o < -2048) || decide (2047 < o))

/-- The corrected sample at `pos`, under the coefficients in force. -/
def State.correct (s : State) (n pos : Nat) (raw : List Nat) : Int × Bool := s.correctWith n pos (s.coefAt n pos).1 raw

/-! ### Statistics (R99, R102) -/

/-- Samples of a background window, and of one of its 16 sub-windows. -/
def bgWindow : Nat := 16777216
@[inherit_doc bgWindow] def bgSub : Nat := 1048576

/-- cos(2πk/256) in 2^-30 for k = 0 to 64: a quarter of the circle. -/
def cosQuarter : List Int := [
  1073741824, 1073418433, 1072448455, 1070832474, 1068571464, 1065666786, 1062120190, 1057933813, 1053110176, 1047652185, 1041563127, 1034846671, 1027506862,
  1019548121, 1010975242, 1001793390, 992008094, 981625251, 970651112, 959092290, 946955747, 934248793, 920979082, 907154608, 892783698, 877875009,
  862437520, 846480531, 830013654, 813046808, 795590213, 777654384, 759250125, 740388522, 721080937, 701339000, 681174602, 660599890, 639627258,
  618269338, 596538995, 574449320, 552013618, 529245404, 506158392, 482766489, 459083786, 435124548, 410903207, 386434353, 361732726, 336813204,
  311690799, 286380643, 260897982, 235258165, 209476638, 183568930, 157550647, 131437462, 105245103, 78989349, 52686014, 26350943, 0]

/-- cos(2πk/256) in 2^-30. -/
def cosAt (k : Nat) : Int :=
  let q := k % 64
  match k % 256 / 64 with
  | 0 => cosQuarter.getD q 0
  | 1 => -cosQuarter.getD (64 - q) 0
  | 2 => -cosQuarter.getD q 0
  | _ => cosQuarter.getD (64 - q) 0

/-- Power of bin `b` of the Hann-windowed periodogram of 256 values (R102). -/
def binPower (xs : List Int) (b : Nat) : Nat :=
  let w := (List.zip (List.range 256) xs).map (fun ix => (ix.1, (2 ^ 30 - cosAt ix.1) * ix.2))
  let re : Int := (w.map (fun iw => iw.2 * cosAt (b * iw.1))).sum
  let im : Int := (w.map (fun iw => iw.2 * cosAt (b * iw.1 + 192))).sum
  (re * re + im * im).toNat

/-- The power a block of 4,096 samples adds to the 16 bands: its mean taken away, 16 periodograms, eight bins a band (R102;
notes/assumptions/25.md). -/
def blockBands (xs : List Int) : List Nat :=
  let sum : Int := xs.sum
  let ys := xs.map (fun x => 4096 * x - sum)
  let bin := fun (b : Nat) => ((List.range 16).map (fun p => binPower ((ys.drop (256 * p)).take 256) b)).sum
  (List.range 16).map (fun k => ((List.range 8).map (fun i => bin (8 * k + i))).sum)

/-- A valid sample reaches the statistics gatherer of the input led by `n`, at merged position `q`. A window once full waits for
its estimates until the next sample begins another; a block for the flatness is taken at the start of each sub-window. -/
def State.gather (s : State) (n q : Nat) (x : Int) : State :=
  s.modCal n (fun c =>
    let fresh := c.statN = 0 || c.statN = bgWindow
    let k := if fresh then 0 else c.statN
    let st := if fresh then List.replicate 64 {} else c.stats
    let st := if fresh then st else st.modify c.statPos (fun p => { p with xp := p.xp + c.statLast * x })
    let st := st.modify q (fun p => { p with
      s1 := p.s1 + x, s2 := p.s2 + x * x, xm := if fresh then p.xm else p.xm + c.statLast * x })
    let subs := if fresh then [] else c.subs
    let bands := if fresh then List.replicate 16 0 else c.bands
    let i := k % bgSub
    let block := if i = 0 then [x] else if i < 4096 then x :: c.block else c.block
    { c with
      stats := st, statN := k + 1, statLast := x, statPos := q
      subs := if i + 1 = bgSub then subs ++ [st] else subs
      block := if i = 4095 then [] else block
      bands := if i = 4095 then List.zipWith (fun a b => a + b) bands (blockBands block.reverse) else bands })

/-- The window in progress ends (R99). -/
def State.gatherEnd (s : State) (n : Nat) : State := s.modCal n (fun c => { c with statN := 0 })

/-! ### The fan-out (R17, R66, R67, R70, R219) -/

/-- An output of the chain reaches the live packer, the writer and what follows it. -/
def State.fanOutput (s : State) (n : Nat) (o : Out) : State :=
  let p := s.filP n
  let s := if p.stages then s.put (FIL.CHn_STATUS.SETTLING n) o.settling else s
  let o := s.stampOut n o
  (s.liveFeed n o).pushOutput n o

/-- Position `pos` lies at or after the boundary of a stop of channel `n` (R239). -/
def State.pastStop (s : State) (n pos : Nat) : Bool := match (s.cch n).stopAt with
  | some (p, _) => decide (p ≤ pos)
  | none => false

/-- One sample of the input led by `n` through detector, chain and packers: `x` its corrected code, `over` its overrange,
`valid` that it is not invalid under R66. -/
def State.fanOut (s : State) (n pos : Nat) (x : Int) (ovr valid : Bool) : State :=
  let s := if valid then s.detect n pos x ovr else s.detectInvalid n
  let c := s.cch n
  -- a chain that a profile switch leaves as it is runs on, and what it gives goes nowhere (R261)
  let idle := s.chState n == chStopped || s.pastStop n pos || !valid && c.startInvalid
  if idle && (s.chain n).kept.isEmpty then s
  else
    let e := s.rd (CAL.EPOCH.EPOCH n)
    let step := decide (e ≠ c.epoch)
    let s := s.modCap n (fun c => { c with epoch := e })
    let s := if valid && s.chState n != chStopped && !s.pastStop n pos then s.noteAbove n pos x else s
    let fl := s.sampleFlags n
    let p := s.filP n
    let fmt := p.format (s.rd (CAP.CHn_CFG.FORMAT n))
    let (ch, o, sat) := chainFeed p fmt (s.chain n) (if valid then some x else none) pos fl e ovr step
    let s := s.setChain n ch
    let s := if sat then s.count (FIL.CHn_SAT.COUNT n) (FIL.CHn_SAT.SAT n) 1 else s
    if idle then s
    else match o with
    | some o => s.fanOutput n o
    | none =>
      -- an invalid sample of a range change goes out as converted on a live stream in SAMPLE mode (R70)
      if p.mode = 0 && !valid then
        s.liveFeed n (s.stampOut n ⟨ofSigned (if fmt = 1 then 12 else 16) x, pos, false, ovr, fl, e, 0, 0, 0, true, 0⟩)
      else s

/-- CORRECTED_SAMPLE (R17, R59, R62). With the first sample of a slice clock come the steps that are due at its boundary, and the
last one brings the next boundary (R45 to R47). -/
def execCorrectedSample (n pos : Nat) (raw : List Nat) (s : State) : Host.Outcome State Fault Refusal :=
  .next (
    if s.up ∧ s.isLead n = true ∧ s.on ADC.SCLK.OK = true ∧ s.cal.modeCal = false ∧ raw.length = 7 ∧ (s.cch n).pos ≤ pos ∧ raw.all (· < 4096) = true then
      let c := s.cch n
      let s := if c.pos % s.posPerSc ≠ 0 ∧ c.pos / s.posPerSc < pos / s.posPerSc then
          (s.modCap n (fun c => { c with pos := pos / s.posPerSc * s.posPerSc })).boundary n else s
      let (x, ovr) := s.correct n pos raw
      let q := pos % s.posPerSc
      let valid := (s.cch n).invalid == 0
      let s := if valid && ovr then
          s.count (ADC.OVR.COUNT (n + q % s.groupSize)) (ADC.OVR.SAT (n + q % s.groupSize)) 1 else s
      let s := if valid then s.gather n q x else s.gatherEnd n
      let s := ((s.fanOut n pos x ovr valid).numberDue).settleRoll
      -- with no pre-trigger depth the channel is ARMED once the last invalid sample has passed (R27, R69)
      let last := (s.cch n).invalid == 1 && s.chState n == chPriming && (s.cch n).priming == 0
      let s := s.modCap n (fun c => { c with pos := pos + 1, invalid := c.invalid - 1
                                             startInvalid := c.startInvalid && 1 < c.invalid
                                             armedAt := if last then some (s.posTime pos) else c.armedAt })
      let s := s.boundary n
      if (s.cch n).invalid = 0 then s.put (ADC.STATUS.INVALID n) false else s
    else s)

/-! ### Ranges (R68 to R71) -/

/-- A commit of channel `n`'s converter settings (R71). -/
def State.adcCommit (s : State) (n : Nat) : State :=
  let r := s.rd (ADC.RANGE.CODE n)
  if r = s.rd (ADC.RANGE.ACTIVE n) then
    (s.modCap n (fun c => { c with rangeNext := none })).put (ADC.RANGE.PENDING n) false
  else (s.modCap n (fun c => { c with rangeNext := some r })).put (ADC.RANGE.PENDING n) true

/-- RANGE_CHANGE (R66, R68 to R70, R303): at the first slice clock with no frame open. Where a live frame and a captured frame are both open, the change waits until neither is
(DESIGN CHOICE, notes/assumptions/20.md). -/
def execRangeChange (n : Nat) (s : State) : Host.Outcome State Fault Refusal :=
  .next (match (s.cch n).rangeNext with
    | none => s
    | some r =>
      let c := s.cch n
      if s.isLead n ∧ s.up ∧ s.atSliceClock n = true ∧ c.openF.isNone = true ∧ c.liveF.isNone = true then
        let old := s.rd (ADC.RANGE.ACTIVE n)
        let ready := s.armedFrom n
        let s := (s.wr (ADC.RANGE.ACTIVE n) r).put (ADC.RANGE.PENDING n) false
        let s := s.modCap n (fun c => { c with rangeNext := none, invalid := max c.invalid 4096 })
        let s := s.put (ADC.STATUS.INVALID n) true
        let s := if s.chState n = chStopped then s
          else
            let record := s.on (CAP.CHn_CFG.KIND n)
            (s.modCap n (fun c => { c with
              cut := some (s.tb, c.outN, ready, old), armedAt := none
              priming := if record then 0 else s.rd (CAP.CHn_PRE.SAMPLES n), deadTo := 0, refill := 0
              gap := c.gap || record })).wr (CAP.CHn_STATUS.STATE n) chPriming
        s.accFlush n
      else s)

/-! ### SCLK (R22, R56, R57) -/

/-- SCLK is lost for a cause of R56. -/
def State.sclkLost (s : State) (cause : Nat) : State :=
  let s := (s.count ADC.SCLK_LOSS.COUNT ADC.SCLK_LOSS.SAT 1).wr ADC.SCLK_LOSS.LAST_CAUSE cause
  let s := (s.event 0x02A0 [cause, s.rd ADC.SCLK.FREQ_KHZ]).put ADC.SCLK.OK false
  let s := { s with cal := { s.cal with sclkGood := 0, sclkRange := 0, sclkDrift := 0 } }
  let s := s.stopAll
  let s := s.rbAbort
  (List.range 8).foldl (fun s n => s.gatherEnd n) s

/-- SCLK is back: every slice in CALIBRATING measures anew (R97). -/
def State.sclkBack (s : State) (khz : Nat) : State :=
  let again := fun (c : ChCal) => { c with slices := c.slices.map (fun x => { x with since := s.now }) }
  let s := { s with cal := { s.cal with sclkRange := 0, sclkDrift := 0, ch := s.cal.ch.map again } }
  ((s.put ADC.SCLK.OK true).event 0x02A1 [khz]).tryStart

/-- The marker divider and the slice-clock count begin anew (R145). -/
def State.markersAnew (s : State) : State :=
  let s := s.modClk (fun c => { c with markers := [], markerN := 0, fit := none })
  let s := { s with cal := { s.cal with ch := s.cal.ch.map (fun c => { c with past := none }) } }
  (List.range 8).foldl (fun s n => (s.detectAnew n).modCap n (fun c => { c with pos := 0 })) s

/-- SCLK is absent: no frequency, and the marker divider starts anew when it returns (R81, R145). -/
def State.sclkAbsent (s : State) : State :=
  let s := { s with cal := { s.cal with sclkGood := 0 } }.wr ADC.SCLK.FREQ_KHZ 0
  s.markersAnew

/-- ADC_SCLK_LOST (R56, cause 1): no slice-clock edge in 8 consecutive ticks; while `ADC.SCLK.OK` is 0 it is no loss. In HALTED it is at most logged (R35). -/
def execAdcSclkLost (s : State) : Host.Outcome State Fault Refusal :=
  .next (if s.live then
      if s.dev = devDark then s else (if s.on ADC.SCLK.OK then s.sclkLost 1 else s).sclkAbsent
    else if s.on ADC.SCLK.OK then s.partnerNow 0x02A0 else s)

/-- SCLK_MEASUREMENT_WINDOW (R56, R57). Where causes 2 and 3 complete in one window, cause 2 is recorded (DESIGN CHOICE,
notes/assumptions/19.md). -/
def execSclkMeasurementWindow (khz : Nat) (s : State) : Host.Outcome State Fault Refusal :=
  .next (
    if s.live && s.dev != devDark && s.clk.tbRuns then
      let s := s.wr ADC.SCLK.FREQ_KHZ khz
      let good := 4000000 ≤ khz && khz ≤ 10000000
      let outside := khz < 3960000 || 10100000 < khz
      let f := s.rd ADC.SCLK_START.FREQ_KHZ
      let drift := !s.capturing.isEmpty && decide (1000 * f < ((khz : Int) - f).natAbs * 1000000)
      let c := s.cal
      let s := { s with cal := { c with
        sclkGood := if good then min 64 (c.sclkGood + 1) else 0
        sclkRange := if outside then c.sclkRange + 1 else 0
        sclkDrift := if drift then c.sclkDrift + 1 else 0 } }
      if s.on ADC.SCLK.OK then
        if 2 ≤ s.cal.sclkRange then s.sclkLost 2 else if 2 ≤ s.cal.sclkDrift then s.sclkLost 3 else s
      else if s.cal.sclkGood = 64 then s.sclkBack khz else s
    else s)

/-! ### Sync edges and markers -/

/-- SYNC_EDGE (R134, R140, R187, R188): dividers and TB_SET, and source 40 of every sequencer at the TB time of the edge. -/
def execSyncEdge (s : State) : Host.Outcome State Fault Refusal :=
  .next (
    if s.live && !s.boot.inReset then
      let s := s.syncClock
      if s.up then s.presentAll { time := s.tb, src := 40 } else s
    else s)

/-- The marker condition SCLK_INCOHERENT marks every open frame and the newest output (R147). -/
def State.markIncoherent (s : State) : State :=
  if s.on TB.SCLK_FIT.INCOHERENT then
    (List.range 8).foldl (fun s n => s.modCap n (fun c => { c with
      openF := c.openF.map (fun f => { f with
        flags := f.flags ||| 64, base := (f.base.1 ||| 64, f.base.2.1, f.base.2.2.1, f.base.2.2.2) })
      liveF := c.liveF.map (fun f => { f with
        flags := f.flags ||| 64, base := (f.base.1 ||| 64, f.base.2.1, f.base.2.2.1, f.base.2.2.2) })
      recent := match c.recent with
        | o :: os => { o with flags := o.flags ||| 64 } :: os
        | [] => [] })) s
  else s

end Sys2Proof.Machine
end

