-- ==== Sys2Proof/Machine/Arc.lean ====
section
/-! DEFINITION. The archive memory (11_archive_memory.md): address mapping, ports, urgency and the schedulers' choice, drains,
refresh and tracking, self-refresh, the mover with its rings, trims and claims. The capture-memory slots are granted here,
because Q3 reads for the mover (R224, R370). -/

namespace Sys2Proof.Machine

/-! ### Address mapping (R353) -/

/-- The archive record changed. -/
def State.modArc (s : State) (f : Arc → Arc) : State := { s with arc := f s.arc }

/-- The interleave grain in bytes. -/
def State.grain (s : State) : Nat := 2 ^ s.rd DRM.MAP.GRAIN

/-- Subchannel of an archive byte address, and the address within it. -/
def State.subOf (s : State) (a : Nat) : Nat := a / s.grain % 4
@[inherit_doc State.subOf] def State.inSub (s : State) (a : Nat) : Nat := a / (4 * s.grain) * s.grain + a % s.grain

/-- Bank key (rank, bank, bank group) and row of an archive byte address. -/
def State.bankOf (s : State) (a : Nat) : Nat := bits (s.inSub a) 12 (if s.on DRM.CFG.RANKS then 6 else 5)
@[inherit_doc State.bankOf] def State.rowOf (s : State) (a : Nat) : Nat := s.inSub a >>> (if s.on DRM.CFG.RANKS then 18 else 17)

/-- Capacity in bytes (R352). -/
def State.dramBytes (s : State) : Nat := s.rd DRM.CFG.CAPACITY_GB * 2 ^ 30

/-- One subchannel, and one changed. -/
def State.sub (s : State) (k : Nat) : Subch := s.arc.subs.getD k {}
@[inherit_doc State.sub] def State.modSub (s : State) (k : Nat) (f : Subch → Subch) : State :=
  s.modArc (fun a => { a with subs := a.subs.modify k f })

/-- The controller serves requests. -/
def State.dramUp (s : State) : Bool := s.rd DRM.STATE.STATE == 1

/-! ### Urgency, drains and the choice of a read (R356 to R359) -/

/-- Urgency of a piece: its age against its port's target. -/
def State.urgency (s : State) (p : Piece) : Nat :=
  let t := ticksOfUs (s.rd (DRM.PORTk_TARGET.US p.port))
  let age := s.now - p.at_
  if 100 * age < 50 * t then 0 else if 100 * age < 75 * t then 1 else if age < t then 2 else 3

/-- A queued write to the same bank and row. -/
def State.matching (s : State) (k a : Nat) : Bool :=
  (s.sub k).writes.any (fun w => s.bankOf w.addr == s.bankOf a && s.rowOf w.addr == s.rowOf a)

/-- Bank and row of an address as one key of `Subch.inOrder`. -/
def State.bankRow (s : State) (a : Nat) : Nat := s.rowOf a * 64 + s.bankOf a

/-- The bank of an address is in in-order mode: some row of it holds it there (R359). -/
def State.orderly (s : State) (k a : Nat) : Bool := (s.sub k).inOrder.any (fun q => q % 64 == s.bankOf a)

/-- The display, or a host's overlay write, asks for the DRAM (R355, R444, R447): a request like any other for self-refresh (R366). The
planes have no place in the DRAM that the spec names, so it makes no piece. -/
def State.displayAsks (s : State) : State := s.modArc (fun a => { a with lastReq := s.now, wanted := !s.dramUp })

/-- A read piece enters a subchannel's queue: a matching write puts its bank into in-order mode, counted (R359). -/
def State.enterRead (s : State) (k : Nat) (p : Piece) : State :=
  let key := s.bankRow p.addr
  let s := if s.matching k p.addr then
      let t := s.modSub k (fun b => { b with inOrder := key :: b.inOrder.erase key })
      if s.orderly k p.addr then t else t.count DRM.HAZARD.COUNT DRM.HAZARD.SAT 1
    else s
  s.modSub k (fun b => { b with reads := b.reads ++ [{ p with at_ := s.now }] })

/-- A read piece asked for: it waits outside a queue of 16. -/
def State.askRead (s : State) (p : Piece) : State :=
  let k := s.subOf p.addr
  let s := s.modArc (fun a => { a with lastReq := s.now })
  if (s.sub k).reads.length < 16 then s.enterRead k p else s.modSub k (fun b => { b with outside := b.outside ++ [p] })

/-- Pieces of up to 256 bytes of `[a, a + n)`, none across a grain boundary (R355). -/
def pieceCuts : Nat → Nat → Nat → List (Nat × Nat)
  | 0, _, _ => []
  | f + 1, a, n => if n = 0 then [] else
    let k := min n (256 - a % 256)
    (a, k) :: pieceCuts f (a + k) (n - k)

/-- Rows that hold their bank in in-order mode no more: the buffer holds no write to them. -/
def State.endInOrder (s : State) (k : Nat) : State :=
  s.modSub k (fun b => { b with inOrder := b.inOrder.filter (fun q => b.writes.any (fun w => s.bankRow w.addr == q)) })

/-- The bytes of a write piece reach DRAM; its bank's row is open. -/
def State.writePiece (s : State) (k : Nat) (p : Piece) : State :=
  let bank := s.bankOf p.addr
  let row := s.rowOf p.addr
  (s.modArc (fun a => { a with mem := Memory.write 0 a.mem p.addr p.data })).modSub k (fun b =>
    { b with rows := SMap.set 0 b.rows bank (row + 1) })

/-- A write piece enters its subchannel's buffer. -/
def State.enterWrite (s : State) (p : Piece) : State :=
  (s.modArc (fun a => { a with lastReq := s.now })).modSub (s.subOf p.addr) (fun b =>
    { b with writes := b.writes ++ [{ p with at_ := s.now, staged := false }] })

/-- The buffer of a piece's subchannel has room (R358). -/
def State.writeRoom (s : State) (p : Piece) : Bool := (s.sub (s.subOf p.addr)).writes.length < 64

/-- Pieces the mover holds go into the write buffers in order while there is room (R358, R370). -/
def State.pushFifo : Nat → State → State
  | 0, s => s
  | n + 1, s => match s.arc.fifo with
    | [] => s
    | p :: ps => if s.writeRoom p then State.pushFifo n ((s.modArc (fun a => { a with fifo := ps })).enterWrite p) else s

/-- Pieces of other ports that wait outside the write buffers enter, each port's in order, while there is room. -/
def State.pushOutside (s : State) : State :=
  let l := s.arc.outside
  l.foldl (fun s p =>
    if s.writeRoom p && !s.arc.outside.any (fun q => q.port == p.port) then s.enterWrite p
    else s.modArc (fun a => { a with outside := a.outside ++ [p] })) (s.modArc (fun a => { a with outside := [] }))

/-- The staging field shown. -/
def State.showStaging (s : State) : State := s.wr DRM.ARCH_STATUS.STAGING (ceilDiv s.arc.staging 262144)

/-- The write buffers filled from the ports' waiting pieces and the mover's bytes. -/
def State.feedWrites (s : State) : State := ((if s.arc.outside.isEmpty then s else s.pushOutside).pushFifo s.arc.fifo.length).showStaging

/-- A port asks to write `bs` at archive address `a` (R355): pieces, each waiting outside a full buffer. -/
def State.askWrite (s : State) (port a : Nat) (bs : List Nat) : State :=
  let ps := (pieceCuts (bs.length / 256 + 2) a bs.length).map (fun c =>
    ({ port := port, addr := c.1, len := c.2, at_ := s.now, data := slice bs (c.1 - a) c.2 } : Piece))
  (s.modArc (fun x => { x with outside := x.outside ++ ps, lastReq := s.now })).feedWrites

/-- A port asks to read `n` bytes at archive address `a` for what `tag` names (R355). -/
def State.askBytes (s : State) (port a n tag : Nat) : State :=
  (pieceCuts (n / 256 + 2) a n).foldl (fun s c => s.askRead { port := port, addr := c.1, len := c.2, at_ := s.now, tag := tag }) s

/-- Reads for a delivery still wait in the DRAM's queues. -/
def State.arcReading (s : State) (tag : Nat) : Bool :=
  s.arc.subs.any (fun b => b.reads.any (fun p => p.tag == tag) || b.outside.any (fun p => p.tag == tag))

/-- The write that a drain writes next: the oldest that no older read of a bank in in-order mode goes before (R357, R359). -/
def State.nextWrite (s : State) (k : Nat) : Option Nat := (s.sub k).writes.findIdx? (fun w =>
  !(s.orderly k w.addr && (s.sub k).reads.any (fun r => s.bankOf r.addr == s.bankOf w.addr && r.at_ < w.at_)))

/-- The drain that subchannel `k` starts now, if it has cause to (R358). -/
def State.drainCause (s : State) (k : Nat) : Option Drain :=
  let b := s.sub k
  if s.rd DRM.WM.HIGH ≤ b.writes.length then some .high
  else match b.writes with
    | [] => none
    | w :: _ => if s.urgency w = 3 then some (.urgent 8) else if b.reads.isEmpty then some .idle else none

/-- A drain has reached its end (R358). -/
def State.drainOver (s : State) (k : Nat) : Drain → Bool
  | .high => (s.sub k).writes.length ≤ s.rd DRM.WM.LOW
  | .urgent n => n == 0 || (s.sub k).writes.all (fun w => s.urgency w != 3)
  | .idle => (s.sub k).writes.isEmpty || !(s.sub k).reads.isEmpty

/-- A drain with one more piece written. -/
def Drain.next : Drain → Drain
  | .urgent n => .urgent (n - 1)
  | d => d

/-- A drain of subchannel `k` goes on, in order of age, to its end; a read of higher urgency than the oldest write preempts it
(R357, R358). The first argument bounds the pieces. -/
def State.drainSome : Nat → Nat → Drain → State → State
  | 0, k, _, s => s.modSub k (fun b => { b with drain := none })
  | n + 1, k, d, s =>
    if s.drainOver k d then s.modSub k (fun b => { b with drain := none })
    else match (s.sub k).writes, s.nextWrite k with
      | old :: _, some i => match (s.sub k).writes[i]? with
        | some w =>
          if (s.sub k).reads.any (fun r => s.urgency old < s.urgency r) then s.modSub k (fun b => { b with drain := some d })
          else State.drainSome n k d.next ((s.writePiece k w).modSub k (fun b => { b with writes := b.writes.eraseIdx i }))
        | none => s
      | _, _ => s.modSub k (fun b => { b with drain := none })

/-- WRITE_DRAIN (R357, R358): a drain of subchannel `k` starts, or a preempted one goes on, judged anew by what it has to write now. -/
def execWriteDrain (k : Nat) (s : State) : Host.Outcome State Fault Refusal :=
  .next (
    if k < 4 ∧ s.dramUp = true ∧ s.live = true then
      let d := match (s.sub k).drain with
        | some d => some d
        | none => s.drainCause k
      match d with
      | some d => ((State.drainSome 65 k d s).endInOrder k).feedWrites
      | none => s
    else s)

/-- The read the scheduler chooses: highest urgency, then the tie order of R355, then a row hit, then the oldest; during a
drain only one above the oldest write's urgency; of a bank in in-order mode its oldest alone (R357, R359). -/
def State.chooseRead (s : State) (k : Nat) : Option Nat :=
  let b := s.sub k
  let floor : Nat := match b.drain, b.writes with
    | some _, w :: _ => s.urgency w + 1
    | _, _ => 0
  let key := fun (p : Piece) =>
    (3 - s.urgency p) * 8 + p.port * 2 + (if SMap.get 0 b.rows (s.bankOf p.addr) = s.rowOf p.addr + 1 then 0 else 1)
  let go := (List.range b.reads.length).foldl (fun (acc : Option (Nat × Nat)) i => match b.reads[i]? with
    | none => acc
    | some p =>
      let later := s.orderly k p.addr && (b.reads.take i).any (fun r => s.bankOf r.addr == s.bankOf p.addr)
      if s.urgency p < floor || later then acc else match acc with
      | some (j, v) => if key p < v then some (i, key p) else some (j, v)
      | none => some (i, key p)) none
  go.map Prod.fst

/-- A corrected DDR5 error (R368): counted, reported at 1 and at each multiple of 65,536. -/
def State.drmCorrected (s : State) : State :=
  let c := s.rd DRM.ECC.COUNT
  if c = 2 ^ 31 - 1 then s
  else
    let s := s.count DRM.ECC.COUNT DRM.ECC.SAT 1
    if c = 0 ∨ (c + 1) % 65536 = 0 then s.event 0x0241 [] else s

/-- An error of a read at `a`: 1 corrected, 2 uncorrectable (R368). -/
def State.drmError (s : State) (err a : Nat) : State :=
  if err = 2 then s.halt 0x0202 (s.subOf a + (if s.on DRM.CFG.RANKS then bits (s.inSub a) 17 1 * 16 else 0)) a
  else if err = 1 then s.drmCorrected else s

/-- The scrubber takes an idle gap of subchannel `k`: the next 256 bytes of the region, if they lie there; a full turn counts a pass. `err`
is what they showed (R368, R369). -/
def State.drmScrub (s : State) (k err : Nat) : State :=
  let size := s.rd DRM.ARCH_SIZE.PAGES * 65536
  let a := s.rd DRM.ARCH_BASE.PAGES * 65536 + s.arc.scrub
  if size = 0 ∨ s.subOf a ≠ k then s
  else
    let s := if s.arc.scrub + 256 < size then s.modArc (fun a => { a with scrub := a.scrub + 256 })
      else (s.modArc (fun a => { a with scrub := 0 })).countPlain DRM.SCRUB.PASSES 1
    s.drmError err a

/-- A word found uncorrectable in HALTED reads as 0 from then on, a later fault (R377, R534). -/
def State.badPiece (s : State) (a : Nat) : State :=
  s.modArc (fun x => { x with bad := if x.bad.contains (a / 256) then x.bad else a / 256 :: x.bad })

/-- DDR_READ_COMPLETE (R356, R357, R359, R361, R362, R368, R377): `asked` are pieces of the ports that ask for reads, as port,
address and length; then the piece that subchannel `k`'s scheduler chooses returns its data, a bank in in-order mode having
written its older writes first; what it corrects marks the delivery it serves; with none queued the scrubber has the gap. In HALTED
reads of the HOST port alone are served, out of self-refresh. -/
def execDdrReadComplete (k : Nat) (asked : List (Nat × Nat × Nat)) (err : Nat) (s : State) : Host.Outcome State Fault Refusal :=
  .next (
    if k < 4 ∧ (s.live = true ∨ s.arc.haltOut = true) then
      let s := asked.foldl (fun s q =>
        if q.1 < 4 && q.2.1 + q.2.2 ≤ s.dramBytes && s.live then s.askBytes q.1 q.2.1 q.2.2 0 else s) s
      if !(s.dramUp || s.arc.haltOut && s.on (CLK.PLLn_STATUS.LOCKED 3)) then s
      else match s.chooseRead k with
        | none => if (s.sub k).reads.isEmpty && (s.sub k).writes.isEmpty && s.live then s.drmScrub k err else s
        | some i => match (s.sub k).reads[i]? with
          | none => s
          | some p =>
            let bank := s.bankOf p.addr
            let first := if s.orderly k p.addr then
                (s.sub k).writes.filter (fun w => s.bankOf w.addr == bank && w.at_ ≤ p.at_) else []
            let s := first.foldl (fun s w => s.writePiece k w) s
            let s := s.modSub k (fun b => { b with
              writes := b.writes.filter (fun w => !first.contains w)
              reads := b.reads.eraseIdx i
              rows := SMap.set 0 b.rows bank (s.rowOf p.addr + 1) })
            let s := (s.endInOrder k).feedWrites
            let s := if s.rd (DRM.PORTk_TARGET.US p.port) * 1250 < s.now - p.at_ then s.count DRM.LATE.COUNT DRM.LATE.SAT 1 else s
            let s := match (s.sub k).outside with
              | q :: qs => (s.modSub k (fun b => { b with outside := qs })).enterRead k q
              | [] => s
            let s := if err = 1 then s.noteEcc p.tag else if err = 2 && !s.live then s.badPiece p.addr else s
            s.drmError err p.addr
    else s)

/-! ### Refresh and tracking (R360, R365) -/

/-- DDR_REFRESH (R360, R365): all rows close, a changed rate applies, and one forced step may follow. -/
def execDdrRefresh (s : State) : Host.Outcome State Fault Refusal :=
  .next (if s.dramUp = true ∧ s.live = true then s.refreshed.modArc (fun a => { a with forceOpen := true }) else s)

/-- Deadlines in µs of the periodic steps (R365): MR4 read, DQS oscillator, ZQ calibration. -/
def stepDeadline (i : Nat) : Nat := [1100, 4400, 140000].getD i 0

/-- Periodic step `i` may run: in an idle gap, or forced where its deadline has passed and no other forced step has followed the last
refresh (R365). -/
def State.stepMay (s : State) (i : Nat) (forced : Bool) : Bool :=
  s.dramUp && s.live && (!forced || s.arc.forceOpen && decide (s.arc.stepAt.getD i 0 + ticksOfUs (stepDeadline i) ≤ s.now))

/-- Periodic step `i` runs; a forced one is counted (R365). -/
def State.forced (s : State) (i : Nat) (f : Bool) : State :=
  let s := s.modArc (fun a => { a with stepAt := a.stepAt.set i s.now, forceOpen := a.forceOpen && !f })
  if f then s.count DRM.TRACK.FORCED DRM.TRACK.SAT 1 else s

/-- MR4_POLL (R360, R365): whether any device asks for the halved interval; a device outside its range, by subchannel and its
reading in 1/128 °C. -/
def execMr4Poll (hot : Bool) (bad : Option (Nat × Int)) (forced : Bool) (s : State) : Host.Outcome State Fault Refusal :=
  .next (
    if s.stepMay 0 forced then
      let s := s.forced 0 forced
      match bad with
      | some (k, t) => s.halt 0x0410 (k % 4) (ofSigned 16 t)
      | none => s.modArc (fun a => { a with rate := if hot = s.on DRM.STATE.REFRESH_2X then none else some hot })
    else s)

/-- DQS_TRACK (R365): a drift beyond the PHY's range at a subchannel and rank halts the device. -/
def execDqsTrack (drift : Option (Nat × Nat)) (forced : Bool) (s : State) : Host.Outcome State Fault Refusal :=
  .next (
    if s.stepMay 1 forced then
      let s := s.forced 1 forced
      match drift with
      | some (k, r) => s.halt 0x0203 (k % 4 + r % 2 * 16) 0
      | none => s
    else s)

/-- ZQ_CALIBRATION (R365). -/
def execZqCalibration (forced : Bool) (s : State) : Host.Outcome State Fault Refusal :=
  .next (if s.stepMay 2 forced then s.forced 2 forced else s)

/-! ### Self-refresh (R366, R367) -/

/-- Ticks to the display's next read deadline, none where it has none (R454). -/
def State.readDeadline (s : State) : Option Nat :=
  let st := s.rd PRO.STATUS.STATE
  let from_ := fun (t : Nat) => t - ticksOfUs 160 - s.now
  if st = 0 ∨ st = 5 ∨ st = 6 then none
  else if s.pro.frame then some 0
  else
    let next := s.pro.startAt + ticksOfUs (100 * s.proF PRO.PERIOD.MIN)
    let soon := s.pro.ready || s.pro.composing.isSome
    if st = 3 then (if soon then some (from_ next) else none)
    else if st = 4 then some (from_ (if soon then next else s.pro.startAt + ticksOfUs (100 * s.proF PRO.STATIC.FLOOR)))
    else some (from_ next)

/-- The exit latency of R367 in ticks. -/
def State.exitTicks (s : State) : Nat := if s.on CLK.REF.FREQ_SEL then 66200 else 527000

/-- No request is queued anywhere. -/
def State.dramIdle (s : State) : Bool :=
  !s.arc.wanted && s.arc.fifo.isEmpty && s.arc.outside.isEmpty && s.arc.subs.all (fun b => b.reads.isEmpty && b.outside.isEmpty && b.writes.isEmpty)

/-- DRAM to self-refresh, rows closed, with PLL3 off: state 3 when idle, 4 in DARK, 6 in HALTED (R366, R377). -/
def State.selfRefresh (s : State) (st : Nat) : State :=
  ((s.pll3Stop.modArc (fun a => { a with subs := a.subs.map (fun b => { b with rows := [] }) })).wr DRM.STATE.STATE st).countPlain
    DRM.SR_STATUS.ENTRIES 1

/-- SELF_REFRESH_ENTRY (R366); in HALTED the DRAM returns to it once no read has followed for IDLE_US (R377). -/
def execSelfRefreshEntry (s : State) : Host.Outcome State Fault Refusal :=
  .next (
    let far : Bool := match s.readDeadline with
      | none => true
      | some t => decide (s.exitTicks + ticksOfUs 20 ≤ t)
    if s.up ∧ s.dramUp = true ∧ s.on DRM.SR_CTL.IDLE_EN = true ∧ s.dramIdle = true ∧ s.pro.composing = none
        ∧ s.arc.lastReq + ticksOfUs (s.rd DRM.SR_CTL.IDLE_US) ≤ s.now ∧ far = true then s.selfRefresh 3
    else if s.dev = devHalted ∧ s.arc.haltOut = true ∧ s.dramIdle = true
        ∧ s.arc.lastReq + ticksOfUs (s.rd DRM.SR_CTL.IDLE_US) ≤ s.now then
      (s.modArc (fun a => { a with haltOut := false })).selfRefresh 6
    else s)

/-- PLL `n` runs from its saved control word: it relocks, or coasts while REFIN is absent (R128, R131, R144). -/
def State.pllWarm (s : State) (n : Nat) : State :=
  let s := s.modClk (fun c => { c with
    since := c.since.set n (some s.now), pll3Off := if n = 3 then false else c.pll3Off })
  if s.on CLK.REF.OK then s.relock n
  else (s.put (CLK.PLLn_STATUS.COAST n) true).modClk (fun c => { c with broken := c.broken.set n true })

/-- Exit begins: PLL3 enabled from its saved control word where it is off; requests are served from its lock on (R367). -/
def State.leaveRefresh (s : State) : State :=
  if s.clk.pll3Off then (s.wr DRM.STATE.STATE 5).pllWarm 3
  else if s.on (CLK.PLLn_STATUS.LOCKED 3) then s.srExit
  else s.wr DRM.STATE.STATE 5

/-- `n` bytes of the archive from byte `a` on read through I3C in HALTED (R377): the read brings the DRAM out of self-refresh and goes
through the HOST port. -/
def State.haltRead (s : State) (a n : Nat) : State :=
  if s.dev = devHalted ∧ s.rd DRM.STATE.STATE = 6 ∧ a + n ≤ s.dramBytes then
    let s := if s.arc.haltOut then s else (if s.clk.pll3Off then s.pllWarm 3 else s).modArc (fun x => { x with haltOut := true })
    s.askBytes 1 a n 0
  else s

/-- SELF_REFRESH_EXIT (R366, R367): a request waits, or the display's deadline comes near. -/
def execSelfRefreshExit (s : State) : Host.Outcome State Fault Refusal :=
  .next (
    let near : Bool := match s.readDeadline with
      | none => false
      | some t => decide (t ≤ s.exitTicks + ticksOfUs 10)
    if s.up ∧ s.rd DRM.STATE.STATE = 3 ∧ (s.dramIdle = false ∨ s.arc.job.isSome = true ∨ near = true) then s.leaveRefresh else s)

/-! ### Rings (R371, R373 to R375) -/

/-- Start of the region, of its data ring, and the data ring's size in bytes. -/
def State.arcBase (s : State) : Nat := s.rd DRM.ARCH_BASE.PAGES * 65536
@[inherit_doc State.arcBase] def State.ringBase (s : State) : Nat := s.arcBase + s.rd DRM.ARCH_CFG.IDX_PAGES * 65536
@[inherit_doc State.arcBase] def State.ringSize (s : State) : Nat :=
  (s.rd DRM.ARCH_SIZE.PAGES - s.rd DRM.ARCH_CFG.IDX_PAGES) * 65536

/-- Entries of the index ring. -/
def State.indexEntries (s : State) : Nat := s.rd DRM.ARCH_CFG.IDX_PAGES * 2048

/-- Address of the index entry of a record. -/
def State.indexAddr (s : State) (r : Nat) : Nat := s.arcBase + (if s.indexEntries = 0 then 0 else r % s.indexEntries) * 32

/-- Records that take space, oldest first, and the bytes they take. -/
def Arc.held (a : Arc) : List ArcRec := a.recs ++ a.waiting
@[inherit_doc Arc.held] def Arc.used (a : Arc) : Nat := (a.held.map (fun r => r.len + r.skip)).sum

/-- Head, tail and fill shown (R374, R375, R380). -/
def State.showArc (s : State) : State :=
  let valid := s.arc.recs.filter (fun r => r.state = 1)
  let s := match valid.getLast? with | some r => s.wr DRM.ARCH_HEAD.RECORD r.number | none => s
  let s := match valid.head? with | some r => s.wr DRM.ARCH_TAIL.RECORD r.number | none => s
  (s.wr DRM.ARCH_STATUS.USED (ceilDiv s.arc.used 65536)).showStaging

/-- The index entry of a record (R371). -/
def State.indexBytes (s : State) (r : ArcRec) (state : Nat) : List Nat :=
  leBytes 8 (s.ringBase + r.off) ++ leBytes 6 r.roll ++ [r.channel, state] ++ leBytes 4 r.frame ++ leBytes 4 (r.len / 256)
    ++ leBytes 4 r.number ++ leBytes 4 r.flags

/-- The index entry of a record discarded whose read claims have ended is written in state 2, as a piece of the ARCHIVE port (R374). -/
def State.dropDiscarded (s : State) : State :=
  (s.arc.recs.filter (fun r => r.state = 2 && r.claims.isEmpty)).foldl (fun s r =>
    (s.modArc (fun a => { a with recs := a.recs.map (fun q => if q.number = r.number then { q with state := 3 } else q) })).askWrite 2
      (s.indexAddr r.number) (s.indexBytes r 2)) s

/-- Discarded records whose claims have ended leave the ring from its oldest end on, and free their space (R373, R374). -/
def State.sweepArc (s : State) : State :=
  let s := s.dropDiscarded
  (s.modArc (fun a => { a with recs := a.recs.dropWhile (fun r => r.state == 3) })).showArc

/-- A read claim on a record ends (R373, R374). -/
def State.dropArcClaim (s : State) (number : Nat) (h : Holder) : State :=
  (s.modArc (fun a => { a with recs := a.recs.map (fun r => if r.number = number then { r with claims := r.claims.erase h } else r) })).sweepArc

/-- A record still held and not discarded. -/
def State.arcRec? (s : State) (number : Nat) : Option ArcRec := s.arc.recs.find? (fun r => r.number = number && r.state = 1)

/-- An ARCHIVE stream takes every record of its range that is visible, each under a read claim; one it cannot take is a loss
(R371, R396, R399). -/
def State.archiveFeed : Nat → Nat → Nat → State → State
  | 0, _, _, s => s
  | n + 1, p, id, s => match (s.port p).streams.find? (fun t => t.id = id) with
    | none => s
    | some t =>
      if t.param.getD 1 0 ≤ t.deal then s
      else match s.arcRec? t.next with
        | none => s
        | some r =>
          let (s, took) := s.offer p id ⟨4, r.number, .archive r.number, r.len⟩ r.number r.number 0
          let s := if took then s.modArc (fun a => { a with recs := a.recs.map (fun q =>
            if q.number = r.number then { q with claims := q.claims ++ [.stream p id] } else q) }) else s
          State.archiveFeed n p id (s.modStrm p id (fun x => { x with next := (x.next + 1) % 2 ^ 32, deal := x.deal + 1 }))

/-- Every ARCHIVE stream served. -/
def State.archiveFeeds (s : State) : State :=
  (s.streamsOf kArchive).foldl (fun s pt => s.archiveFeed s.arc.recs.length pt.1 pt.2.id) s

/-! ### The mover (R370 to R373) -/

/-- Bytes of a record of frame `f`: header, data, zeros up to a multiple of 256. -/
def State.recordOf (s : State) (f : Frame) (ecc : Bool) : List Nat :=
  let bs := deliveredHeader f.header (ecc || f.scrubbed) ++ s.frameData f
  bs ++ List.replicate ((256 - bs.length % 256) % 256) 0

/-- Length of the record of a frame. -/
def recordLen (f : Frame) : Nat := ceilDiv (128 + sampleBytes f.format f.samples) 256 * 256

/-- The next frame the mover holds: lowest roll, then lowest number (R370). -/
def State.moverFrame (s : State) : Option (Nat × Nat) :=
  let a := s.cap.tableRoll.getD 0 0
  let b := s.cap.tableRoll.getD 1 0
  let look := fun (t : Nat) => ((List.range (s.table t).length).find? (fun i => match (s.table t)[i]? with
    | some f => f.holders.contains .mover
    | none => false)).map (fun i => (t, i))
  let (fst, snd) := if a ≤ b then (0, 1) else (1, 0)
  match look fst with
  | some x => some x
  | none => look snd

/-- The place the next record takes, and the space skipped before it, if it fits (R371, R373). -/
def State.ringFit (s : State) (len : Nat) : Option (Nat × Nat) :=
  let d := s.ringSize
  let wraps := decide (d < s.arc.head + len)
  let skip := if wraps && !s.arc.held.isEmpty then d - s.arc.head else 0
  if s.arc.used + skip + len ≤ d && s.arc.held.length < s.indexEntries then some (if wraps then 0 else s.arc.head, skip) else none

/-- The oldest records discarded until a record of `len` fits; one under a claim is waited for (R373). -/
def State.makeRoom : Nat → Nat → State → State
  | 0, _, s => s
  | n + 1, len, s =>
    if (s.ringFit len).isSome then s
    else match s.arc.recs with
      | [] => s
      | _ :: _ =>
        let s := (s.modArc (fun a => { a with recs := match a.recs with
          | r :: rs => (if r.state = 1 then { r with state := 2 } else r) :: rs
          | [] => [] })).sweepArc
        if (s.arc.recs.head?.map ArcRec.state) = some 2 then s else State.makeRoom n len s

/-- The mover looks for its next frame: a frame longer than the data ring is never archived; one that fits becomes the next
record; else the ring is full (R370, R371, R373). -/
def State.moverNext (s : State) : State :=
  if s.arc.job.isSome || s.rd DRM.ARCH_SIZE.PAGES = 0 then s
  else match s.moverFrame with
    | none => s
    | some (t, i) => match (s.table t)[i]? with
      | none => s
      | some f =>
        if f.state != 2 then s
        else
          let len := recordLen f
          if s.ringSize < len then (s.put DRM.ARCH_STATUS.TOO_LONG true).dropHolder t i .mover
          else
            let full := (s.ringFit len).isNone
            let s := if full && !s.arc.fullSeen then (s.modArc (fun a => { a with fullSeen := true })).event 0x0242 [] else s
            let s := if full && s.on DRM.ARCH_CFG.FULL then s.makeRoom s.arc.recs.length len else s
            match s.ringFit len with
            | none => s.put DRM.ARCH_STATUS.FULL true
            | some (off, skip) =>
              let pad := fun (l : List ArcRec) => match l.reverse with
                | r :: rs => ({ r with skip := skip } :: rs).reverse
                | [] => []
              let roll := s.cap.tableRoll.getD t 0
              let r : ArcRec := ⟨s.arc.next, off, len, 0, roll, f.channel, i, le f.header 4 4, 1, []⟩
              (s.modArc (fun a => { a with
                recs := if a.waiting.isEmpty then pad a.recs else a.recs
                waiting := pad a.waiting ++ [r]
                next := (a.next + 1) % 2 ^ 32
                head := off + len
                job := some { number := r.number, table := t, frame := i } })).put DRM.ARCH_STATUS.FULL false |>.showArc

/-- The mover takes its next stripe: 1,024 bytes of the record, on die or staged; the header's unit comes last, so that it
shows every correction of the delivery (R242). With the last byte taken the frame's claim ends (R370). -/
def State.moverStripe (s : State) (ecc : Bool) : State := match s.arc.job with
  | none => s
  | some j => match (s.table j.table)[j.frame]?, s.arc.waiting.find? (fun r => r.number = j.number) with
    | some f, some r =>
      let ecc := ecc || j.ecc
      let bs := s.recordOf f ecc
      let turned := bs.drop 256 ++ bs.take 256
      let staged := decide (262144 < s.arc.onDie + 1024)
      let base := s.ringBase + r.off
      let n := min 4 ((r.len - j.got) / 256)
      let ps := (List.range n).map (fun i =>
        let o := j.got + 256 * i
        ({ port := 2, addr := base + (o + 256) % r.len, len := 256, at_ := s.now, data := slice turned o 256,
           rec_ := some j.number, staged := staged } : Piece))
      let s := s.modArc (fun a => { a with fifo := a.fifo ++ ps, job := some { j with got := j.got + 256 * n, ecc := ecc } })
      let s := if staged then s.request 7 1 (8128 * 65536) false stageTag else s
      let s := s.feedWrites
      if r.len ≤ j.got + 256 * n then
        let s := s.modArc (fun a => { a with job := none })
        s.dropHolder j.table j.frame .mover
      else s
    | _, _ => s.modArc (fun a => { a with job := none })

/-- The byte address the mover reads next: the block of its frame that holds the record's next stripe. -/
def State.moverAddr (s : State) : Nat := match s.arc.job with
  | none => 0
  | some j => match (s.table j.table)[j.frame]? with
    | none => 0
    | some f => match f.blocks[(j.got + 128) / blockBytes f.format]? with
      | some b => b.addr
      | none => f.headerSlot * 128

/-! ### The Comb's memory path (R331, R332) -/

/-- Fields of a descriptor. -/
def Dma.w (d : Dma) (i : Nat) : Nat := d.words.getD i 0
@[inherit_doc Dma.w] def Dma.kind (d : Dma) : Nat := bits (d.w 0) 0 4
@[inherit_doc Dma.w] def Dma.mem (d : Dma) : Nat := bits (d.w 0) 4 2
@[inherit_doc Dma.w] def Dma.frame (d : Dma) : Nat := bits (d.w 1) 0 20
@[inherit_doc Dma.w] def Dma.addr (d : Dma) : Nat := d.w 1 + d.w 2 * 16777216

/-- The range of a FRAME request lies in the frame and in 16,384 words, the range of an ARCHIVE request in the DRAM and in them (R331). -/
def Dma.frameFits (d : Dma) (f : Frame) : Bool :=
  let n := d.w 3
  n != 0 && n ≤ 16336 && d.w 2 + n ≤ f.samples && d.w 4 + 48 + itemWords f.format n ≤ 16384
@[inherit_doc Dma.frameFits] def State.archiveFits (s : State) (d : Dma) : Bool :=
  d.w 3 != 0 && d.addr + d.w 3 ≤ s.dramBytes && d.w 4 + ceilDiv (d.w 3) 3 ≤ 16384

/-- Cell `c`'s oldest DMA request begins: its reads are asked for, and an ARCHIVE request claims the records it covers; one for an OPEN
frame waits until it is CLOSED (R331). -/
def State.dmaBegin (s : State) (c : Nat) : State := match (s.cell c).dma with
  | [] => s
  | d :: rest =>
    let go := fun (s : State) => s.modCell c (fun x => { x with dma := { d with begun := true } :: rest })
    if d.begun then s
    else if d.kind = 1 && d.held then match (s.table d.table)[d.frame]? with
      | none => go s
      | some f =>
        if f.state = 1 then s
        else if d.frameFits f then (go s).addCopy c (tagDma c) f.startAddr (128 + sampleBytes f.format (d.w 3)) false
        else go s
    else if d.kind = 2 && s.archiveFits d then
      let base := s.ringBase
      let s := s.modArc (fun a => { a with recs := a.recs.map (fun r =>
        if base + r.off < d.addr + d.w 3 && d.addr < base + r.off + r.len then { r with claims := r.claims ++ [.dma c] } else r) })
      (go s).addCopy c (tagDma c) d.addr (d.w 3) true
    else go s

/-- Reads for cell `c`'s oldest DMA request are still to be made. -/
def State.dmaReading (s : State) (c : Nat) : Bool := s.copying c (tagDma c) || s.arcReading (tagDma c)

/-- The cell whose piece the memory path takes next: the engines in turn, and in each its cells in turn (R332). -/
def State.combTurn (s : State) : Option Nat :=
  if s.cmb.cells.all (fun x => x.copies.isEmpty) then none
  else (List.range 8).findSome? (fun i =>
    let m := (s.cmb.engine + 1 + i) % 8
    ((List.range 24).map (fun j => 24 * m + (s.cmb.turn.getD m 0 + 1 + j) % 24)).find? (fun c => !(s.cell c).copies.isEmpty))

/-- The memory path takes its next piece of up to 1 KB once the last has returned: from capture memory in Q5, from archive memory at the
COMB port (R332). -/
def State.combNext (s : State) : State :=
  let s := (List.range s.cmb.cells.length).foldl (fun s c => if (s.cell c).dma.isEmpty then s else s.dmaBegin c) s
  if s.cmb.flight != 0 && (s.capReading s.cmb.flight || s.arcReading s.cmb.flight) then s
  else match s.combTurn with
    | none => { s with cmb := { s.cmb with flight := 0 } }
    | some c => match (s.cell c).copies with
      | [] => s
      | q :: qs =>
        let k := min 1024 q.left
        let s := s.modCell c (fun x => { x with copies := if q.left = k then qs else { q with addr := q.addr + k, left := q.left - k } :: qs })
        let s := { s with cmb := { s.cmb with flight := q.tag, engine := c / 24, turn := s.cmb.turn.set (c / 24) (c % 24) } }
        if q.arch then s.askBytes 3 q.addr k q.tag else s.request 6 1 q.addr true q.tag

/-- QDR_SLOT_GRANT (R224, R225, R240 to R242, R296, R332, R370): the slot serves one stripe of the class it goes to, or the scrubber. `err`
is what the stripe read showed: 0 no error, 1 one corrected, which marks what the stripe is read for, 2 uncorrectable; a stripe that is
written shows none. -/
def execQdrSlotGrant (err : Nat) (s : State) : Host.Outcome State Fault Refusal :=
  .next (
    if s.up then
      let s := s.moverNext.combNext
      let cls := s.slotFor
      let (s, reads, addr, tag) := match cls with
        | some 4 => (s.moverStripe (err == 1), true, s.moverAddr, 0)
        | some c => match serveReq c s.cap.reqs with
          | (l, some q) => (({ s with cap := { s.cap with reqs := l } }.sweepSlot q).flagMerge q (err == 1), q.read, q.addr, q.tag)
          | (_, none) => (s, false, 0, 0)
        | none => (s.scrub, true, s.scrubAddr, 0)
      let s := if s.cap.slot + 1 < 32 then { s with cap := { s.cap with slot := s.cap.slot + 1 } }
        else { s with cap := { s.cap with slot := 0, window := s.cap.window + 1 } }
      if !reads then s
      else if err = 2 then s.halt 0x0201 (dieOf addr) (addr / 1024 * 1024)
      else if err = 1 then
        let s := (s.corrected addr).noteEcc tag
        if cls.isNone then s.markScrubbed addr else s
      else s
    else s)

/-- No write to the bytes from `a` on waits anywhere. -/
def State.noWriteAt (s : State) (a : Nat) : Bool :=
  s.arc.outside.all (fun p => p.addr != a) && s.arc.subs.all (fun b => b.writes.all (fun p => p.addr != a))

/-- Every byte of a record is in DRAM. -/
def State.recordDone (s : State) (number : Nat) : Bool :=
  (match s.arc.job with | some j => j.number != number | none => true)
    && s.arc.fifo.all (fun p => p.rec_ != some number)
    && s.arc.subs.all (fun b => b.writes.all (fun p => p.rec_ != some number))

/-- ARCHIVE_RECORD_COMMIT (R367, R371, R372): the oldest record whose index entry is not written has its last byte in DRAM. -/
def execArchiveRecordCommit (s : State) : Host.Outcome State Fault Refusal :=
  .next (
    if s.up ∧ s.dramUp = true then match s.arc.waiting with
      | [] => s
      | r :: rs =>
        if s.recordDone r.number && s.noWriteAt (s.indexAddr r.number) then
          let bs := s.indexBytes r 1
          (s.modArc (fun a => { a with
            lastReq := s.now, waiting := rs, recs := a.recs ++ [r], mem := Memory.write 0 a.mem (s.indexAddr r.number) bs })).showArc.archiveFeeds
        else s
    else s)

/-- The ring emptied (R375): every index entry empty, the next record number 0; a frame being moved starts anew. With SIZE 0
the mover's claims end (R370). -/
def State.emptyArc (s : State) : State :=
  let b := s.arcBase
  let e := s.ringBase
  let s := s.modArc (fun a => { a with
    mem := a.mem.filter (fun p => !(b ≤ p.1 && p.1 < e))
    recs := [], waiting := [], fifo := [], job := none, next := 0, head := 0, fullSeen := false, scrub := 0,
    subs := a.subs.map (fun q => { q with writes := q.writes.filter (fun p => p.rec_.isNone), drain := none }) })
  let s := (((s.wr DRM.ARCH_HEAD.RECORD 0).wr DRM.ARCH_TAIL.RECORD 0).put DRM.ARCH_STATUS.FULL false).showArc
  if s.rd DRM.ARCH_SIZE.PAGES = 0 then
    [0, 1].foldl (fun s t => (List.range (s.table t).length).foldl (fun s i => s.dropHolder t i .mover) s) s
  else s

/-- The record of the next frame the mover holds fits, or there is none (R373, R380). -/
def State.nextFits (s : State) : Bool := match s.moverFrame with
  | none => true
  | some (t, i) => match (s.table t)[i]? with
    | none => true
    | some f => (s.ringFit (recordLen f)).isSome

/-- Records up to a number discarded (R374). -/
def State.trimArc (s : State) (number : Nat) : State :=
  let s := (s.modArc (fun a => { a with
    fullSeen := false
    recs := a.recs.map (fun r => if newer r.number number || r.state != 1 then r else { r with state := 2 }) })).sweepArc
  -- with no valid record left the tail stands behind the last one discarded
  let s := if s.arc.recs.any (fun r => r.state == 1) then s else s.wr DRM.ARCH_TAIL.RECORD ((number + 1) % 2 ^ 32)
  if s.nextFits then s.put DRM.ARCH_STATUS.FULL false else s

/-! ### Register rules of the block -/

/-- No read claim on any record. -/
def State.noArcClaim (s : State) : Bool := s.arc.recs.all (fun r => r.claims.isEmpty)

/-- Ranges and relations of the archive fields (R374, R380). -/
def DRM.valueBad (s : State) (n : Fld → Nat) (f : Fld) : Bool :=
  let lat := [(1, 100), (1, 1000), (5, 1000), (1, 1000)]
  let port := (List.range 4).find? (fun k => f = DRM.PORTk_TARGET.US k)
  if f = DRM.MAP.GRAIN then n f < 8 || 16 < n f
  else if f = DRM.WM.LOW ∨ f = DRM.WM.HIGH then
    n DRM.WM.LOW < 4 || 56 < n DRM.WM.LOW || n DRM.WM.HIGH < n DRM.WM.LOW + 4 || 62 < n DRM.WM.HIGH
  else if f = DRM.SR_CTL.IDLE_US then n f < 10
  else if f = DRM.ARCH_CFG.IDX_PAGES then n f < 1 || 4096 < n f || (s.rd DRM.ARCH_SIZE.PAGES != 0 && s.rd DRM.ARCH_SIZE.PAGES ≤ n f)
  else if f = DRM.ARCH_BASE.PAGES then s.rd DRM.CFG.CAPACITY_GB * 16384 < n f + s.rd DRM.ARCH_SIZE.PAGES
  else if f = DRM.ARCH_SIZE.PAGES then
    (n f != 0 && n f ≤ s.rd DRM.ARCH_CFG.IDX_PAGES) || s.rd DRM.CFG.CAPACITY_GB * 16384 < s.rd DRM.ARCH_BASE.PAGES + n f
  else if f = DRM.ARCH_TRIM.RECORD then (s.arcRec? (n f)).isNone
  else match port with
    | some k => n f < (lat.getD k (0, 0)).1 || (lat.getD k (0, 0)).2 < n f
    | none => false

/-- Grain and region are written only in IDLE with no claim open (R354, R375, R376). -/
def DRM.stateBad (s : State) (f : Fld) : Bool :=
  [DRM.MAP.GRAIN, DRM.ARCH_CFG.IDX_PAGES, DRM.ARCH_CFG.FULL, DRM.ARCH_BASE.PAGES, DRM.ARCH_SIZE.PAGES].contains f
    && (s.dev != devIdle || !s.noArcClaim)

/-- What a write to the block does beyond storing (R354, R374, R375). -/
def DRM.onWrite (f : Fld) (v : Nat) (s : State) : State :=
  if [DRM.MAP.GRAIN, DRM.ARCH_CFG.IDX_PAGES, DRM.ARCH_CFG.FULL, DRM.ARCH_BASE.PAGES, DRM.ARCH_SIZE.PAGES].contains f then s.emptyArc
  else if f = DRM.ARCH_TRIM.RECORD then s.trimArc v else s

end Sys2Proof.Machine
end

