-- ==== Sys2Proof/Machine/Cal.lean ====
section
/-! DEFINITION. Calibration (03_calibration.md): passes, reference checks, static results, handovers, background windows,
range checks, mode changes, certified values and the records of the ledger. -/

namespace Sys2Proof.Machine

/-! ### Limits (R105) -/

/-- The plausibility table that covers a mode, of the image in force. -/
def State.limTable (s : State) (mode : Nat) : List Nat := match s.image with
  | none => []
  | some im => match im.tables.find? (fun t => t.kind = 9 && (le t.bytes 4 1).testBit mode) with
    | some t => t.bytes
    | none => []

/-- The field at `off` of the table in force. -/
def State.lim (s : State) (off : Nat) : Int := toSigned 32 (le (s.limTable (s.rd ADC.MODE.ACTIVE)) off 4)

/-! ### Overdue (R92, R110, R591) -/

/-- The condition of R110 on channel `m`. -/
def State.overdueHolds (s : State) (m : Nat) : Bool :=
  let c := s.calCh m
  let lim := s.rd CAL.OVERDUE.SECONDS
  c.passed && (decide (ticksOfS (lim + 10) < s.now - c.endNow) || c.bgAt.any (fun t => ticksOfS lim < s.now - t))

/-- CAL_OVERDUE ends where its condition no longer holds. -/
def State.overdueClear (s : State) (m : Nat) : State :=
  if s.on (CAL.STATE.OVERDUE m) && !s.overdueHolds m then (s.put (CAL.STATE.OVERDUE m) false).event 0x0314 [] else s

/-- CAL_OVERDUE_SET (R110). -/
def execCalOverdueSet (n : Nat) (s : State) : Host.Outcome State Fault Refusal :=
  .next (if n < 8 ∧ s.up ∧ ¬ s.on (CAL.STATE.OVERDUE n) ∧ s.overdueHolds n then
    (s.put (CAL.STATE.OVERDUE n) true).event 0x0313 [] else s)

/-! ### Passes that fall due (R92) -/

/-- A pass on channel `m` falls due for a cause; requests while one is due or running coalesce. -/
def State.passDue (s : State) (m cause : Nat) : State :=
  if s.rd (CAL.STATE.PASS m) = 0 then
    let s := (s.wr (CAL.STATE.PASS m) 1).wr (CAL.STATE.CAUSE m) cause
    s.modCal m (fun c => { c with cause := cause, startTemp := s.tempMean m })
  else s

/-- A reading of channel `m`'s own temperature sensor, in 1/128 °C (R92). -/
def State.tempReading (s : State) (m : Nat) (v : Int) : State :=
  let s := s.modCal m (fun c => { c with temps := (v :: c.temps).take 8 })
  let s := s.wr (CAL.TEMP.NOW m) (s.tempMean m)
  let d := (s.rdS (CAL.TEMP.NOW m) - s.rdS (CAL.TEMP.LAST m)).natAbs
  if s.up && (s.calCh m).passed && decide (s.rd CAL.DELTA_T.VALUE * 128 < d * 100) then s.passDue m 1 else s

/-- PASS_OVERDUE (R92). -/
def execPassOverdue (n : Nat) (s : State) : Host.Outcome State Fault Refusal :=
  .next (
    let c := s.calCh n
    if n < 8 ∧ s.up ∧ c.passed = true ∧ ticksOfS (s.rd CAL.OVERDUE.SECONDS) < s.now - c.endNow then s.passDue n 2 else s)

/-! ### Certified values (R87, R88, R90) -/

/-- A committed certified value: a history entry, an audit entry, every channel waiting (R87, R481). -/
def State.certCommit (s : State) (value unc k cert role att hostId : Nat) : State :=
  let idx := match s.led.certs with | x :: _ => x.index + 1 | [] => 0
  let e : CertEntry := { index := idx, value := value, unc := unc, k := k, certId := cert, tb := s.ticks, role := role
                         firstEpoch := List.replicate 8 0xFFFFFFFF, waiting := 255 }
  let s := { s with led := { s.led with certs := (e :: s.led.certs).take 256 } }
  let s := (s.wr CAL.CERT_STATUS.INDEX (idx % 256)).wr CAL.CERT_STATUS.WAITING 255
  s.audit 8 role att hostId idx value unc (k + cert * 256)

/-- Channel `m` begins a calibration: it takes the newest committed value, which comes into force at its first epoch where the channel
still waits for it (R88). -/
def State.certTake (s : State) (m : Nat) : State :=
  match s.led.certs with
  | [] => s
  | x :: _ => s.modCal m (fun c => { c with
      certNv := x.value, certIdx := x.index, certNext := (s.rd CAL.CERT_STATUS.WAITING).testBit m })

/-! ### The reference check (R89) -/

/-- The sense reading lies within `ref_window` of the certified value of channel `m`. -/
def State.senseOk (s : State) (m senseNv : Nat) : Bool :=
  let v := (s.calCh m).certNv
  decide (((senseNv : Int) - v).natAbs * 1000000 ≤ (s.lim 0x5C).toNat * v)

/-- The sense reading in nV: the mean of the last 64 readings of input 31, in units of 15.625 µV (R429, R430). -/
def State.senseNv (s : State) : Nat := if s.mon.sense.isEmpty then 0 else s.mon.sense.sum * 15625 / s.mon.sense.length

/-- The sense check made and shown. -/
def State.showSense (s : State) (m : Nat) : State :=
  (s.wr CAL.REF.SENSE_UV (min (2 ^ 20 - 1) (s.senseNv / 1000))).put CAL.REF.OK (s.senseOk m s.senseNv)

/-- A deferral counted and reported. -/
def State.deferCount (s : State) : State := (s.count CAL.DEFERS.COUNT CAL.DEFERS.SAT 1).event 0x0312 []

/-- The running pass of channel `m` is deferred. -/
def State.deferPass (s : State) (m : Nat) : State :=
  ((s.wr (CAL.STATE.PASS m) 3).modCal m (fun c => { c with deferredAt := s.now })).deferCount

/-- The start-up or mode calibration waits for its reference check, which failed (R89, R111). -/
def State.startDefer (s : State) : State :=
  ({ s with cal := { s.cal with startBegun := false, startDeferred := true } }.modCal 0 (fun c => { c with deferredAt := s.now })).deferCount

/-- CAL_PASS_START (R89, R92, R93). -/
def execCalPassStart (n : Nat) (s : State) : Host.Outcome State Fault Refusal :=
  .next (
    let c := s.calCh n
    let spare := s.rd (ADC.STATUS.SPARE n)
    if n < 8 ∧ s.up ∧ s.rd (CAL.STATE.PASS n) = 1 ∧ s.on ADC.SCLK.OK = true ∧ ¬ s.on SYS.STATE.ENTERING
        ∧ (c.passed = false ∨ c.startNow + ticksOfS 2 ≤ s.now) ∧ s.rd (ADC.SLICEk.ROLE n spare) = 1 then
      let s := s.certTake n
      let s := s.modCal n (fun c => { c with
        startNow := s.now, startTb := s.ticks, startTemp := if c.cause = 1 then c.startTemp else s.tempMean n
        ratio := 0, nextPos := 0, rejects := 0, leaving := none, prev := none, epochs := none
        slices := c.slices.map (fun x => { x with result := 0, check := 0, handTb := 0 }) })
      let s := ((s.wr (CAL.STATE.PASS n) 2).wr (CAL.STATE.DONE n) 0).calibrate n spare
      let s := s.showSense n
      if s.on CAL.REF.OK then s else s.deferPass n
    else s)

/-- REFERENCE_CHECK_RETRY (R89, R111): the check of a deferred pass, of a deferred range check, or (`n` = 8) of the start-up or
mode calibration. A pass that resumes measures its slice from step 1. A repeated check that fails again is no further deferral
(DESIGN CHOICE, notes/assumptions/22.md). -/
def execReferenceCheckRetry (n : Nat) (s : State) : Host.Outcome State Fault Refusal :=
  .next (
    if n < 8 then
      let c := s.calCh n
      let deferred := s.rd (CAL.STATE.PASS n) == 3
      if s.up ∧ s.on ADC.SCLK.OK = true ∧ ¬ s.on SYS.STATE.ENTERING ∧ c.deferredAt + ticksOfS 10 ≤ s.now
          ∧ (deferred || c.rangeRun.isSome && !s.on CAL.REF.OK) = true then
        let s := s.showSense n
        if s.on CAL.REF.OK then
          (if deferred then (s.modSlice n (s.rd (CAL.STATE.SLICE n)) (fun x => { x with since := s.now })).wr (CAL.STATE.PASS n) 2 else s)
        else s.modCal n (fun c => { c with deferredAt := s.now })
      else s
    else if n = 8 then
      let due := !s.cal.startDeferred || decide ((s.calCh 0).deferredAt + ticksOfS 10 ≤ s.now)
      if (s.dev = devStart ∨ s.up = true) ∧ s.rd (CAL.STATE.PASS 0) = 4 ∧ ¬ s.cal.startBegun ∧ due = true
          ∧ s.on ADC.SCLK.OK = true then
        let s := s.showSense 0
        if s.on CAL.REF.OK then { s with cal := { s.cal with startBegun := true, startDeferred := false } }
        else
          let first := !s.cal.startDeferred
          let s := { s with cal := { s.cal with startDeferred := true } }.modCal 0 (fun c => { c with deferredAt := s.now })
          if first then s.deferCount else s
      else s
    else s)

/-! ### Rejections (R96, R107, R113) -/

/-- A rejection counted on channel `m`. -/
def State.rejectCount (s : State) (m k check : Nat) : State :=
  let s := (s.count CAL.REJECTS.COUNT CAL.REJECTS.SAT 1).count (CAL.CH_REJECTS.COUNT m) (CAL.CH_REJECTS.SAT m) 1
  (s.modCal m (fun c => { c with rejects := c.rejects + 1 })).event 0x0311 [k, check]

/-- The strikes of channel `m` shown. -/
def State.showStrikes (s : State) (m : Nat) : State :=
  s.wr (CAL.STATE.STRIKES m) (((s.calCh m).slices.map Slice.strikes).foldl max 0)

/-- A result of slice `k` of channel `m` is rejected: the third in a row halts (R96). -/
def State.rejectSlice (s : State) (m k check result : Nat) : State :=
  let s := s.rejectCount m k check
  let s := s.modSlice m k (fun x => { x with strikes := x.strikes + 1, result := result, check := check })
  let s := s.showStrikes m
  if 3 ≤ ((s.calCh m).slices.getD k {}).strikes then s.halt 0x0301 (m + 16 * k + 4096 * check) 0 else s

/-- A result of slice `k` of channel `m` is accepted. -/
def State.acceptSlice (s : State) (m k : Nat) : State :=
  (s.modSlice m k (fun x => { x with strikes := 0, result := 0, check := 0 })).showStrikes m

/-! ### Static results (R94, R106) -/

/-- The gain of one sub-converter in 2^-24; 0 where the levels leave none. -/
def staticGain (v : Nat) (mG mC : Int) : Int :=
  if mC - mG ≤ 0 then 0 else divRound ((v : Int) * 1048576 * 16777216) (1000000000 * (mC - mG))

/-- The ratio r in 2^-30 from the sums over the sub-converters; 0 where CALREF gives no level. -/
def staticRatio (mG mB mC : List Int) : Nat :=
  let c := mC.sum - mG.sum
  if c ≤ 0 then 0 else (divRound ((mB.sum - mG.sum) * 2 ^ 30) c).toNat

/-- The first check that sub-converter `j` fails, 0 where it fails none (R106, R107). `old` is the slice's previous pair, none
where no accepted value exists; `vOld` is the certified value its gain was formed under, by which it is rescaled (R88). -/
def State.staticCheck (s : State) (v vOld ratio noise : Nat) (g b c : Int) (old : Option (Int × Int)) : Nat :=
  let gain := staticGain v g c
  let lin := ((b - g) * gain * (2 ^ 30 * 1000000000) - (ratio : Int) * v * 1048576 * 2 ^ 24).natAbs
  if s.lim 0x54 < noise then 5
  else if s.lim 0x08 < g.natAbs then 1
  else if (match old with | some (o, _) => decide (s.lim 0x0C < (g - o).natAbs) | none => false) then 2
  else if gain < s.lim 0x18 ∨ s.lim 0x1C < gain then 3
  else if (match old with
      | some (_, p) =>
        let pn := if vOld = 0 then p else divRound (p * vOld) v
        decide (s.lim 0x20 * pn < (gain - pn).natAbs * 10000000)
      | none => false) then 4
  else if s.lim 0x58 * 2 ^ 54 * 1000000000 < lin then 6 else 0

/-- The first check a static result fails, sub-converter by sub-converter. -/
def State.staticJudge (s : State) (m k noise : Nat) (mG mB mC : List Int) : Nat :=
  let c := s.calCh m
  let co := (c.slices.getD k {}).coef
  let codes := (List.range 8).map (fun j =>
    s.staticCheck c.certNv co.nv c.ratio noise (mG.getD j 0) (mB.getD j 0) (mC.getD j 0)
      (if c.accepted then some (co.off.getD j 0, co.gain.getD j 0) else none))
  (codes.find? (· != 0)).getD 0

/-- The coefficients of slice `k` with a static result. -/
def State.staticCoef (s : State) (m k : Nat) (mG mC : List Int) : Coef :=
  let c := s.calCh m
  let co := (c.slices.getD k {}).coef
  { co with
    nv := c.certNv
    off := (List.range 8).map (fun j => mG.getD j 0)
    gain := (List.range 8).map (fun j => staticGain c.certNv (mG.getD j 0) (mC.getD j 0)) }

/-- The ratio measured on the spare lies within `ratio_step` of the last accepted, or none is accepted yet (R89). -/
def State.ratioOk (s : State) (r : Nat) : Bool :=
  let last := s.cal.ratios.getD (s.rd ADC.MODE.ACTIVE) 0
  last == 0 || decide (((r : Int) - last).natAbs * 1000000 ≤ (s.lim 0x60).toNat * last)

/-- A ratio accepted on channel `m`. -/
def State.ratioTake (s : State) (m r : Nat) : State :=
  let s := { s with cal := { s.cal with ratios := s.cal.ratios.set (s.rd ADC.MODE.ACTIVE) r } }
  (s.modCal m (fun c => { c with ratio := r })).wr CAL.BG_RATIO.RATIO r

/-! ### Ledger records (R114, R120) -/

/-- The 108 bytes of a slice entry. -/
def State.sliceEntry (s : State) (m k : Nat) : List Nat :=
  let x := (s.calCh m).slices.getD k {}
  let pos := if s.rd (ADC.SLICEk.ROLE m k) = 0 then s.rd (ADC.SLICEk.POSITION m k) else 31
  [k, pos, x.result, x.check] ++ leBytes 8 x.handTb ++ leBytes 2 (ofSigned 16 x.coef.trim) ++ [0, 0]
    ++ (x.coef.off.map (fun v => leBytes 4 (ofSigned 32 v))).flatten ++ (x.coef.gain.map (fun v => leBytes 4 (ofSigned 32 v))).flatten
    ++ (x.coef.eq.map (fun v => leBytes 4 (ofSigned 32 v))).flatten

/-- Bytes 0x000 to 0x7DF of a record of channel `m`; both epochs are the one in force while the calibration has created none. -/
def State.calBody (s : State) (m seq : Nat) (tbEnd : Nat) : List Nat :=
  let c := s.calCh m
  let now := s.rd (CAL.EPOCH.EPOCH (s.lead m))
  let ep := c.epochs.getD (now, now)
  leBytes 2 0xCA7E ++ [1, m] ++ leBytes 4 seq ++ leBytes 8 c.startTb ++ leBytes 8 tbEnd
    ++ [s.rd ADC.MODE.ACTIVE, s.rd (ADC.RANGE.ACTIVE (s.lead m)), c.cause, 0] ++ leBytes 2 c.startTemp ++ leBytes 2 (s.tempMean m)
    ++ leBytes 4 ep.1 ++ leBytes 4 ep.2 ++ leBytes 4 c.certIdx ++ leBytes 4 c.rejects
    ++ ((List.range 8).map (fun i => leBytes 4 (s.rd (CAL.COUNT.COUNT i)))).flatten
    ++ leBytes 4 c.ratio ++ leBytes 4 (s.rd CAL.REF.SENSE_UV)
    ++ (c.factors.map (leBytes 4)).flatten ++ List.replicate 24 0
    ++ ((List.range 17).map (s.sliceEntry m)).flatten ++ List.replicate 52 0

/-- The record of a completed calibration of channel `m` into the ring. -/
def State.calRecord (s : State) (m : Nat) : State :=
  let body := s.calBody m s.cal.recordSeq s.ticks
  let rec_ := body ++ slice (sha256 body) 0 32
  let slot := s.cal.recordSeq % 1024
  let s := { s with
    led := { s.led with calRing := (rec_ :: s.led.calRing).take 1024 }
    cal := { s.cal with recordSeq := (s.cal.recordSeq + 1) % 2 ^ 32 } }
  (s.wr CAL.LEDGER.NEWEST slot).wr CAL.LEDGER.VALID s.led.calRing.length

/-- The calibration view's live state (R120). -/
def State.calLive (s : State) (m : Nat) : List Nat :=
  slice (s.calBody m 0 (s.rd (CAL.LAST_TB_LO.TICKS m) + s.rd (CAL.LAST_TB_HI.TICKS m) * 2 ^ 32)) 0 2048

/-! ### The end of a calibration (R98, R591) -/

/-- What every completed calibration of channel `m` leaves: times, temperature, the overdue condition judged again. -/
def State.calDoneAt (s : State) (m temp : Nat) : State :=
  let t := s.ticks
  let s := ((s.wr (CAL.LAST_TB_LO.TICKS m) (t % 2 ^ 32)).wr (CAL.LAST_TB_HI.TICKS m) (t / 2 ^ 32)).wr (CAL.TEMP.LAST m) temp
  s.modCal m (fun c => { c with endNow := s.now, passed := true })

/-- The pass of channel `n` completes with slice `k` as the spare (R98). -/
def State.passComplete (s : State) (n k : Nat) : State :=
  let s := (s.setRole n k 1 31 0).wr (ADC.STATUS.SPARE n) k
  let s := s.countPlain (CAL.COUNT.COUNT n) 1
  let s := s.calDoneAt n (if (s.calCh n).cause = 1 then (s.calCh n).startTemp else s.tempMean n)
  let s := s.modCal n (fun c => { c with accepted := true, leaving := none, prev := none })
  let s := s.calRecord n
  let s := ((s.wr (CAL.STATE.PASS n) 0).wr (CAL.STATE.CAUSE n) 0).wr (CAL.STATE.SLICE n) 31
  let s := s.event 0x0310 []
  ((s.overdueClear n).stepsDue (s.lead n)).rbTake

/-- A start-up or mode calibration begins on every channel (R111, R112, R591). A pass that was due is dropped, not kept due (DESIGN
CHOICE, notes/assumptions/21.md); `CAL.STATE.SLICE` stays 31 while all 17 slices are in CALIBRATING (DESIGN CHOICE,
notes/assumptions/23.md). -/
def State.calBegin (s : State) (cause : Nat) : State :=
  let mode := s.rd ADC.MODE.ACTIVE
  let s := { s with cal := { s.cal with startBegun := false, startDeferred := false } }
  (List.range 8).foldl (fun s m =>
    let s := s.certTake m
    let roles := (List.range 17).map (fun k => (s.rd (ADC.SLICEk.ROLE m k), s.rd (ADC.SLICEk.POSITION m k)))
    let s := s.modCal m (fun c => { c with
      startNow := s.now, startTb := s.ticks, startTemp := s.tempMean m, cause := cause, ratio := 0, rejects := 0, rangesDone := 0
      rangeRun := none, epochs := none, waiting := none, bgNew := [], leaving := none, prev := none, past := none
      modes := c.modes.modify mode (fun x => { x with roles := roles })
      slices := c.slices.map (fun x => { x with calDone := false, result := 0, check := 0, handTb := 0, since := s.now }) })
    let s := (List.range 17).foldl (fun s k => s.setRole m k 2 31 4) s
    ((s.wr (CAL.STATE.PASS m) 4).wr (CAL.STATE.CAUSE m) cause).wr (CAL.STATE.DONE m) 0) s

/-- Every slice and every range of the running start-up or mode calibration is accepted. -/
def State.calAllDone (s : State) : Bool :=
  s.cal.startBegun && (List.range 8).all (fun m =>
    (s.calCh m).slices.all Slice.calDone && (s.calCh m).rangesDone == 4)

/-- The start-up or mode calibration ends: one step on every channel, roles restored, certified value in force, a record each
(R83, R88, R591). -/
def State.calFinish (s : State) : State :=
  let mode := s.rd ADC.MODE.ACTIVE
  let s := (List.range 8).foldl (fun s m =>
    let roles := ((s.calCh m).modes.getD mode {}).roles
    let s := (List.zip (List.range 17) roles).foldl (fun s kr => s.setRole m kr.1 kr.2.1 kr.2.2 0) s
    let s := s.epochStep m
    let e := s.rd (CAL.EPOCH.EPOCH (s.lead m))
    let s := (s.modCal m (fun c => { c with epochs := some (e, e) })).certInForce m
    let s := s.calDoneAt m (s.calCh m).startTemp
    let s := s.modCal m (fun c => { c with accepted := true, bgAt := List.replicate 4 s.now })
    s.calRecord m) s
  let s := { s with cal := { s.cal with modeCal := false, startBegun := false } }
  (List.range 8).foldl (fun s m =>
    (((s.wr (CAL.STATE.PASS m) 0).wr (CAL.STATE.CAUSE m) 0).wr (CAL.STATE.SLICE m) 31).overdueClear m) s

/-! ### Static calibration, handover -/

/-- A rejected static result: the slice keeps its coefficients and its role, and measures again from step 1 (R96). -/
def State.staticReject (s : State) (n k check : Nat) : State :=
  (s.modSlice n k (fun x => { x with since := s.now })).rejectSlice n k check 1

/-- STATIC_CAL_COMPLETE within a start-up or mode calibration (R111). -/
def State.staticStart (s : State) (n k noise : Nat) (mG mB mC : List Int) : State :=
  let spare := s.rd (ADC.STATUS.SPARE n)
  let r := staticRatio mG mB mC
  if k = spare ∧ ¬ s.ratioOk r then s.startDefer
  else
    let s := if k = spare then s.ratioTake n r else s
    match s.staticJudge n k noise mG mB mC with
    | 0 =>
      let co := s.staticCoef n k mG mC
      let s := s.modSlice n k (fun x => { x with coef := co, calDone := true })
      (s.acceptSlice n k).wr (CAL.STATE.DONE n) (((s.calCh n).slices.filter Slice.calDone).length)
    | code => s.staticReject n k code

/-- The trim slice `k` of channel `n` needs at the position it takes next: the position's last trim, adjusted by what the recorded
delay of the slice it replaces differs from its own (R94). -/
def State.nextTrim (s : State) (n k : Nat) : Int :=
  let c := s.calCh n
  let out := (c.slices.getD (s.sliceAt n c.nextPos) {}).coef
  out.trim + out.delay - (c.slices.getD k {}).coef.delay

/-- Slice `k` of channel `n`, calibrated with coefficients `co`, enters SHADOWING at the position it takes next (R44, R94, R95). -/
def State.shadow (s : State) (n k : Nat) (co : Coef) : State :=
  let old := ((s.calCh n).slices.getD k {}).coef
  let s := (s.modSlice n k (fun x => { x with coef := co })).modCal n (fun c => { c with prev := some old })
  let s := (s.setRole n k 3 (s.calCh n).nextPos 0).wr (ADC.SLICEk.TRIM n k) (ofSigned 10 co.trim)
  s.wr (CAL.STATE.SLICE n) 31

/-- STATIC_CAL_COMPLETE within a pass (R89, R93 to R96). A trim outside ±40.0 ps fails its bound (R53, R60). -/
def State.staticPass (s : State) (n k noise : Nat) (mG mB mC : List Int) : State :=
  let done := s.rd (CAL.STATE.DONE n)
  let r := staticRatio mG mB mC
  if done = 0 ∧ ¬ s.ratioOk r then s.deferPass n
  else
    let s := if done = 0 then s.ratioTake n r else s
    match s.staticJudge n k noise mG mB mC with
    | 0 =>
      let co := s.staticCoef n k mG mC
      if done + 1 = 17 then
        let s := (s.acceptSlice n k).wr (CAL.STATE.DONE n) 17
        (s.modSlice n k (fun x => { x with coef := co })).passComplete n k
      else if 400 < (s.nextTrim n k).natAbs then s.staticReject n k 9
      else ((s.acceptSlice n k).wr (CAL.STATE.DONE n) (done + 1)).shadow n k { co with trim := s.nextTrim n k }
    | code => s.staticReject n k code

/-- STATIC_CAL_COMPLETE (R94 to R98, R111). -/
def execStaticCalComplete (n k : Nat) (mG mB mC : List Int) (noise : Nat) (s : State) : Host.Outcome State Fault Refusal :=
  .next (
    let ok := n < 8 && k < 17 && s.on ADC.SCLK.OK && mG.length == 8 && mB.length == 8 && mC.length == 8
    if ok && s.up && s.rd (CAL.STATE.PASS n) == 2 then
      -- the slice clock of the last handover is over
      let t := s.leaveDue n
      if t.rd (CAL.STATE.SLICE n) == k && t.rd (ADC.SLICEk.ROLE n k) == 2 then t.staticPass n k noise mG mB mC else s
    else if ok && (s.up || s.dev == devStart) && s.rd (CAL.STATE.PASS n) == 4 && s.cal.startBegun
        && !((s.calCh n).slices.getD k {}).calDone && (k == s.rd (ADC.STATUS.SPARE n) || (s.calCh n).ratio != 0) then
      s.staticStart n k noise mG mB mC
    else s)

/-- The differences of the two corrected outputs over 64 samples of position `p` of channel `n`, incoming less outgoing, in LSB: for
each sample the seven raw codes of R59 and the raw code of the incoming slice `k` (R46 step 2). -/
def State.shadowDiffs (s : State) (n k p : Nat) (codes : List (List Nat)) (ins : List Nat) : List Int :=
  let lead := s.lead n
  let sc := (s.cch lead).pos / s.posPerSc
  let co := ((s.calCh n).slices.getD k {}).coef
  (List.range 64).map (fun i =>
    let pos := (sc + i) * s.posPerSc + p * s.groupSize + (n - lead)
    let raw := codes.getD i []
    (s.correctWith lead pos co (raw.set 3 (ins.getD i 0))).1 - (s.correct lead pos raw).1)

/-- The check a comparison over 64 samples fails, 0 for none (R106, R107). -/
def State.handoverCheck (s : State) (ds : List Int) : Nat :=
  if s.lim 0x4C < 4 * (ds.sum.natAbs : Int) then 7
  else if s.lim 0x50 * s.lim 0x50 < 1024 * (ds.map (fun d => d * d)).sum then 8 else 0

/-- A handover of slice `k` of channel `n` is cancelled: its coefficients and the count of completed slices are as before its static
result, and it is calibrated again (R46, R96, R119). -/
def State.handoverCancel (s : State) (n k check : Nat) : State :=
  let co := ((s.calCh n).prev).getD ((s.calCh n).slices.getD k {}).coef
  let s := (s.modSlice n k (fun x => { x with coef := co })).modCal n (fun c => { c with prev := none })
  let s := (s.wr (ADC.SLICEk.TRIM n k) (ofSigned 10 co.trim)).wr (CAL.STATE.DONE n) (s.rd (CAL.STATE.DONE n) - 1)
  (s.calibrate n k).rejectSlice n k check 2

/-- HANDOVER (R45 to R47, R96, R106, R108): the estimator compares the two corrected outputs over 64 samples. -/
def execHandover (n : Nat) (codes : List (List Nat)) (ins : List Nat) (s : State) : Host.Outcome State Fault Refusal :=
  .next (match s.shadowing n with
    | none => s
    | some k =>
      if n < 8 ∧ s.up ∧ s.on ADC.SCLK.OK = true ∧ s.rd (CAL.STATE.PASS n) = 2 ∧ (s.calCh n).waiting.isNone = true
          ∧ codes.length = 64 ∧ ins.length = 64 then
        let p := s.rd (ADC.SLICEk.POSITION n k)
        match s.handoverCheck (s.shadowDiffs n k p codes ins) with
        | 0 =>
          let s := (s.acceptSlice n k).modCal n (fun c => { c with waiting := some (k, p) })
          let s := s.stepsDue (s.lead n)
          if (s.calCh n).waiting.isSome then s.put (ADC.STATUS.SWAP_PENDING n) true else s
        | code => s.handoverCancel n k code
      else s)

/-! ### Background windows (R99 to R106) -/

/-- Sum over positions of n S2 - S1², and the number of positions: the mean variance is this over positions and n². -/
def ChCal.varSum (c : ChCal) (n count : Nat) : Int :=
  ((c.stats.take n).map (fun p => (count : Int) * p.s2 - p.s1 * p.s1)).sum

/-- The sums a position gained between two moments. -/
def PosStat.since (x y : PosStat) : PosStat := ⟨y.s1 - x.s1, y.s2 - x.s2, y.xm - x.xm, y.xp - x.xp⟩

/-- Sums of each sub-window, from those at the end of each (R100). -/
def ChCal.subSums (c : ChCal) : List (List PosStat) :=
  List.zipWith (fun a b => List.zipWith PosStat.since a b) (List.replicate 64 {} :: c.subs) c.subs

/-- Position means relative to the mean over the `np` positions, in LSB times the samples of all positions (R100). -/
def offsetsOf (np : Nat) (sums : List PosStat) : List Int :=
  let total : Int := ((sums.take np).map PosStat.s1).sum
  (sums.take np).map (fun x => np * x.s1 - total)

/-- n² times the variance of a position, from the sums of `n` samples. -/
def PosStat.spread (x : PosStat) (n : Nat) : Int := n * x.s2 - x.s1 * x.s1

/-- Position gains relative to their mean over the `np` positions, in 10^-7 / 256 / `np`, from the sums of `n` samples each (R100). -/
def gainsOf (np n : Nat) (sums : List PosStat) : List Int :=
  let w : List Int := (sums.take np).map (fun x => x.spread n)
  let g : List Int := w.map (fun v => if w.sum ≤ 0 then 0 else (isqrtAux 64 ((10 ^ 14 * 2 ^ 16 * np * v) / w.sum).toNat 0 : Nat))
  g.map (fun v => np * v - g.sum)

/-- The normalised cross-product of positions `p` and `p + 1` in 2^-30, from both of its sums over `n` samples: it approximates
R(T + δ) for the δ by which their gap exceeds T (R100). -/
def crossOf (np n : Nat) (sums : List PosStat) (p : Nat) : Int :=
  let a := sums.getD p {}
  let b := sums.getD ((p + 1) % np) {}
  divRound ((a.xp + b.xm) * n * 2 ^ 30) (2 * isqrtAux 128 (a.spread n * b.spread n).toNat 0 : Nat)

/-- The position skews, which sum to 0, times the slope of R at T and `np` squared: the gaps follow from the differences of the
cross-products to first order, the skews from the gaps (R100, notes/assumptions/26.md). -/
def skewsOf (np n : Nat) (sums : List PosStat) : List Int :=
  let r := (List.range np).map (crossOf np n sums)
  let gap := r.map (fun v => np * v - r.sum)
  let at_ : List Int := (List.range np).map (fun p => (gap.take p).sum)
  at_.map (fun v => np * v - at_.sum)

/-- Noise figure of an estimate: the standard deviation over the 16 sub-windows divided by 4, rounded up, in a unit of which the values
given are the `scale`-th part (R100). -/
def noiseFigure (us : List Int) (scale : Nat) : Nat :=
  let v := (16 * (us.map (fun u => u * u)).sum - us.sum * us.sum).toNat
  let r := isqrtAux 128 v 0
  ceilDiv (if r * r < v then r + 1 else r) (64 * scale)

/-- F in 0.1 dB is at least `-t`: the geometric mean of the bands over their arithmetic mean (R102). -/
def flatAtLeast (bands : List Nat) (t : Nat) : Bool :=
  bands.sum ^ 400 ≤ (bands.foldl (· * ·) (16 ^ 16)) ^ 25 * 10 ^ (4 * t)

/-- The smallest number of at most `f` bits above `r` for which F is at least its negative, by bisection. -/
def flatSearch (bands : List Nat) : Nat → Nat → Nat
  | 0, r => r
  | f + 1, r => flatSearch bands f (if flatAtLeast bands (r + 2 ^ f - 1) then r else r + 2 ^ f)

/-- F of a window in 0.1 dB, rounded down, no lower than its field holds (R102, R119; notes/assumptions/25.md). -/
def flatness (bands : List Nat) : Int := -(flatSearch bands 15 0 : Int)

/-- What a kind of estimate leads to at one position: too much noise discards it, a bound rejects it with a code, else it is
accepted. -/
inductive BgVerdict where
  | discard
  | reject (code : Nat)
  | accept
  deriving DecidableEq, Repr

/-- The verdict on one position's estimate `u` of a kind with its noise figure: 0 offset, 1 gain, 2 skew, 3 bandwidth (R106). -/
def State.bgJudge (s : State) (kind : Nat) (co : Coef) (u : BgUpd) (noise : Nat) : BgVerdict :=
  let new := u.apply co
  if kind = 0 then
    if s.lim 0x14 < noise then .discard
    else if new.off.any (fun o => s.lim 0x08 < o.natAbs) then .reject 1
    else if s.lim 0x10 < u.off.natAbs then .reject 2 else .accept
  else if kind = 1 then
    if s.lim 0x28 < noise then .discard
    else if new.gain.any (fun g => decide (g < s.lim 0x18) || decide (s.lim 0x1C < g)) then .reject 3
    else if s.lim 0x24 < u.gain.natAbs then .reject 4 else .accept
  else if kind = 2 then
    if s.lim 0x34 < noise then .discard
    else if s.lim 0x2C < new.trim.natAbs then .reject 9
    else if 10 * s.lim 0x30 < u.skew.natAbs then .reject 10 else .accept
  else
    let bound := (List.range 7).all (fun i => let v := new.eq.getD i 0
      if i = 3 then decide (s.lim 0x38 ≤ v) && decide (v ≤ s.lim 0x3C) else decide ((v.natAbs : Int) ≤ s.lim 0x40))
    if s.lim 0x48 < noise then .discard
    else if !bound then .reject 11
    else if u.eq.any (fun d => s.lim 0x44 < d.natAbs) then .reject 12 else .accept

/-- The accepted changes `old` of a position with those of one kind replaced by `u`'s, or by none where they stay below the apply
threshold (R104). -/
def State.bgKeep (s : State) (kind : Nat) (old u : BgUpd) : BgUpd :=
  if kind = 0 then { old with off := if s.lim 0x70 ≤ u.off.natAbs then u.off else 0 }
  else if kind = 1 then { old with gain := if s.lim 0x74 ≤ u.gain.natAbs then u.gain else 0 }
  else if kind = 2 then { old with skew := if s.lim 0x78 ≤ u.skew.natAbs then u.skew else 0 }
  else { old with eq := if u.eq.any (fun d => s.lim 0x7C ≤ d.natAbs) then u.eq else [] }

/-- The estimate `u` of one kind at merged position `q` of the input led by `n` judged and, where accepted, kept. -/
def State.bgOne (s : State) (n kind q : Nat) (u : BgUpd) (noise : Nat) : State :=
  let m := n + q % s.groupSize
  let p := q / s.groupSize
  let k := s.sliceAt m p
  match s.bgJudge kind ((s.calCh m).slices.getD k {}).coef u noise with
  | .discard => s
  | .reject code => s.rejectSlice m k code 1
  | .accept =>
    let s := s.modCal m (fun c =>
      let new := s.bgKeep kind (((c.bgNew.find? (fun x => x.1 = p)).map Prod.snd).getD {}) u
      let rest := c.bgNew.filter (fun x => x.1 != p)
      { c with bgAt := c.bgAt.set kind s.now, bgNew := if new = {} then rest else (p, new) :: rest })
    s.acceptSlice m k

/-- The estimates of a kind at every position of the input led by `n`, each with its noise figure, from the sums of the window and of
its sub-windows: `slope` is that of R at T, in 2^-30 per 0.01 ps, and `eq` what the estimator found for the equaliser at each position
over the window and over its sub-windows (R100; notes/assumptions/26.md). -/
def State.bgEstimates (s : State) (n kind : Nat) (slope : Int) (eq : List (List Int × List (List Int))) : List (BgUpd × Nat) :=
  let c := s.calCh n
  let np := s.posPerSc
  let all := c.stats
  let column := fun (l : List (List Int)) (q : Nat) => l.map (fun r => r.getD q 0)
  if kind = 0 then
    let noise := c.subSums.map (offsetsOf np)
    (List.zip (List.range np) (offsetsOf np all)).map (fun x =>
      ({ off := divRound (256 * x.2) bgWindow }, noiseFigure (column noise x.1) 4096))
  else if kind = 1 then
    let noise := c.subSums.map (gainsOf np (bgSub / np))
    (List.zip (List.range np) (gainsOf np (bgWindow / np) all)).map (fun x =>
      ({ gain := divRound x.2 (256 * np) }, noiseFigure (column noise x.1) (256 * np)))
  else if kind = 2 then
    let noise := c.subSums.map (skewsOf np (bgSub / np))
    let unit : Nat := np * np * slope.natAbs
    (List.zip (List.range np) (skewsOf np (bgWindow / np) all)).map (fun x =>
      ({ skew := divRound (slope.sign * x.2) unit }, noiseFigure (column noise x.1) unit))
  else eq.map (fun e => ({ eq := e.1 }, ((List.range 7).map (fun i => noiseFigure (column e.2 i) 1)).foldl max 0))

/-- The estimator's decision on a commensurate tone, from the tones it sees, each as its offset Δ in fs / 2^24 and its power relative
to v̄ in 0.1 dB: between the limits of R103 it is a free value. -/
def State.toneDecide (s : State) (tones : List (Nat × Int)) : Bool × State :=
  let level := s.lim 0x6C
  if tones.any (fun t => decide (t.1 ≤ 16) && decide (level ≤ t.2)) then (true, s)
  else if tones.all (fun t => decide (level - 200 ≤ t.2 → 64 < t.1)) then (false, s)
  else let (v, s) := s.free 36 1; (v == 1, s)

/-- The statistics of a full window reach the reserved cell of channel `n`: each inbox binding of its firmware gets a buffer of words whose
layout the spec does not give, and so free ones (R344; notes/assumptions/108.md). A binding with no free buffer is passed by. -/
def State.gatherFill (s : State) (n : Nat) : State :=
  let c := 24 * n + 23
  if s.cellState c != cellReserved then s
  else (s.cell c).binds.foldl (fun s b =>
    if b.kind = 4 then s
    else match b.freeBuf with
      | none => s.modBind c b.port (fun b => { b with skipped := b.skipped + 1 })
      | some i =>
        let k := b.words - 48
        let (v, s) := s.free 25 (24 * k)
        s.fillBuf c b.port i (bufferHead [] 0 k b.skipped false true false) ((List.range k).map (fun j => v / 2 ^ (24 * j) % 2 ^ 24)) []) s

/-- BG_WINDOW_COMPLETE (R99 to R106): a window of 2^24 samples is full. Offsets, gains, skews, their noise and the flatness follow from
what was gathered; `slope`, `eq` and `tones` are what the estimator brings beside it: the slope of the input's correlation at the sample
period, the equaliser's taps and the tones near multiples of SCLK/16 (notes/assumptions/26.md, 31.md). -/
def execBgWindowComplete (n : Nat) (slope : Int) (eq : List (List Int × List (List Int))) (tones : List (Nat × Int)) (s : State) : Host.Outcome State Fault Refusal :=
  .next (
    let c := s.calCh n
    let np := s.posPerSc
    if s.up ∧ s.isLead n = true ∧ c.statN = bgWindow ∧ slope ≠ 0 ∧ eq.length = np then
      let (tone, s) := s.toneDecide tones
      let cnt := bgWindow / np
      let flat := flatness c.bands
      let v := (c.varSum np cnt) / ((np : Int) * cnt * cnt)
      let varOk := decide (s.lim 0x64 * ((np : Int) * cnt * cnt) ≤ c.varSum np cnt)
      let flatOk := decide (s.lim 0x68 ≤ flat)
      let ok := fun (kind : Nat) => !tone && (kind == 0 || varOk && (kind == 1 || flatOk))
      let found := [0, 1, 2, 3].map (fun kind => s.bgEstimates n kind slope eq)
      let s := (s.wr (CAL.SUFF_VAR.VAR n) (min v.toNat (2 ^ 32 - 1))).wr (CAL.SUFF.FLAT n) (ofSigned 16 flat)
      let s := ((((s.put (CAL.SUFF.TONE n) tone).put (CAL.SUFF.OFFSET_OK n) (ok 0)).put (CAL.SUFF.GAIN_OK n) (ok 1)).put
        (CAL.SUFF.SKEW_OK n) (ok 2)).put (CAL.SUFF.BW_OK n) (ok 3)
      let s := (s.gatherEnd n).gatherFill n
      let s := [0, 1, 2, 3].foldl (fun s kind =>
        if ok kind then (List.zip (List.range np) (found.getD kind [])).foldl
          (fun s qe => if s.up then s.bgOne n kind qe.1 qe.2.1 qe.2.2 else s) s else s) s
      if s.up then ((s.members n).foldl (fun s m => s.overdueClear m) s).stepsDue n else s
    else s)

/-! ### Range checks (R106, R111, R113) -/

/-- The factor lies within 0.98 to 1.02. -/
def rangeFactorOk (f : Nat) : Bool := 16441672 ≤ f && f ≤ 17112760

/-- A range check requested on the group led by `n`: it begins with a reference check on the last sense reading (R89, R113). A request
while a run of the channel is in progress begins the run anew, with its count at 0 (DESIGN CHOICE, notes/assumptions/24.md). -/
def State.rangeRequest (s : State) (n : Nat) : State :=
  let s := (s.modCal n (fun c => { c with rangeRun := some (0, 0) })).showSense n
  if s.on CAL.REF.OK then s else (s.modCal n (fun c => { c with deferredAt := s.now })).deferCount

/-- A rejected range check of channel `n`, `k` rejections before it in the run (R113). -/
def State.rangeReject (s : State) (n r k : Nat) : State :=
  let s := s.rejectCount n 31 13
  let s := s.modCal n (fun c => { c with rangeRun := some (r, k + 1) })
  if 3 ≤ k + 1 then s.halt 0x0303 (n + 16 * 31 + 4096 * 13) r else s

/-- A range check of channel `n` within a start-up or mode calibration: the first of the run follows a reference check (R89, R111). -/
def State.rangeStart (s : State) (n r factor : Nat) : State :=
  let t := s.showSense n
  if r = 0 ∧ t.on CAL.REF.OK = false then t.startDefer
  else
    let s := if r = 0 then t else s
    let k := match (s.calCh n).rangeRun with | some (_, k) => k | none => 0
    if rangeFactorOk factor then
      s.modCal n (fun c => { c with factors := c.factors.set r factor, rangesDone := r + 1, rangeRun := some (r + 1, k) })
    else s.rangeReject n r k

/-- A range check of a run that was requested on channel `n`, `k` rejections before it in the run (R113). -/
def State.rangeRunOn (s : State) (n r k factor : Nat) : State :=
  if rangeFactorOk factor then
    s.modCal n (fun c => { c with factors := c.factors.set r factor, rangeRun := if r = 3 then none else some (r + 1, k) })
  else s.rangeReject n r k

/-- RANGE_CHECK_COMPLETE (R111, R113). -/
def execRangeCheckComplete (n r factor : Nat) (s : State) : Host.Outcome State Fault Refusal :=
  .next (
    let c := s.calCh n
    if n < 8 ∧ r < 4 ∧ s.on ADC.SCLK.OK = true ∧ s.live then
      if s.rd (CAL.STATE.PASS n) = 4 then
        if s.cal.startBegun = true ∧ c.rangesDone = r ∧ (List.range 8).all (fun m => (s.calCh m).slices.all Slice.calDone) = true then
          s.rangeStart n r factor
        else s
      else match c.rangeRun with
        | none => s
        | some (r', k) =>
          if r' = r ∧ s.up ∧ s.on CAL.REF.OK = true ∧ s.chState n = chStopped then s.rangeRunOn n r k factor else s
    else s)

/-! ### Modes (R48, R51, R52, R97, R112) -/

/-- The calibration state of channel `m` kept for the mode being left. -/
def State.modeSave (s : State) (m mode : Nat) : State :=
  let roles := (List.range 17).map (fun k => (s.rd (ADC.SLICEk.ROLE m k), s.rd (ADC.SLICEk.POSITION m k)))
  let tb := s.rd (CAL.LAST_TB_LO.TICKS m) + s.rd (CAL.LAST_TB_HI.TICKS m) * 2 ^ 32
  let temp := s.rd (CAL.TEMP.LAST m)
  let epoch := s.rd (CAL.EPOCH.EPOCH m)
  let count := s.rd (CAL.COUNT.COUNT m)
  let kept := fun (c : ChCal) => (⟨c.accepted, c.slices.map Slice.coef, roles, c.factors, tb, c.endNow, temp, epoch, count⟩ : ModeCal)
  s.modCal m (fun c => { c with modes := c.modes.set mode (kept c) })

/-- Roles of a saved mode with a pass broken off: what is neither in service nor spare is the slice the pass had out. -/
def settledRoles (roles : List (Nat × Nat)) : List (Nat × Nat) :=
  let spare := roles.any (fun r => r.1 = 1)
  roles.map (fun r => if r.1 = 0 then r else if r.1 = 1 then (1, 31) else if spare then r else (1, 31))

/-- The calibration state of channel `m` restored for a mode, as one step (R52, R82, R83, R112): its epoch number and pass count are those
of the mode, also where the channel was a member in between (DEDUCED, notes/assumptions/28.md). -/
def State.modeRestore (s : State) (m mode : Nat) : State :=
  let x := (s.calCh m).modes.getD mode {}
  let x := if x.accepted then x else { x with roles := ({} : ModeCal).roles, coefs := ({} : ModeCal).coefs }
  let roles := settledRoles x.roles
  let s := (List.zip (List.range 17) roles).foldl (fun s kr => s.setRole m kr.1 kr.2.1 kr.2.2 0) s
  let s := s.wr (ADC.STATUS.SPARE m) (((List.range 17).find? (fun k => (roles.getD k (0, 0)).1 = 1)).getD 16)
  let s := (List.range 17).foldl (fun s k => s.wr (ADC.SLICEk.TRIM m k) (ofSigned 10 (x.coefs.getD k {}).trim)) s
  let s := s.modCal m (fun c => { c with
    accepted := x.accepted, factors := x.factors, waiting := none, bgNew := [], statN := 0, nextPos := 0, leaving := none, prev := none, past := none
    slices := (List.range 17).map (fun k => { (c.slices.getD k {}) with coef := x.coefs.getD k {} }) })
  let s := if x.accepted then
      let s := ((s.wr (CAL.LAST_TB_LO.TICKS m) (x.lastTb % 2 ^ 32)).wr (CAL.LAST_TB_HI.TICKS m) (x.lastTb / 2 ^ 32)).wr (CAL.TEMP.LAST m) x.temp
      s.modCal m (fun c => { c with endNow := x.lastNow }) else s
  let s := (s.wr (CAL.EPOCH.EPOCH m) x.epoch).wr (CAL.COUNT.COUNT m) x.count
  (s.put (ADC.STATUS.SWAP_PENDING m) false).epochStep m

/-- The mode in force as the channels' registers show it (R48, R51, R79). -/
def State.showMode (s : State) : State :=
  (List.range 8).foldl (fun s m =>
    ((s.put (ADC.STATUS.LEAD m) (s.isLead m)).put (ADC.STATUS.MEMBER m) (!s.isLead m)).wr (ADC.STATUS.LEAD_CHANNEL m) (s.lead m)) s

/-- A channel's restored state asks for a calibration (R112). -/
def State.modeStale (s : State) (m : Nat) : Bool :=
  let c := s.calCh m
  !c.accepted || decide (ticksOfS (s.rd CAL.OVERDUE.SECONDS) < s.now - c.endNow) ||
    decide (s.rd CAL.DELTA_T.VALUE * 128 < (s.rdS (CAL.TEMP.NOW m) - s.rdS (CAL.TEMP.LAST m)).natAbs * 100)

/-- Trims and equaliser taps of every slice from the newest record of the mode in force (R111). -/
def State.loadCoefs (s : State) : State :=
  let mode := s.rd ADC.MODE.ACTIVE
  (List.range 8).foldl (fun s m => match s.led.calRing.find? (fun (r : List Nat) => r.getD 3 0 = m && r.getD 0x18 0 = mode) with
    | some r =>
      let s := s.modCal m (fun c => { c with slices := (List.range 17).map (fun k =>
        let x := c.slices.getD k {}
        let o := 0x80 + 108 * k
        { x with coef := { x.coef with
            trim := toSigned 16 (le r (o + 12) 2)
            eq := (List.range 7).map (fun i => toSigned 32 (le r (o + 80 + 4 * i) 4)) } }) })
      (List.range 17).foldl (fun s k => s.wr (ADC.SLICEk.TRIM m k) (ofSigned 10 (((s.calCh m).slices.getD k {}).coef.trim))) s
    | none => s) s

/-- A threshold readback has a slice out: what needs the spare waits for its end (R43). -/
def State.rbRuns (s : State) : Bool := s.mon.rb.any (fun r => r.channel.isSome)

/-- MODE_CHANGE (R43, R48, R52, R97, R112, R204): the device is IDLE, no pass runs, and no readback has a slice out (DEDUCED,
notes/assumptions/27.md). -/
def execModeChange (s : State) : Host.Outcome State Fault Refusal :=
  .next (match s.cal.modeNext with
    | none => s
    | some mode =>
      if s.dev = devIdle ∧ s.cal.modeCal = false ∧ s.rbRuns = false ∧ (List.range 8).all (fun m => s.rd (CAL.STATE.PASS m) != 2) = true then
        let old := s.rd ADC.MODE.ACTIVE
        let s := { s with cal := { s.cal with modeNext := none } }
        if mode = old then s.tryStart
        else
          let s : State := (List.range 8).foldl (fun s m => (s.modeSave m old).detectAnew m) s
          let s : State := (s.wr ADC.MODE.ACTIVE mode).showMode
          let s : State := (List.range 8).foldl (fun s m => s.modeRestore m mode) s
          -- a deferred pass begins anew in the new mode
          let s : State := (List.range 8).foldl (fun s m =>
            if s.rd (CAL.STATE.PASS m) = 3 then (s.wr (CAL.STATE.PASS m) 1).wr (CAL.STATE.SLICE m) 31 else s) s
          let s := if s.rd TRG.CURVE_STATUS.STATUS = 1 then s.learnStop false else s
          let s := (List.range 8).foldl (fun s m => s.filRefresh m) s
          if (List.range 8).any s.modeStale then
            let s := if s.prf.resumeAt.isSome then s.wr PRF.STATUS.STATE 3 else s
            ({ s.loadCoefs with cal := { s.loadCoefs.cal with modeCal := true } }).calBegin 5
          else s.tryStart
      else s)

/-- MODE_CAL_COMPLETE (R112, R591): held starts act. -/
def execModeCalComplete (s : State) : Host.Outcome State Fault Refusal :=
  .next (if s.cal.modeCal && s.calAllDone && s.up then s.calFinish.tryStart else s)

/-! ### Register rules of the converter and calibration blocks -/

/-- Ranges of the fields (R81, R117); a commit of the certified value judges its three registers. -/
def ADC.valueBad (s : State) (n : Fld → Nat) (f : Fld) : Bool :=
  (f = ADC.MODE.MODE && n f = 3) ||
  (f = CAL.DELTA_T.VALUE && (n f < 5 || 500 < n f)) ||
  (f = CAL.OVERDUE.SECONDS && (n f < 10 || 86400 < n f)) ||
  (f = CAL.CERT_VALUE.NV && (n f < 100000000 || 450000000 < n f)) ||
  (f = CAL.CERT_CTL.COMMIT && (s.rd CAL.CERT_VALUE.NV < 100000000))

/-- State tests: the mode outside IDLE, a range check of a channel that captures (R48, R113). -/
def ADC.stateBad (s : State) (n : Fld → Nat) (f : Fld) : Bool :=
  (f = ADC.MODE.MODE && s.dev != devIdle) ||
  (f = CAL.CTL.RANGE_CHECK && (List.range 8).any (fun c => (n f).testBit c && s.chState c != chStopped))

/-- What a write does beyond storing (R71, R87, R92, R97, R113). -/
def ADC.onWrite (a : Att) (f : Fld) (v : Nat) (s : State) : State :=
  if f = ADC.MODE.MODE then { s with cal := { s.cal with modeNext := some v } }
  else if f = CAL.CTL.PASS_REQ then (List.range 8).foldl (fun s m => if v.testBit m then s.passDue m 3 else s) s
  else if f = CAL.CTL.RANGE_CHECK then
    (s.leads.filter (fun n => (s.members n).any (fun m => v.testBit m))).foldl (fun s n => s.rangeRequest n) s
  else if f = CAL.OVERDUE.SECONDS then (List.range 8).foldl (fun s m => s.overdueClear m) s
  else if f = CAL.CERT_CTL.COMMIT then
    (if v = 1 then (s.certCommit (s.rd CAL.CERT_VALUE.NV) (s.rd CAL.CERT_UNC.NV) (s.rd CAL.CERT_META.K) (s.rd CAL.CERT_META.CERT_ID)
      (s.role a).code (attNum a) (s.hostOf a)).wr CAL.CERT_CTL.COMMIT 0 else s)
  else match (List.range 8).find? (fun c => f = ADC.CTL.COMMIT c) with
    | some c => if v = 1 then s.adcCommit c else s
    | none => s

end Sys2Proof.Machine
end

