-- ==== Sys2Proof/Machine/Tdc.lean ====
section
/-! DEFINITION. The time-interval unit (05_time_interval.md): edges latched, converted, judged against windows, queued, spilled,
lost; curve tests; vernier loops; stamps in DARK. Sequencers take their events here, because a stamp that lags is presented on
time (R189). -/

namespace Sys2Proof.Machine

/-- The curve in force of input `i`: its last passed, or its seed (R168). -/
def State.tdcCurve (s : State) (i : Nat) : List Nat := ((s.tin i).curve).getD (s.seed 4 i)

/-- Both units locked, and whether the input stamps by multi-phase only, as its status shows (R164, R165). -/
def State.showMethod (s : State) (i : Nat) : State :=
  let x := s.tin i
  let ok := x.units.all Vernier.locked
  (s.put (TDC.INi_STATUS.VERNIER_OK i) ok).put (TDC.INi_STATUS.METHOD i)
    (!ok || !x.passed || s.on (TDC.INi_STATUS.TESTING i))

/-! ### From code to time (R158, R159, R165) -/

/-- Tick and fraction of raw fine code `u` under a curve (R158). -/
def curveTime (curve : List Nat) (tick u : Nat) : Nat :=
  let frac : Nat :=
    if u % 2 = 0 then curve.getD (u / 2) 0
    else
      let upper := if u < 511 then curve.getD ((u + 1) / 2) 0 else 65536
      (divHalfEven ((curve.getD ((u - 1) / 2) 0 + upper : Nat) : Int) 2).toNat
  tick * 65536 + frac

/-- The flags of a stamp's moment and polarity (R170). -/
def State.stampFlags (s : State) (falling : Bool) : Nat := b2n falling + 4 * b2n s.tbCoast + 8 * b2n (!s.warm)

/-! ### Queues (R171 to R173) -/

/-- Entries on die of input `i` shown. -/
def State.showQueue (s : State) (i : Nat) : State :=
  let s := s.wr (TDC.INi_STATUS.ON_DIE i) ((s.tin i).head + (s.tin i).tail)
  s.wr TDC.SPILL.ENTRIES (min (2 ^ 25 - 1) ((s.tdc.ins.map TdcIn.spill).sum))

/-- Each page of the spill region whose entries are drained goes back to the pool (R172). -/
def State.trimSpill (s : State) : State :=
  let used := fun (p : Nat) => s.tdc.ins.any (fun x => x.runs.any (fun r => r.1 == p))
  let keep := s.cap.spill.filter used
  if keep.length < s.cap.spill.length then
    { s with cap := { s.cap with spill := keep }
             tdc := { s.tdc with spillFill := if keep.getLast? = s.cap.spill.getLast? then s.tdc.spillFill else 4096 } }.poolCheck
  else s

/-- The oldest `n` entries of a spill chain taken out of it. -/
def dropRuns : Nat → List (Nat × Nat) → List (Nat × Nat)
  | _, [] => []
  | n, (p, k) :: rs => if n < k then (p, k - n) :: rs else dropRuns (n - k) rs

/-- The head refilled from the spill chain, then from the tail. -/
def TdcIn.refill (x : TdcIn) : TdcIn :=
  let a := min x.spill (4096 - x.head)
  let b := if x.spill - a = 0 then min x.tail (4096 - x.head - a) else 0
  { x with head := x.head + a + b, spill := x.spill - a, tail := x.tail - b, runs := dropRuns a x.runs }

/-- Bindings of executing cells that take the stamps of input `i` (R329). -/
def State.stampBinds (s : State) (i : Nat) : List (Nat × Nat) :=
  ((List.range 192).map (fun c =>
    if s.cellExecutes c then ((s.cell c).binds.filter (fun b => b.kind = 3 && b.source = i)).map (fun b => (c, b.port)) else [])).flatten

/-- Bindings of halted cells that the stamps of input `i` pass by (R342). -/
def State.stampMissed (s : State) (i : Nat) : List (Nat × Nat) :=
  ((List.range 192).map (fun c =>
    if s.cellState c == cellHalted then ((s.cell c).binds.filter (fun b => b.kind = 3 && b.source = i)).map (fun b => (c, b.port)) else [])).flatten

/-- The STAMPS streams of input `i` (R396). -/
def State.stampStreams (s : State) (i : Nat) : List (Nat × Strm) :=
  (s.streamsOf kStamps).filter (fun pt => pt.2.param.getD 0 0 = i)

/-- A record handed to one STAMPS stream: a loss record becomes a SKIP over its sequences (R173, R397). -/
def State.stampToStream (s : State) (p id : Nat) (t : Stamp) : State :=
  if t.flags.testBit 7 then
    s.modStrm p id (fun x => { x with queue := addSkip x.queue skipLoss t.first t.seq 0 })
  else (s.offer p id ⟨5, t.seq, .bytes t.bytes, 16⟩ t.seq t.seq 0).1

/-- A record that enters the queue of input `i`: every subscribed consumer takes it at once; with none it stays (R173). -/
def State.enqueueStamp (s : State) (i : Nat) (t : Stamp) : State :=
  let ports := s.stampStreams i
  let cells := s.stampBinds i
  if ports.isEmpty && cells.isEmpty then
    let s := s.modIn i (fun x =>
      if x.head < 4096 && x.spill == 0 && x.tail == 0 then { x with q := x.q ++ [t], head := x.head + 1 }
      else { x with q := x.q ++ [t], tail := x.tail + 1 })
    s.showQueue i
  else
    let s := ports.foldl (fun s pt => s.stampToStream pt.1 pt.2.id t) s
    let s := (s.stampMissed i).foldl (fun s cp => s.modBind cp.1 cp.2 (fun b => b.missStamp t)) s
    cells.foldl (fun s cp => s.modBind cp.1 cp.2 (fun b => b.takeStamp t s.ticks)) s

/-- The tail of input `i` is full. -/
def State.tailFull (s : State) (i : Nat) : Bool := 4096 ≤ (s.tin i).tail

/-- A run of losses becomes its loss record once a tail entry is free (R173). Its other flags are 0, and an OVERRUN_BEFORE owed to a
record that is itself lost goes with it (DESIGN CHOICE, notes/assumptions/99.md). -/
def State.flushLoss (s : State) (i : Nat) : State := match (s.tin i).loss with
  | none => s
  | some (t, fst, lst) =>
    if s.tailFull i then s
    else (s.modIn i (fun x => { x with loss := none })).enqueueStamp i
      { tick := t / 65536, frac := t % 65536, input := i, flags := 128, seq := lst, first := fst }

/-- A record of input `i` at time `t` takes its sequence and enters the queue, or is lost with the tail full; it carries
OVERRUN_BEFORE also for a record before it that was discarded (R170, R171, R173). -/
def State.queueStamp (s : State) (i t flags : Nat) : State :=
  let x := s.tin i
  let s := s.modIn i (fun x => { x with seq := (x.seq + 1) % 2 ^ 32, carry := false })
  let fl := if x.carry then flags ||| 64 else flags
  let s := s.flushLoss i
  if s.tailFull i then
    let s := s.modIn i (fun y => { y with loss := match y.loss with
      | some (a, b, _) => some (a, b, x.seq)
      | none => some (t, x.seq, x.seq) })
    (s.count TDC.LOSS.COUNT TDC.LOSS.SAT 1).put (TDC.INi_STATUS.LOSS i) true
  else s.enqueueStamp i { tick := t / 65536, frac := t % 65536, input := i, flags := fl, seq := x.seq }

/-- The backlog of input `i` given to a consumer that subscribes (R173). -/
def State.takeBacklog (s : State) (i : Nat) (give : State → Stamp → State) : State :=
  let q := (s.tin i).q
  -- the entries of the spill chain are read back in Q1 (R172, R240)
  let s := s.request 2 (ceilDiv (s.tin i).spill 64) (s.cap.spill.headD 0 * 65536) true
  let s := q.foldl give s
  let s := s.modIn i (fun x => { x with q := [], head := 0, spill := 0, tail := 0, runs := [] })
  ((s.trimSpill).flushLoss i).showQueue i

/-! ### Stop windows (R174, R175) -/

/-- The unit of which input `i` is the stop, if one is enabled. -/
def State.stopUnit (s : State) (i : Nat) : Option MeasUnit :=
  ((List.range 16).find? (fun m => s.on (TDC.MEASm_CTL.EN m) && s.rd (TDC.MEASm_CTL.STOP m) == i)).map (fun m =>
    ⟨m, s.rd (TDC.MEASm_CTL.START m), s.rd (TDC.MEASm_OPEN.TICKS m), s.rd (TDC.MEASm_CLOSE.TICKS m)⟩)

/-- Stamps kept of an input for the judgement of stops: at 16 in a burst and one in 10 ticks they reach back over the 1,024 ticks that
two delays can lie apart and the time to the judgement (R159, R161, R174). -/
def latestKept : Nat := 256

/-- The latest of the times that lies strictly earlier than `t`. -/
def latestBefore (l : List (Nat × Bool)) (t : Nat) : Option Nat :=
  l.foldl (fun (acc : Option Nat) x => if x.1 < t then some (match acc with
    | some y => max x.1 y
    | none => x.1) else acc) none

/-- The stop at `t` is accepted by unit `u`: OPEN ≤ d < CLOSE from the latest start strictly earlier (R174, R175). -/
def State.stopAccepted (s : State) (u : MeasUnit) (t : Nat) : Bool := match latestBefore (s.tin u.start).latest t with
  | none => false
  | some b => u.opens * 65536 ≤ t - b && t - b < u.closes * 65536

/-- A stamp of input `i` at `t` is judged by the unit of which it is a stop, if any: counted, and queued, queued with WINDOW_REJECT, or
discarded (R174). -/
def State.judgeStop (s : State) (i t flags : Nat) (unit : Option MeasUnit) : State := match unit with
  | none => s.queueStamp i t flags
  | some u =>
    if s.stopAccepted u t then
      (s.count (TDC.MEASm_COUNT.ACCEPT u.unit) (TDC.MEASm_COUNT.ASAT u.unit) 1).queueStamp i t flags
    else
      let s := s.count (TDC.MEASm_COUNT.REJECT u.unit) (TDC.MEASm_COUNT.RSAT u.unit) 1
      if s.on (TDC.INi_CTL.KEEP_REJECTED i) then s.queueStamp i t (flags ||| 32)
      else s.modIn i (fun x => { x with carry := x.carry || flags.testBit 6 })

/-- The stops given, in their order, are judged. -/
def State.judgeStops (s : State) (l : List StopWait) : State :=
  l.foldl (fun s x => s.judgeStop x.input x.time x.flags x.unit) s

/-- A stop may be judged: its edge lies 100 ticks back, and no start edge of its unit as early still waits for its stamp (R174;
notes/assumptions/100.md). -/
def State.stopDue (s : State) (x : StopWait) : Bool :=
  decide (x.edge + 100 ≤ s.now) && (match x.unit with
    | none => true
    | some u => (s.tin u.start).cells.all (fun r => decide (x.edge < r.edge)))

/-- Stops whose judgement is due are judged, in order within an input (R174). -/
def State.settleStops (s : State) : State :=
  let held := fun (x : StopWait) => s.tdc.stops.any (fun y => y.input == x.input && decide (y.edge ≤ x.edge) && !s.stopDue y)
  if s.tdc.stops.isEmpty then s
  else { s with tdc := { s.tdc with stops := s.tdc.stops.filter held } }.judgeStops (s.tdc.stops.filter (fun x => !held x))

/-- A stamp of input `i` at `t` whose edge came at elapsed time `edge`: queued, or kept for its judgement where the edge was a unit's
stop, or follows one that waits (R174). -/
def State.recordStamp (s : State) (i t flags edge : Nat) (unit : Option MeasUnit) : State :=
  if unit.isSome || s.tdc.stops.any (fun x => x.input == i) then
    { s with tdc := { s.tdc with stops := s.tdc.stops ++ [(⟨i, t, flags, edge, unit⟩ : StopWait)] } }.settleStops
  else s.queueStamp i t flags

/-! ### Edges (R156, R161, R163) -/

/-- The edge selection of input `i` takes an edge of this polarity. -/
def State.edgeSelected (s : State) (i : Nat) (falling : Bool) : Bool :=
  (s.rd (TDC.INi_CTL.EDGE i)).testBit (b2n falling)

/-- An edge that is not stamped: an overrun (R163). -/
def State.overrun (s : State) (i : Nat) : State :=
  ((s.count TDC.OVERRUN.COUNT TDC.OVERRUN.SAT 1).put (TDC.INi_STATUS.OVERRUN i) true).modIn i (fun x => { x with overrun := true })

/-- Stamps are taken: TB runs, outside DARK and HALTED, from PLL0's first lock on (R136, R165, R168). -/
def State.stamping (s : State) : Bool := s.clk.tbRuns && s.live && s.dev != devDark

/-- An edge reaches input `i` at the present tick and phase: latched in a free residue cell, or an overrun. Edges 2.5 ns apart are 100
phases; cells drain at one per 10 ticks (R161, notes/assumptions/39.md). -/
def State.stampEdge (s : State) (i : Nat) (falling : Bool) (phase : Nat) : State :=
  if s.stamping && i < 64 && phase < 32 && s.edgeSelected i falling then
    let x := s.tin i
    let now := s.now * 32 + phase
    let far := match x.lastEdge with
      | some e => e + 100 ≤ now
      | none => true
    if far && decide (x.cells.length < 16) then
      let due := max s.now x.drain + 10
      s.modIn i (fun x => { x with
        cells := x.cells ++ [{ tick := s.ticks, phase := phase, falling := falling, edge := s.now, due := due, unit := s.stopUnit i
                               flags := s.stampFlags falling + 64 * b2n x.overrun }]
        lastEdge := some now, drain := due, overrun := false })
    else s.overrun i
  else s

/-- The level at a TRGIN ball follows its edges, whatever is stamped (R207). -/
def State.trginEdge (s : State) (i : Nat) (falling : Bool) : State :=
  if 32 ≤ i ∧ i < 40 then
    let v := s.trg.trgin
    { s with trg := { s.trg with trgin := if falling then (if v.testBit (i - 32) then v - 2 ^ (i - 32) else v) else v ||| 2 ^ (i - 32) } }
  else s

/-- STAMP_EDGE (R161 to R163) on an event or trigger input. -/
def execStampEdge (i : Nat) (falling : Bool) (phase : Nat) (s : State) : Host.Outcome State Fault Refusal :=
  .next (if i < 40 then (s.trginEdge i falling).stampEdge i falling phase else s)

/-- The oldest cell of input `i` may be converted: the leaky bucket lets it drain. -/
def State.cellDue (s : State) (i : Nat) : Bool := match (s.tin i).cells with
  | [] => false
  | r :: _ => decide (r.due ≤ s.now)

/-- The merge takes a record of input `i` now: 1 G records/s, one each in turn among the inputs that have one, the marker's included
(R162). -/
def State.mergeTurn (s : State) (i : Nat) : Bool :=
  let place := fun (j : Nat) => (j + 64 - s.tdc.mergeLast) % 65
  let has := fun (j : Nat) => if j = 64 then !s.tdc.marks.isEmpty else s.cellDue j
  decide (s.tdc.mergeAt < 4 * s.now + 4) && !(List.range 65).any (fun j => has j && decide (place j < place i))

/-- The merge has taken a record of input `i`: the next may follow 1.25 ticks later (R162). -/
def State.mergeTake (s : State) (i : Nat) : State :=
  { s with tdc := { s.tdc with mergeAt := max s.tdc.mergeAt (4 * s.now) + 5, mergeLast := i } }

/-- The marker's oldest record enters its queue where the merge's turn is at it (R162). -/
def State.mergeMark (s : State) : State := match s.tdc.marks with
  | [] => s
  | (t, flags) :: rest =>
    if s.mergeTurn 64 then (({ s with tdc := { s.tdc with marks := rest } }).mergeTake 64).queueStamp 64 t flags else s

/-- One TB tick goes by on an empty queue: the clock's own passage, a marker record's turn, the unit stops whose judgement it brings, the
pulses of commits that begin with it, and the channels that reach STOPPED (R162, R174, R208, R239). -/
def State.elapse (s : State) : State := s.tick.mergeMark.settleStops.commitPulses.stopsDue

/-- The cell `r` of input `i` becomes a stamp of raw time `raw`, by multi-phase only or by vernier (R158, R159, R165, R189). -/
def State.stampCell (s : State) (i : Nat) (r : Residue) (raw : Nat) (method : Bool) : State :=
  let t := s.lessDelay i raw
  let s := s.modIn i (fun x => { x with latest := ((t, !r.falling) :: x.latest).take latestKept })
  let s := if r.sent then s else if s.lags r then s.stampEvent i (s.lessDelay i r.coarse) true else s.stampEvent i t false
  (s.recordStamp i t (r.flags + 2 * b2n method) r.edge r.unit).settleStops

/-- VERNIER_CONVERSION (R158 to R165, R174): the oldest cell of input `i` is converted with vernier code `v`. -/
def execVernierConversion (i v : Nat) (s : State) : Host.Outcome State Fault Refusal :=
  .next (
    let s := s.mergeMark
    match (s.tin i).cells with
    | [] => s
    | r :: rest =>
      if s.stamping ∧ i < 64 ∧ v < 16 ∧ r.due ≤ s.now ∧ s.mergeTurn i = true then
        let s := (s.modIn i (fun x => { x with cells := rest })).mergeTake i
        let method := s.on (TDC.INi_STATUS.METHOD i)
        s.stampCell i r (if method then r.coarse else curveTime (s.tdcCurve i) r.tick (16 * r.phase + v)) method
      else s)

/-- MARKER (R145, R147, R158, R159, R162, R165): the marker's edge at tick `raw / 512` with raw fine code `raw % 512` is stamped by the
input's method, enters the fit, and its record goes to the merge. While `ADC.SCLK.OK` is 0 the divider's output is counted and not
stamped. -/
def execMarker (raw : Nat) (s : State) : Host.Outcome State Fault Refusal :=
  .next (
    if s.live && s.dev != devDark then
      if s.on ADC.SCLK.OK then
        let method := s.on (TDC.INi_STATUS.METHOD 64)
        let t := s.lessDelay 64 (if method then coarseTime (raw / 512) (raw % 512 / 16) else curveTime (s.tdcCurve 64) (raw / 512) (raw % 512))
        let s := (s.markerFit t).markIncoherent
        { s with tdc := { s.tdc with marks := s.tdc.marks ++ [(t, s.stampFlags false + 2 * b2n method)] } }.mergeMark
      else s.modClk (fun c => { c with markerN := c.markerN + 1 })
    else s)

/-- SEQUENCER_EVENT (R189, R192, R194): 48 ticks after its trigger time sequencer `n` takes its front event. Frames of earlier anchors
take their numbers before it (R233). -/
def execSequencerEvent (n : Nat) (s : State) : Host.Outcome State Fault Refusal :=
  .next (
    if n < 8 ∧ s.up ∧ s.isLead n = true then
      let s := s.presentDue
      if s.seqDue n then (s.numberDue.seqTake n).settleRoll else s
    else s)

/-! ### Spill (R172) -/

/-- Room for 64 entries in the newest page of the spill region, or in a page that it takes. -/
def State.spillRoom (s : State) : Option State :=
  if !s.cap.spill.isEmpty && s.tdc.spillFill + 64 ≤ 4096 then some s
  else if s.rd TDC.SPILL_LIMIT.PAGES ≤ s.cap.spill.length then none
  else match s.nextPage with
    | none => none
    | some p => some (({ s with cap := { s.cap with spill := s.cap.spill ++ [p] }, tdc := { s.tdc with spillFill := 0 } }.tookPage p).poolCheck)

/-- The spill region cannot grow (R173, R180). -/
def State.spillFull (s : State) : Bool := s.spillRoom.isNone

/-- SPILL_MOVE (R172, R173): the oldest 64 entries of a full tail move to the spill chain. -/
def execSpillMove (i : Nat) (s : State) : Host.Outcome State Fault Refusal :=
  .next (
    if i < 65 ∧ s.stamping ∧ s.boot.poolSet ∧ s.tailFull i = true then
      match s.spillRoom with
      | none => s
      | some s =>
        let p := s.cap.spill.getLastD 0
        let s := s.modIn i (fun x => ({ x with tail := x.tail - 64, spill := x.spill + 64, runs := x.runs ++ [(p, 64)] } : TdcIn).refill)
        let s := { s with tdc := { s.tdc with spillFill := s.tdc.spillFill + 64 } }
        (((s.request 2 1 (p * 65536)).trimSpill).flushLoss i).showQueue i
    else s)

/-! ### Curve tests (R167, R168) -/

/-- A test of the inputs given begins; their stamps carry METHOD. -/
def State.curveTests (s : State) (is_ : List Nat) : State :=
  let s := is_.foldl (fun s i => (s.put (TDC.INi_STATUS.TESTING i) true).showMethod i) s
  s.put TDC.TEST.BUSY true

/-- A commanded test (R168). -/
def State.curveCommand (s : State) : State :=
  let is_ := if s.on TDC.TEST.ALL then List.range 65 else [s.rd TDC.TEST.INPUT]
  { s with tdc := { s.tdc with testing := is_, testFailed := false } }.curveTests is_

/-- Mean of temperature sensors 8 to 15, in 1/128 °C, from the readings given. -/
def meanTemp (l : List Int) : Int := if l.isEmpty then 0 else divRound l.sum (l.length : Int)

/-- Tests that a temperature change brings on disabled inputs: more than 5 °C since the input's last (R168). -/
def State.curveTempTests (s : State) (mean : Int) : State :=
  let due := (List.range 64).filter (fun i =>
    s.rd (TDC.INi_CTL.EDGE i) == 0 && (s.tin i).passed && !s.on (TDC.INi_STATUS.TESTING i) &&
      decide (640 < (mean - (s.tin i).testTemp).natAbs))
  if due.isEmpty then s else s.curveTests due

/-- Input code of temperature sensor `m` (R428). -/
def sensorInput (m : Nat) : Nat := 8 * (m % 4) + m / 4

/-- Mean of sensors 8 to 15 as the monitor registers hold them. -/
def State.dieTemp (s : State) : Int := meanTemp ((List.range 8).map (fun k => s.rdS (MCV.INi.VALUE (sensorInput (8 + k)))))

/-- CURVE_TEST_COMPLETE (R167, R168): `hist` holds H(2i) for i = 0 to 255, of 4,194,304 hits. The status of a test of all inputs is
reported once, at its last completion: 2 where any failed (DESIGN CHOICE, notes/assumptions/101.md). -/
def execCurveTestComplete (i : Nat) (hist : List Nat) (s : State) : Host.Outcome State Fault Refusal :=
  .next (
    if i < 65 ∧ s.on (TDC.INi_STATUS.TESTING i) = true ∧ s.live ∧ s.dev ≠ devDark ∧ hist.length = 256 then
      let curve := hist.map (fun (h : Nat) => (divHalfEven (65536 * (h : Int)) 4194304).toNat)
      let seed := s.seed 4 i
      let near := (List.range 256).all (fun k => ((curve.getD k 0 : Int) - seed.getD k 0).natAbs ≤ 512)
      let pass := curveValid curve && near
      let commanded := s.tdc.testing.contains i
      let s := s.modIn i (fun x => { x with testTemp := s.dieTemp })
      let s := if pass then s.modIn i (fun x => { x with curve := some curve, passed := true, fails := 0 })
        else (s.countPlain TDC.TEST.REJECTS 1).modIn i (fun x => { x with fails := x.fails + 1 })
      let failed := s.tdc.testFailed || !pass
      let s := if commanded then
          let rest := s.tdc.testing.erase i
          let s := { s with tdc := { s.tdc with testing := rest, testFailed := failed } }
          if rest.isEmpty then s.wr TDC.TEST.STATUS (if failed then 2 else 1) else s
        else s
      if !pass && 3 ≤ (s.tin i).fails then (if commanded then s.wr TDC.TEST.STATUS 2 else s).halt 0x0621 i 0
      else
        -- a failed start-up test repeats at once
        let again := !pass && !commanded && !(s.tin i).passed
        let s := if again then s else (s.put (TDC.INi_STATUS.TESTING i) false).showMethod i
        s.put TDC.TEST.BUSY ((List.range 65).any (fun k => s.on (TDC.INi_STATUS.TESTING k)))
    else s)

/-! ### Vernier loops (R164 to R166) -/

/-- VERNIER_LOCK_MEASUREMENT (R164): unit `u` of input `i`; `dev` is the step's deviation from 1.5625 ps in 0.01 %. -/
def execVernierLockMeasurement (i u : Nat) (dev : Int) (s : State) : Host.Outcome State Fault Refusal :=
  .next (
    if i < 65 ∧ u < 2 ∧ s.clk.tbRuns = true ∧ s.live ∧ s.dev ≠ devDark then
      let v := (s.tin i).units.getD u {}
      let good := if dev.natAbs ≤ 50 then min 4 (v.good + 1) else 0
      let v' : Vernier :=
        if v.locked then (if 100 < dev.natAbs then ⟨0, false, s.now⟩ else { v with good := good })
        else { v with good := good, locked := good = 4 }
      (s.modIn i (fun x => { x with units := x.units.set u v' })).showMethod i
    else s)

/-- VERNIER_LOCK_TIMEOUT (R166): 10 ms without lock while PLL0 is LOCKED, which is tested as the timeout is presented (DESIGN CHOICE,
notes/assumptions/102.md). -/
def execVernierLockTimeout (i u : Nat) (s : State) : Host.Outcome State Fault Refusal :=
  .next (
    let v := (s.tin i).units.getD u {}
    if i < 65 ∧ u < 2 ∧ s.clk.tbRuns = true ∧ s.live ∧ s.dev ≠ devDark ∧ v.locked = false ∧ s.pll0Locked = true
        ∧ v.since + ticksOfMs 10 ≤ s.now ∧ s.tdc.enabledAt + ticksOfMs 10 ≤ s.now then
      if s.dev = devStart then s.halt 0x0108 (s.rd SYS.STATE.STEP) 0 else s.halt 0x0620 i 0
    else s)

/-- The vernier units begin to lock anew (R164, R176). -/
def State.verniersStart (s : State) : State :=
  let s := { s with tdc := { s.tdc with enabledAt := s.now } }
  (List.range 65).foldl (fun s i => (s.modIn i (fun x => { x with units := List.replicate 2 ⟨0, false, s.now⟩ })).showMethod i) s

/-- PLL_LOCK_WINDOW (R127, R164, R168): once PLL0 declares lock at start-up, the vernier loops and the curve tests of all inputs
begin. -/
def execPllLockWindow (n : Nat) (err eps : Int) (s : State) : Host.Outcome State Fault Refusal :=
  .next (
    let t := s.lockWindow n err eps
    if t.clk.tbRuns && !s.clk.tbRuns then t.verniersStart.curveTests (List.range 65) else t)

/-! ### DARK (R142, R144, R176, R177) -/

/-- At DARK entry the vernier units and queues stop: edges latched and not converted are stamped by multi-phase only, and stops that
wait are judged (R165, R171, R176; DEDUCED, notes/assumptions/40.md). -/
def State.stampsDark (s : State) : State :=
  let s := (List.range 64).foldl (fun s i =>
    (s.tin i).cells.foldl (fun s r => s.stampCell i r r.coarse true) (s.modIn i (fun x => { x with cells := [] }))) s
  let s := { s with tdc := { s.tdc with stops := [] } }.judgeStops s.tdc.stops
  let marks := s.tdc.marks
  marks.foldl (fun s m => s.queueStamp 64 m.1 m.2) { s with tdc := { s.tdc with marks := [] } }

/-- An edge on input `i` in DARK (R176, R177). -/
def State.darkEdge (s : State) (i : Nat) (falling : Bool) : State :=
  if s.dev = devDark ∧ i < 64 ∧ s.on (TDC.INi_CTL.DARK_STAMP i) = true ∧ s.edgeSelected i falling = true then
    let k := s.keeper
    if (s.tin i).dark = some k ∨ 256 ≤ s.tdc.dark.length then s.overrun i
    else
      let t := s.timesR k
      let st : Stamp := { tick := t / 65536 % 2 ^ 64, frac := t % 65536, input := i, seq := 0
                          flags := b2n falling + 4 * b2n (!s.on CLK.REF.OK) + 8 * b2n (!s.warm) + 16 + 64 * b2n (s.tin i).overrun }
      let s := s.modIn i (fun x => { x with dark := some k, overrun := false })
      { s with tdc := { s.tdc with dark := s.tdc.dark ++ [st] } }.wr TDC.DARKBUF.ENTRIES (s.tdc.dark.length + 1)
  else s

/-- DARK_STAMP (R142, R176, R177). -/
def execDarkStamp (i : Nat) (falling : Bool) (s : State) : Host.Outcome State Fault Refusal :=
  .next (if i < 40 then (s.trginEdge i falling).darkEdge i falling else s)

/-- At wake the safelight buffer moves into the queues in time order, stops judged then; OVERRUN_BEFORE goes with the records it was
captured with, and an overrun after the last capture with the next (R176, R177). -/
def State.darkFlush (s : State) : State :=
  let l := s.tdc.dark
  let s := { s with tdc := { s.tdc with dark := [] } }.wr TDC.DARKBUF.ENTRIES 0
  let s := l.foldl (fun s t =>
    let tm := t.tick * 65536 + t.frac
    let s := s.modIn t.input (fun x => { x with latest := ((tm, !t.flags.testBit 0) :: x.latest).take latestKept })
    s.judgeStop t.input tm t.flags (s.stopUnit t.input)) s
  (List.range 64).foldl (fun s i => s.modIn i (fun x => { x with dark := none })) s

/-! ### Register rules of the block -/

/-- Ranges and relations of fields (R155, R175, R180); `n f` is the value `f` would hold. A unit's pair of inputs and a stop that two
units share are judged, with VALUE, as EN is written (DESIGN CHOICE, notes/assumptions/103.md). -/
def TDC.valueBad (n : Fld → Nat) (f : Fld) : Bool :=
  (f = TDC.TEST.INPUT && 64 < n f) || (f = TDC.SPILL_LIMIT.PAGES && 4096 < n f) ||
  (List.range 16).any (fun m =>
    ((f = TDC.MEASm_CTL.START m || f = TDC.MEASm_CTL.STOP m) && 63 < n f) ||
    (f = TDC.MEASm_CLOSE.TICKS m && n f ≤ n (TDC.MEASm_OPEN.TICKS m)) ||
    (f = TDC.MEASm_CTL.EN m && n f = 1 &&
      (n (TDC.MEASm_CTL.START m) = n (TDC.MEASm_CTL.STOP m) || n (TDC.MEASm_CLOSE.TICKS m) ≤ n (TDC.MEASm_OPEN.TICKS m) ||
        (List.range 16).any (fun k => k != m && n (TDC.MEASm_CTL.EN k) = 1 && n (TDC.MEASm_CTL.STOP k) = n (TDC.MEASm_CTL.STOP m)))))

/-- State tests: EDGE from one selection to another, DELAY of an enabled input, an enabled unit, a test under way
(R157, R159, R168, R175, R180). -/
def TDC.stateBad (s : State) (n : Fld → Nat) (f : Fld) : Bool :=
  (f = TDC.TEST.GO && n f = 1 && s.on TDC.TEST.BUSY) || (f = TDC.SPILL_LIMIT.PAGES && s.dev != devIdle) ||
  (List.range 64).any (fun i =>
    (f = TDC.INi_CTL.EDGE i && n f != 0 && s.rd f != 0) ||
    (f = TDC.INi_CTL.DELAY i && s.rd (TDC.INi_CTL.EDGE i) != 0)) ||
  (List.range 16).any (fun m =>
    (f = TDC.MEASm_CTL.START m || f = TDC.MEASm_CTL.STOP m || f = TDC.MEASm_OPEN.TICKS m || f = TDC.MEASm_CLOSE.TICKS m) &&
      s.on (TDC.MEASm_CTL.EN m))

/-- What a write does beyond storing (R140, R168). -/
def TDC.onWrite (f : Fld) (v : Nat) (s : State) : State :=
  if f = TDC.TEST.GO then (if v = 1 then s.curveCommand else s)
  else match (List.range 64).find? (fun i => f = TDC.INi_CTL.EDGE i) with
    | some _ => if v = 0 then s else s.cancelTbSet 3
    | none => s

end Sys2Proof.Machine
end

