-- ==== Sys2Proof/Machine/Mon.lean ====
section
/-! DEFINITION. Window monitors, threshold readback and the monitor converter (13_windows_and_monitor_converter.md), with the
protection their readings drive (R435). -/

namespace Sys2Proof.Machine

/-- The monitor record changed. -/
def State.modMon (s : State) (f : Mon → Mon) : State := { s with mon := f s.mon }

/-! ### Injected requests (R431, R433, R434) -/

/-- Queue, results and the head record shown. -/
def State.showInj (s : State) : State :=
  let s := (s.wr MCV.STATUS.QUEUE s.mon.queue.length).wr MCV.STATUS.RESULTS s.mon.results.length
  match s.mon.results with
  | [] =>
    let s := (((s.put MCV.INJ_TAG.VALID false).wr MCV.INJ_TAG.STATUS 0).put MCV.INJ_TAG.DELAYED_BY_CAL false).put MCV.INJ_TAG.DARK_COARSE false
    let s := ((s.put MCV.INJ_TAG.TRIGGER false).wr MCV.INJ_TAG.WINDOW 0).wr MCV.INJ_TAG.SEQ 0
    let s := (s.wr MCV.INJ_TB_LO.TICKS 0).wr MCV.INJ_TB_HI.TICKS 0
    (((s.wr MCV.INJ_DATA01.CORE0 0).wr MCV.INJ_DATA01.CORE1 0).wr MCV.INJ_DATA23.CORE2 0).wr MCV.INJ_DATA23.CORE3 0
  | r :: _ =>
    let s := ((s.put MCV.INJ_TAG.VALID true).wr MCV.INJ_TAG.STATUS (b2n r.aborted)).put MCV.INJ_TAG.DELAYED_BY_CAL r.req.delayed
    let s := ((s.put MCV.INJ_TAG.DARK_COARSE r.coarse).wr MCV.INJ_TAG.TRIGGER r.req.trigger).wr MCV.INJ_TAG.WINDOW r.req.window
    let s := s.wr MCV.INJ_TAG.SEQ (r.req.seq % 65536)
    let s := (s.wr MCV.INJ_TB_LO.TICKS (r.time % 2 ^ 32)).wr MCV.INJ_TB_HI.TICKS (r.time / 2 ^ 32)
    let s := (s.wr MCV.INJ_DATA01.CORE0 (r.values.getD 0 0)).wr MCV.INJ_DATA01.CORE1 (r.values.getD 1 0)
    (s.wr MCV.INJ_DATA23.CORE2 (r.values.getD 2 0)).wr MCV.INJ_DATA23.CORE3 (r.values.getD 3 0)

/-- A request finds room: fewer than 4 queued and fewer than 4 results unread, with the injected path enabled. -/
def State.injRoom (s : State) : Bool := s.on MCV.CFG.INJ_EN && s.mon.queue.length < 4 && s.mon.results.length < 4

/-- A request taken into the queue. -/
def State.injTake (s : State) (trigger window : Nat) : State :=
  let r : InjReq := ⟨s.rd MCV.INJ_SEL.SEL, trigger, window, s.mon.reqSeq, s.on MCV.STATUS.CAL_BUSY || s.on MCV.CAL_STATUS.PENDING, false⟩
  (s.modMon (fun m => { m with queue := m.queue ++ [r], reqSeq := m.reqSeq + 1 })).showInj

/-- Requests aborted under R434 become records as the FIFO of 4 has room; the time of one is not stated: free
(notes/assumptions/8.md). -/
def State.flushAborted : Nat → State → State
  | 0, s => s
  | n + 1, s => match s.mon.queue with
    | r :: rest =>
      if r.aborted && s.mon.results.length < 4 then
        let (t, s) := s.free 23 64
        let s := s.modMon (fun m => { m with queue := rest, results := m.results ++ [⟨r, true, s.dev = devDark, t, []⟩] })
        State.flushAborted n (s.event 0x0261 [])
      else s
    | [] => s

/-- The injected path disabled: a conversion in progress completes; the requests behind it are aborted (R434). -/
def State.injDisable (s : State) : State :=
  let keep := if s.on MCV.STATUS.CAL_BUSY ∨ 4 ≤ s.mon.results.length then 0 else 1
  let s := s.modMon (fun m => { m with queue := m.queue.take keep ++ (m.queue.drop keep).map (fun r => { r with aborted := true }) })
  (s.flushAborted 4).showInj

/-- A self-calibration starts; what is queued is delayed by it (R432, R433). -/
def State.mcvCalStart (s : State) : State :=
  let s := (s.put MCV.STATUS.CAL_BUSY true).put MCV.CAL_STATUS.PENDING false
  s.modMon (fun m => { m with queue := m.queue.map (fun r => { r with delayed := true }) })

/-- A request at the head of the queue is converted next: one that no record has room for waits, and holds nothing up (R431, R434). -/
def State.injStands (s : State) : Bool := !s.mon.queue.isEmpty && s.mon.results.length < 4

/-- A calibration command: coalesced with one that runs, behind an injected conversion at the head of the queue (R432, R433). -/
def State.mcvCal (s : State) : State :=
  if s.on MCV.STATUS.CAL_BUSY then s
  else if s.injStands then s.put MCV.CAL_STATUS.PENDING true else s.mcvCalStart

/-- The result of core `k` at its input `j`, in the unit of R429, from its 12-bit code: offset and gain applied, LSBs of 250 µV as mV behind
a divider of 4 or as steps of 15.625 µV, rounded half to even. A temperature comes as the factory curve gives it, and a result
outside its 16 bits is free (R432; notes/assumptions/109.md). -/
def State.mcvResult (s : State) (k j raw : Nat) : Nat × State :=
  if j < 4 then (raw % 65536, s)
  else
    let y : Int := ((raw % 4096 * 64 : Nat) - s.rdS (MCV.CALFk.OFFSET k)) * (1048576 + s.rdS (MCV.CALFk.GAIN k))
    let v := divHalfEven (if j = 4 || k == 3 && j == 7 then 16 * y else y) 67108864
    if 0 ≤ v ∧ v < 65536 then (v.toNat, s) else s.free 26 16

/-- MCV_INJ_DONE (R431, R433): the request at the head of the queue is converted, with the codes of the four cores; its sampling
instant lies one conversion, 1.0 µs, before (R429). In DARK the time is in the keeper form of R142. -/
def execMcvInjDone (vals : List Nat) (s : State) : Host.Outcome State Fault Refusal :=
  .next (match s.mon.queue with
    | [] => s
    | r :: rest =>
      if s.live ∧ ¬ s.on MCV.STATUS.CAL_BUSY ∧ r.aborted = false ∧ s.mon.results.length < 4 then
        let dark := decide (s.dev = devDark)
        let t := if dark then s.timesR (s.keeper - (if s.on CLK.REF.FREQ_SEL then 100 else 10)) / 65536 else s.ticks - 1250
        let (vs, s) := (List.range 4).foldl (fun (acc : List Nat × State) k =>
          let j := bits r.sel (4 * k) 4
          if j = 15 then (acc.1 ++ [0], acc.2)
          else
            let (v, s) := acc.2.mcvResult k j (vals.getD k 0)
            (acc.1 ++ [v], s)) ([], s)
        let s := s.modMon (fun m => { m with queue := rest, results := m.results ++ [⟨r, false, dark, t, vs⟩] })
        let s := (s.event 0x0261 []).flushAborted 4
        let s := if s.on MCV.CAL_STATUS.PENDING then s.mcvCalStart else s
        s.showInj
      else s)

/-- The head result record removed (R431). -/
def State.mcvPop (s : State) : State := ((s.modMon (fun m => { m with results := m.results.drop 1 })).flushAborted 4).showInj

/-- MCV_CAL_DONE (R432): offsets in 1/64 LSB and gains in 2^-20 of the four cores; one outside its field halts the device. -/
def execMcvCalDone (offs gains : List Int) (s : State) : Host.Outcome State Fault Refusal :=
  .next (
    if s.on MCV.STATUS.CAL_BUSY ∧ s.live then
      match (List.range 4).find? (fun k => !(fitsS 16 (offs.getD k 0) && fitsS 16 (gains.getD k 0))) with
      | some k => if s.dev = devStart then s.halt 0x0109 8 0 else s.halt 0x0640 k 0
      | none =>
        let s := (List.range 4).foldl (fun s k =>
          (s.wr (MCV.CALFk.OFFSET k) (ofSigned 16 (offs.getD k 0))).wr (MCV.CALFk.GAIN k) (ofSigned 16 (gains.getD k 0))) s
        let s := ((s.put MCV.STATUS.CAL_BUSY false).put MCV.STATUS.CAL_DONE true).countPlain MCV.CAL_STATUS.COUNT 1
        (s.event 0x0262 []).showInj
    else s)

/-! ### Windows (R418 to R425) -/

/-- The output of window `w` its comparators give (R420); a disabled window produces nothing (R422). -/
def State.windowOut (s : State) (w : Nat) : Bool :=
  let a := s.on (WIN.Ww_STATUS.ABOVE w)
  let b := s.on (WIN.Ww_STATUS.BELOW w)
  s.on (WIN.Ww_CFG.EN w) && (match s.rd (WIN.Ww_CFG.OUT w) with
    | 0 => a
    | 1 => b
    | 2 => a || b
    | _ => !a && !b)

/-- Output and unresolved flags of window `w` shown in its status and in the two sums. -/
def State.showWindow (s : State) (w : Nat) : State :=
  let o := s.windowOut w
  ((s.put (WIN.Ww_STATUS.OUT w) o).putBit WIN.OUT.OUT w o).putBit WIN.UNRESOLVED.WINDOWS w
    (s.on (WIN.Ww_STATUS.UNRES_U w) || s.on (WIN.Ww_STATUS.UNRES_L w))

/-- Both comparators of window `w` in the start state (R421). -/
def State.windowStart (s : State) (w : Nat) : State :=
  ((((s.put (WIN.Ww_STATUS.ABOVE w) false).put (WIN.Ww_STATUS.BELOW w) false).put (WIN.Ww_STATUS.UNRES_U w) true).put
    (WIN.Ww_STATUS.UNRES_L w) true).showWindow w

/-- Fields of a comparator: its state and its UNRESOLVED flag; 0 upper, 1 lower. -/
def compField (w k : Nat) : Fld := if k = 0 then WIN.Ww_STATUS.ABOVE w else WIN.Ww_STATUS.BELOW w
@[inherit_doc compField] def compUnres (w k : Nat) : Fld := if k = 0 then WIN.Ww_STATUS.UNRES_U w else WIN.Ww_STATUS.UNRES_L w

/-- Comparator `k` of window `w` at value `v`, resolved. -/
def State.compSet (s : State) (w k : Nat) (v : Bool) : State := ((s.put (compField w k) v).put (compUnres w k) false).showWindow w

/-- The comparators the output of window `w` depends on (R420). -/
def State.compUsed (s : State) (w : Nat) : List Nat := match s.rd (WIN.Ww_CFG.OUT w) with
  | 0 => [0]
  | 1 => [1]
  | _ => [0, 1]

/-- Setting comparator `k` of window `w` to `v` is an event: the output changes with every comparator it depends on resolved
before (R421). -/
def State.compIsEvent (s : State) (w k : Nat) (v : Bool) : Bool :=
  (s.compUsed w).all (fun j => !s.on (compUnres w j)) && (s.compSet w k v).windowOut w != s.windowOut w

/-- The comparators of window `w` compare: enabled, not held for the DAC, device short of HALTED. -/
def State.compares (s : State) (w : Nat) : Bool :=
  w < 24 && s.on (WIN.Ww_CFG.EN w) && !s.mon.settling.contains w && s.live

/-- Full scale in nV of a range code (R36). -/
def rangeNv (r : Nat) : Nat := 250000000 * 2 ^ r

/-- 4,096 times the threshold voltage, in nV, of comparator `k` (0 upper, 1 lower) of window `w` (R418). -/
def State.threshold (s : State) (w k : Nat) : Int :=
  (((if k = 0 then s.rd (WIN.Ww_THR.U w) else s.rd (WIN.Ww_THR.L w) : Nat) : Int) - 2048) * rangeNv (s.rd (WIN.Ww_CFG.RANGE w))

/-- What comparator `k` of window `w` becomes with `v` nV at its input; none inside its hysteresis band (R419). -/
def State.compLevel (s : State) (w k : Nat) (v : Int) : Option Bool :=
  let t := s.threshold w k
  let h : Int := 4096 * 3000000 * (if k = 0 then s.rd (WIN.Ww_CFG.HYST_U w) else s.rd (WIN.Ww_CFG.HYST_L w) : Nat)
  if k = 0 then (if t ≤ 4096 * v then some true else if 4096 * v < t - h then some false else none)
  else if 4096 * v < t then some true else if t + h ≤ 4096 * v then some false else none

/-- COMPARATOR_RESOLVES (R418, R419, R421): with `v` nV at its input comparator `k` (0 upper, 1 lower) of window `w` resolves or flips, and
no event comes of it. -/
def execComparatorResolves (w k : Nat) (v : Int) (s : State) : Host.Outcome State Fault Refusal :=
  .next (match s.compLevel w k v with
    | some b => if s.compares w ∧ k < 2 ∧ s.compIsEvent w k b = false then s.compSet w k b else s
    | none => s)

/-- A wake source recognised: it wakes from DARK, and is held during an entry (R425, R525). -/
def State.wakeSource (s : State) (cause window : Nat) : State :=
  let first := match s.boot.heldWake with
    | none => true
    | some h => s.now = s.boot.heldAt && cause < h.1
  if (s.dev = devDark ∨ s.on SYS.STATE.ENTERING = true) ∧ first = true then
    { s with boot := { s.boot with heldWake := some (cause, window), heldAt := s.now } }
  else s

/-- An event of window `w`: stamp, pending bit, interrupt, count, injected request, wake (R424, R425, R431). -/
def State.windowEvent (s : State) (w : Nat) (rising : Bool) (phase : Nat) : State :=
  let s := if s.dev = devDark then s.darkEdge (40 + w) (!rising) else s.stampEdge (40 + w) (!rising) phase
  let s := s.count (WIN.Ww_EVENTS.COUNT w) (WIN.Ww_EVENTS.SAT w) 1
  let s := if s.dev != devStart && (s.rd (WIN.Ww_CFG.IRQ w)).testBit (if rising then 0 else 1) then
      let first := !(s.rd WIN.PENDING.WINDOWS).testBit w
      let s := s.putBit WIN.PENDING.WINDOWS w true
      if first && s.on (WIN.Ww_CFG.IBI w) then s.raiseIbi ⟨2, [w]⟩ else s
    else s
  let s := if s.rd MCV.INJ_SEL.TRIGGER = 1 ∧ s.rd MCV.INJ_SEL.WINDOW = w then
      if s.injRoom then s.injTake 1 w else s.count MCV.INJ_LOST.COUNT MCV.INJ_LOST.SAT 1
    else s
  if s.on (WIN.Ww_CFG.WAKE w) && s.on SYS.WAKE_CFG.WINDOWS then s.wakeSource 2 w else s

/-- WINDOW_EVENT (R418, R419, R421, R424): with `v` nV at its input comparator `k` of window `w` changes, and the output with it, in phase
`phase` of the tick. -/
def execWindowEvent (w k : Nat) (v : Int) (phase : Nat) (s : State) : Host.Outcome State Fault Refusal :=
  .next (match s.compLevel w k v with
    | some b =>
      if s.compares w ∧ k < 2 ∧ s.compIsEvent w k b = true then
        let s := s.compSet w k b
        s.windowEvent w (s.windowOut w) phase
      else s
    | none => s)

/-- A write of a window's registers: its comparators return to the start state and are held for the DAC; a readback of its
thresholds is aborted by a write of them (R422, R427). -/
def State.windowWrite (s : State) (w : Nat) (thr : Bool) : State :=
  let s := s.modMon (fun m => { m with settling := w :: m.settling.filter (· != w) })
  let s := s.windowStart w
  match s.mon.rb with
  | some r => if thr && r.window = w then s.rbAbort else s
  | none => s

/-- WINDOW_SETTLED (R422). -/
def execWindowSettled (w : Nat) (s : State) : Host.Outcome State Fault Refusal :=
  .next (s.modMon (fun m => { m with settling := m.settling.filter (· != w) }))

/-! ### Threshold readback (R426, R427) -/

/-- A readback requested. -/
def State.rbGo (s : State) : State :=
  let r : Readback := ⟨s.rd WIN.RB_CTL.WINDOW, s.rd WIN.RB_CTL.COMP, s.rd WIN.RB_CTL.RANGE, none⟩
  ((s.modMon (fun m => { m with rb := some r })).put WIN.RB_RESULT.BUSY true).rbTake

/-- The result in 1/16 LSB of the report range, from the raw codes of 512 conversions, conversion `i` of sub-converter `i` mod 8
(R59 steps 1 and 2, R426). -/
def readbackValue (c : Coef) (range : Nat) (raw : List Nat) : Int :=
  let y : Int := ((List.range 512).map (fun i =>
    ((((raw.getD i 0 : Nat) : Int) - 2048) * 256 - c.off.getD (i % 8) 0) * c.gain.getD (i % 8) 16777216)).sum
  -- y is 512 means in 2^-32 LSB; 1 V ovr the full scale of the range is 4, 2, 1 or 1/2
  divHalfEven (16 * y * ([8, 4, 2, 1].getD range 2 : Nat)) (2 * 512 * 4294967296)

/-- WIN_RB_DONE (R426): the 512 conversions of the slice that measures are complete. -/
def execWinRbDone (raw : List Nat) (s : State) : Host.Outcome State Fault Refusal :=
  .next (
    let s := if s.live then s.rbTake else s
    match s.mon.rb with
    | some ⟨_, _, r, some n⟩ =>
      if s.up ∧ s.on ADC.SCLK.OK = true ∧ raw.length = 512 then
        let c := ((s.calCh n).slices.getD (s.rd (ADC.STATUS.SPARE n)) {}).coef
        (s.wr WIN.RB_RESULT.VALUE (ofSigned 24 (readbackValue c r raw))).rbEnd 1
      else s
    | _ => s)

/-! ### Regular sequence (R428 to R430) and protection (R435) -/

/-- Entries of the pass that runs: system entries alone in HALTED and in a pass of DARK. -/
def State.seqEntries (s : State) : Nat := if s.mon.inDark ∨ s.dev = devHalted then 7 else 7 + s.rd MCV.CFG.USER

/-- Time from a pass to the next. -/
def State.passPeriod (s : State) : Nat := if s.dev = devDark then ticksOfMs 100 else ticksOfUs (s.rd MCV.CFG.PERIOD_US)

/-- The DARK schedule begins at the last step of an entry: the scheduled regular pass is dropped. At wake it ends: a pass in progress
completes and the first regular pass starts behind it (R430). -/
def State.passesDark (s : State) : State := s.modMon (fun m => { m with due := s.now + ticksOfMs 100, late := false })
@[inherit_doc State.passesDark] def State.passesWake (s : State) : State := s.modMon (fun m => { m with due := s.now, late := m.running })

/-- MCV_PASS (R430, R436): a pass falls due; it starts behind the injected requests that stand, or is delayed by one that still runs. -/
def execMcvPass (s : State) : Host.Outcome State Fault Refusal :=
  .next (
    if s.mon.due ≤ s.now then
      if s.mon.running then
        if s.mon.late then s
        else
          let s := s.modMon (fun m => { m with late := true })
          let first := s.rd MCV.OVERRUN.COUNT = 0
          let s := s.count MCV.OVERRUN.COUNT MCV.OVERRUN.SAT 1
          if first then s.event 0x0264 [] else s
      else if s.injStands ∧ s.dev ≠ devHalted then s
      else
        (s.modMon (fun m => { m with
          running := true, late := false, pass := m.pass + 1, due := s.now + s.passPeriod, inDark := s.dev = devDark })).wr MCV.STATUS.ENTRY 0
    else s)

/-- Nominal voltage in mV of supply point `k` (R573). -/
def railMv (k : Nat) : Nat := [750, 1100, 900, 1800, 850, 1200, 1100, 900, 1200, 800, 1800, 1800].getD k 0

/-- A sample of a supply: 1 below, 2 above its halt limits, counted with no regard to the side; the third in a row halts the
device with the reason of its side (R435). -/
def State.supplyCheck (s : State) (k side reading : Nat) : State :=
  if side = 0 then s.modMon (fun m => { m with streaks := m.streaks.set k 0 })
  else
    let n := s.mon.streaks.getD k 0 + 1
    let s := s.modMon (fun m => { m with streaks := m.streaks.set k n })
    if 3 ≤ n then s.halt (if side = 1 then 0x0501 else 0x0502) k reading else s

/-- Which side of ±6 % a reading in mV lies on. -/
def supplySide (k mv : Nat) : Nat :=
  if mv * 100 < railMv k * 94 then 1 else if railMv k * 106 < mv * 100 then 2 else 0

/-- A regular reading of temperature sensor `m` (R92, R168, R435). -/
def State.sensorReading (s : State) (m : Nat) (v : Int) : State :=
  let s := if m < 8 then s.tempReading m v else if s.up then s.curveTempTests s.dieTemp else s
  if 135 * 128 < v then
    if s.mon.hot.contains m then s else (s.modMon (fun k => { k with hot := m :: k.hot })).event 0x0263 []
  else s.modMon (fun k => { k with hot := k.hot.filter (· != m) })

/-- The result of core `k` at input `j` (R428, R429): stored, and what it drives; `sys` marks a system entry. -/
def State.monResult (s : State) (sys : Bool) (k j v : Nat) : State :=
  let i := 8 * k + j
  let s := ((s.wr (MCV.INi.VALUE i) v).wr (MCV.INi.PASS i) (s.mon.pass % 32768)).put (MCV.INi.VALID i) true
  if j < 4 then s.sensorReading (4 * j + k) (toSigned 16 v)
  else if j = 4 then s
  else if k = 3 ∧ j = 7 then
    let s := s.modMon (fun m => { m with sense := (v :: m.sense).take 64 })
    s.wr CAL.REF.SENSE_UV (min (2 ^ 20 - 1) (s.senseNv / 1000))
  else if sys then s.supplyCheck (3 * k + (j - 5)) (supplySide (3 * k + (j - 5)) v) v else s

/-- MCV_CONVERSION_COMPLETE (R428 to R431): the entry in progress is converted; the pass ends with its last entry. -/
def execMcvConversionComplete (vals : List Nat) (s : State) : Host.Outcome State Fault Refusal :=
  .next (
    if s.mon.running ∧ (¬ s.on MCV.STATUS.CAL_BUSY ∧ ¬ s.injStands ∨ s.dev = devHalted) then
      let e := s.rd MCV.STATUS.ENTRY
      let sel := s.rd (MCV.SEQe.SEL e)
      let s := (List.range 4).foldl (fun s k =>
        let j := bits sel (4 * k) 4
        if j < 8 then
          let (v, s) := s.mcvResult k j (vals.getD k 0)
          s.monResult (e < 7) k j v
        else s) s
      if e + 1 < s.seqEntries then s.wr MCV.STATUS.ENTRY (e + 1)
      else (s.modMon (fun m => { m with running := false })).wr MCV.STATUS.ENTRY 0
    else s)

/-- THERMAL_TRIP (R435): sensor `m` at 140 °C, with its reading in 1/128 °C. -/
def execThermalTrip (m : Nat) (reading : Int) (s : State) : Host.Outcome State Fault Refusal :=
  .next (if m < 16 then s.halt 0x0401 m (ofSigned 16 reading) else s)

/-- VDDIO_SAMPLE (R435): 0 within the limits, 1 below, 2 above. -/
def execVddioSample (side : Nat) (s : State) : Host.Outcome State Fault Refusal := .next (s.supplyCheck 11 (min side 2) 0)

/-! ### Register rules of the blocks -/

/-- An injected entry: 0 to 7 or 15 for each core (R441). -/
def selOk (v : Nat) : Bool := (List.range 4).all (fun k => bits v (4 * k) 4 < 8 || bits v (4 * k) 4 = 15)

/-- Ranges and relations of the window and monitor fields (R422, R439, R441). -/
def MON.valueBad (n : Fld → Nat) (f : Fld) : Bool :=
  let w := (f.addr - 0x4080) / 16
  if f = WIN.RB_CTL.WINDOW then 24 ≤ n f
  else if f = WIN.Ww_THR.U w ∨ f = WIN.Ww_THR.L w then n (WIN.Ww_THR.U w) ≤ n (WIN.Ww_THR.L w)
  else if f = MCV.CFG.USER then 25 < n f
  else if f = MCV.CFG.PERIOD_US then n f < 32
  else if f = MCV.INJ_SEL.SEL then !selOk (n f)
  else if f = MCV.INJ_SEL.TRIGGER then 1 < n f
  else if f = MCV.INJ_SEL.WINDOW then 24 ≤ n f
  else if 0x3C80 ≤ f.addr ∧ f.addr < 0x3D00 then !selOk (n f)
  else false

/-- States in which a write is not accepted (R427, R431). -/
def MON.stateBad (s : State) (n : Fld → Nat) (f : Fld) : Bool :=
  if f = WIN.RB_CTL.GO then n f = 1 && s.on WIN.RB_RESULT.BUSY
  else if f = MCV.CTL.INJECT then n f = 1 && (!s.injRoom || s.rd MCV.INJ_SEL.TRIGGER != 0)
  else false

/-- What a write to the blocks does beyond storing (R422, R424, R427, R431, R432, R434). -/
def MON.onWrite (f : Fld) (v : Nat) (s : State) : State :=
  if f = WIN.RB_CTL.GO then (if v = 1 then s.rbGo else s)
  else if 0x4080 ≤ f.addr ∧ f.addr < 0x4200 then
    let w := (f.addr - 0x4080) / 16
    if (f.addr - 0x4080) % 16 = 0 then s.windowWrite w false
    else if (f.addr - 0x4080) % 16 = 4 then s.windowWrite w true else s
  else if f = MCV.CTL.CAL then (if v = 1 then s.mcvCal else s)
  else if f = MCV.CTL.INJECT then (if v = 1 then s.injTake 0 0 else s)
  else if f = MCV.CTL.POP then (if v = 1 then s.mcvPop else s)
  else if f = MCV.CFG.INJ_EN then (if v = 0 then s.injDisable else s)
  else s

end Sys2Proof.Machine
end

