-- ==== Sys2Proof/Machine/Comb.lean ====
section
/-! DEFINITION. The Comb's cells (10_comb.md): issue of one instruction word at a cell's PC with loops, repeats and calls, traps
and stops, and the meanings of the arithmetic, immediate, address and control instructions. The stream instructions, results
and commands stand in CombIo.lean. -/

namespace Sys2Proof.Machine

/-! ### Stops and traps (R342, R343) -/

/-- Trap causes of R343. -/
def trapLoopDepth : Nat := 1
@[inherit_doc trapLoopDepth] def trapCallDepth : Nat := 2
@[inherit_doc trapLoopDepth] def trapReturnEmpty : Nat := 3
@[inherit_doc trapLoopDepth] def trapRecord : Nat := 4
@[inherit_doc trapLoopDepth] def trapBuffer : Nat := 5
@[inherit_doc trapLoopDepth] def trapDivide : Nat := 6
@[inherit_doc trapLoopDepth] def trapTrap : Nat := 7

/-- The header selection mask of an outbox's selection entry (R337, R497). -/
def State.selection (s : State) (entry : Nat) : Nat := match s.image with
  | none => 0
  | some im => match im.table 10 0 with
    | none => 0
    | some bs => le bs (4 + 2 * (entry % 16)) 2

/-- Bytes of words, three each, padded with zeros to a multiple of 8 (R334). -/
def payloadBytes (ws : List Nat) : List Nat :=
  let bs := (ws.map (leBytes 3)).flatten
  bs ++ List.replicate ((8 - bs.length % 8) % 8) 0

/-- The result record of cell `c` up to its digest (R334). -/
def recordBytes (c seq tb : Nat) (r : Rec) (truncated : Bool) : List Nat :=
  leBytes 2 0xF5A9 ++ [1, c] ++ leBytes 2 r.mask ++ leBytes 2 r.words.length ++ leBytes 4 seq
    ++ leBytes 4 (b2n truncated + 2 * b2n r.linked) ++ leBytes 8 tb
    ++ ((onesOf 16 r.mask).map (fun w => slice r.header (8 * w) 8)).flatten ++ payloadBytes r.words

/-- The open record of cell `c` closed onto its queue for the result path, with the next record_sequence. -/
def State.closeRecord (s : State) (c : Nat) (truncated : Bool) : State := match (s.cell c).rec_ with
  | none => s
  | some r =>
    let t := s.ticks
    s.modCell c (fun x => { x with
      rec_ := none
      recSeq := (x.recSeq + 1) % 2 ^ 32
      closed := x.closed ++ [(r.port, x.recSeq, recordBytes c x.recSeq t r truncated)] })

/-- What one binding of a stopping cell gives up (R342): FRAMES and SNAPSHOT claims not yet copied, TAP frames not yet drained,
STAMPS entries held as a run of losses. -/
def State.dropBinding (s : State) (c : Nat) (b : Binding) : State :=
  let n := b.waits.length
  let s := b.waits.foldl (fun s w =>
    if b.kind = 2 then (s.endCopies c (tagBind c b.port)).dropHolder w.table w.number (.cell c b.port)
    else if b.kind = 5 then (s.endCopies c (tagBind c b.port)).snapTaken b.source b.param (some (.cell c b.port))
    else if b.kind = 1 then (s.stageDrain (c / 24) w.table w.number).modBind c b.port (fun b => { b with bufs := b.bufs.set w.buf 0 })
    else s) s
  s.modBind c b.port (fun b => { b with
    waits := []
    skipped := b.skipped + n + b.stamps.length
    stamps := []
    lossRun := match b.stamps.head?, b.stamps.getLast?, b.lossRun with
      | some t, some u, none => some (t.2.tick, t.2.frac, u.2.seq)
      | some t, some _, some (_, _, q) => some (t.2.tick, t.2.frac, q)
      | _, _, r => r })

/-- The state change of a stop, once the cell's DMA requests are complete: cause 0 HALTED, else TRAPPED with event and count; a
trap in a reserved cell halts the device (R342 to R344). -/
def State.finishStop (s : State) (c cause : Nat) : State :=
  let s := s.closeRecord c true
  let s := (s.cell c).binds.foldl (fun s b => s.dropBinding c b) s
  let s := s.modCell c (fun x => { x with stop := none, inClose := false, stalled := false })
  if cause = 0 then s.setCellState c cellHalted
  else
    let s := (s.setCellState c cellTrapped).wr (CMB.CELLc.TRAP c) cause
    let s := (s.count CMB.TRAPS.COUNT CMB.TRAPS.SAT 1).event 0x0230 [c, cause]
    if c % 24 = 23 then s.halt 0x0304 (c / 24 + 31 * 16) 0 else s

/-- Cell `c` stops at this boundary: at once, or when its outstanding DMA requests are complete (R342); a stop that waits already keeps
its cause. -/
def State.stopCell (s : State) (c cause : Nat) : State :=
  if (s.cell c).dma.isEmpty then s.finishStop c cause else s.modCell c (fun x => { x with stop := some (x.stop.getD cause) })

/-! ### Issue (R310, R316) -/

/-- Sequential flow past address `a`: loops that end there start their next pass or are popped. -/
def loopFlow (a : Nat) : List LoopEnt → Nat × List LoopEnt
  | [] => ((a + 1) % 8192, [])
  | e :: es =>
    if e.last = a then (if 1 < e.left then (e.start, { e with left := e.left - 1 } :: es) else loopFlow a es)
    else ((a + 1) % 8192, e :: es)

/-- The cell goes on past address `a`. -/
def Cell.flowFrom (x : Cell) (a : Nat) : Cell :=
  let (pc, ls) := loopFlow a x.loops
  { x with pc := pc, loops := ls }

/-- The cell goes on to its next instruction; a repeated one stays until its count is used up. -/
def Cell.advance (x : Cell) : Cell :=
  if 1 < x.rpt then { x with rpt := x.rpt - 1 } else { x with rpt := 0 }.flowFrom x.pc

/-- Cell `c` can issue: it executes, or is a reserved cell in service, and neither stops nor waits in CLOSE. -/
def State.canIssue (s : State) (c : Nat) : Bool :=
  c < 192 && s.up && (s.cellExecutes c || s.cellState c == cellReserved) && (s.cell c).stop.isNone && !(s.cell c).inClose

/-- The word cell `c` issues next, if it is one of the class and op code. -/
def State.issues (s : State) (c cls op : Nat) : Option Nat :=
  let w := (s.cell c).word?
  if s.canIssue c && pwClass w == cls && pwOp w == op then some w else none

/-- One instruction of class `cls` and op code `op` at cell `c`: `f` gives the cell with everything written but its PC, or the
cause of a trap. -/
def State.issue (s : State) (c cls op : Nat) (f : Nat → Cell → Except Nat Cell) : State := match s.issues c cls op with
  | none => s
  | some w => match f w (s.cell c) with
    | .ok x => s.modCell c (fun _ => x.advance)
    | .error cause => s.stopCell c cause

/-- One instruction that sets the PC itself. -/
def State.issueFlow (s : State) (c op : Nat) (f : Nat → Cell → Except Nat Cell) : State := match s.issues c 5 op with
  | none => s
  | some w => match f w (s.cell c) with
    | .ok x => s.modCell c (fun _ => x)
    | .error cause => s.stopCell c cause

/-! ### ALU, MAC, DMAC (R313, R322, R323) -/

/-- An ALU or MAC instruction whose true result is `r`: written, flags, both moves. -/
def Cell.arith (x : Cell) (w : Nat) (r : Int) : Cell :=
  let v := acc56 (pwSat w) r
  x.moves ((x.setReg (8 + pwDst w) v).flagNZV v (over56 r)) w

/-- The destination and first source of an ALU instruction. -/
def Cell.dst (x : Cell) (w : Nat) : Int := x.aS (pwDst w)
@[inherit_doc Cell.dst] def Cell.sa (x : Cell) (w : Nat) : Int := x.src56 (pwSA w)

/-- An ALU instruction with true result `f dst SA`. -/
def State.alu (s : State) (c op : Nat) (f : Int → Int → Int) : State :=
  s.issue c 0 op (fun w x => .ok (x.arith w (f (x.dst w) (x.sa w))))

/-- A bitwise operation on 56 bits. -/
def bitwise56 (f : Nat → Nat → Nat) (a b : Int) : Int := toSigned 56 (f (ofSigned 56 a) (ofSigned 56 b))

/-- Bits below the sign bit equal to it, counted down from bit 54. -/
def signRun (v : Nat) : Nat → Nat
  | 0 => 0
  | k + 1 => if v.testBit k = v.testBit 55 then signRun v k + 1 else 0

/-- The product of two data registers. -/
def Cell.prod (x : Cell) (i j : Nat) : Int := x.dS i * x.dS j

/-- A MAC instruction with true result `f dst (SA · SB)`. -/
def State.mac (s : State) (c op : Nat) (f : Int → Int → Int) : State :=
  s.issue c 1 op (fun w x => .ok (x.arith w (f (x.dst w) (x.prod (pwSA w % 8) (pwSB w % 8)))))

/-- A DMAC instruction: `f even odd (A · B) (C · D)` gives the true results, the odd one where it is written. -/
def State.dmac (s : State) (c op : Nat) (f : Int → Int → Int → Int → Int × Option Int) : State :=
  s.issue c 2 op (fun w x =>
    let p := pwPair w
    let (re, ro) := f (x.aS p) (x.aS (p + 1)) (x.prod (bits w 35 3) (bits w 32 3)) (x.prod (bits w 29 3) (bits w 26 3))
    let ve := acc56 (pwSat w) re
    let y := (x.setReg (8 + p) ve).flagNZV ve (over56 re)
    let y := match ro with
      | some r => (y.setReg (9 + p) (acc56 (pwSat w) r)).flagV (over56 r)
      | none => y
    .ok (x.moves y w))

/-- MOVE (R323): dst := SA. -/
def execMove (c : Nat) (s : State) : Host.Outcome State Fault Refusal := .next (s.alu c 0x00 (fun _ a => a))

/-- CLR: dst := 0. -/
def execClr (c : Nat) (s : State) : Host.Outcome State Fault Refusal := .next (s.alu c 0x01 (fun _ _ => 0))

/-- ADD: dst := dst + SA. -/
def execAdd (c : Nat) (s : State) : Host.Outcome State Fault Refusal := .next (s.alu c 0x02 (fun d a => d + a))

/-- SUB: dst := dst - SA. -/
def execSub (c : Nat) (s : State) : Host.Outcome State Fault Refusal := .next (s.alu c 0x03 (fun d a => d - a))

/-- NEG: dst := -SA. -/
def execNeg (c : Nat) (s : State) : Host.Outcome State Fault Refusal := .next (s.alu c 0x04 (fun _ a => -a))

/-- ABS: dst := |SA|. -/
def execAbs (c : Nat) (s : State) : Host.Outcome State Fault Refusal := .next (s.alu c 0x05 (fun _ a => (a.natAbs : Int)))

/-- MAX: dst := max(dst, SA). -/
def execMax (c : Nat) (s : State) : Host.Outcome State Fault Refusal := .next (s.alu c 0x06 (fun d a => max d a))

/-- MIN: dst := min(dst, SA). -/
def execMin (c : Nat) (s : State) : Host.Outcome State Fault Refusal := .next (s.alu c 0x07 (fun d a => min d a))

/-- CMP: flags of dst - SA, nothing written. -/
def execCmp (c : Nat) (s : State) : Host.Outcome State Fault Refusal :=
  .next (s.issue c 0 0x08 (fun w x =>
    let r := x.dst w - x.sa w
    .ok (x.moves (x.flagNZV (acc56 (pwSat w) r) (over56 r)) w)))

/-- AND: bitwise on 56 bits. -/
def execAnd (c : Nat) (s : State) : Host.Outcome State Fault Refusal :=
  .next (s.alu c 0x09 (bitwise56 (fun a b => a &&& b)))

/-- OR: bitwise on 56 bits. -/
def execOr (c : Nat) (s : State) : Host.Outcome State Fault Refusal :=
  .next (s.alu c 0x0A (bitwise56 (fun a b => a ||| b)))

/-- XOR: bitwise on 56 bits. -/
def execXor (c : Nat) (s : State) : Host.Outcome State Fault Refusal :=
  .next (s.alu c 0x0B (bitwise56 (fun a b => a ^^^ b)))

/-- ASL: dst := SA × 2^c. -/
def execAsl (c : Nat) (s : State) : Host.Outcome State Fault Refusal :=
  .next (s.issue c 0 0x0C (fun w x => .ok (x.arith w (x.sa w * 2 ^ pwShift w))))

/-- ASR: dst := floor(SA / 2^c). -/
def execAsr (c : Nat) (s : State) : Host.Outcome State Fault Refusal :=
  .next (s.issue c 0 0x0D (fun w x => .ok (x.arith w (asrI (x.sa w) (pwShift w)))))

/-- LSR: SA taken as unsigned 56-bit, shifted right by c. -/
def execLsr (c : Nat) (s : State) : Host.Outcome State Fault Refusal :=
  .next (s.issue c 0 0x0E (fun w x => .ok (x.arith w ((ofSigned 56 (x.sa w) >>> pwShift w : Nat) : Int))))

/-- CLS: number of bits below the sign bit of SA equal to it. -/
def execCls (c : Nat) (s : State) : Host.Outcome State Fault Refusal :=
  .next (s.alu c 0x0F (fun _ a => ((signRun (ofSigned 56 a) 55 : Nat) : Int)))

/-- DIV: dst := round_half_even(dst / SA); SA = 0 traps DIVIDE. -/
def execDiv (c : Nat) (s : State) : Host.Outcome State Fault Refusal :=
  .next (s.issue c 0 0x10 (fun w x =>
    let a := x.sa w
    if a = 0 then .error trapDivide
    else .ok (x.arith w (if 0 < a then divHalfEven (x.dst w) a else divHalfEven (-(x.dst w)) (-a)))))

/-- SQRT: dst := the nearest integer to the root of SA; a negative SA gives 0 and V. -/
def execSqrt (c : Nat) (s : State) : Host.Outcome State Fault Refusal :=
  .next (s.issue c 0 0x11 (fun w x =>
    let a := x.sa w
    if a < 0 then .ok (x.moves ((x.setReg (8 + pwDst w) 0).flagNZV 0 true) w)
    else
      let n := a.toNat
      let r := isqrt n
      .ok (x.arith w ((if r * r + r < n then r + 1 else r : Nat) : Int))))

/-- MUL: dst := SA · SB. -/
def execMul (c : Nat) (s : State) : Host.Outcome State Fault Refusal := .next (s.mac c 0x00 (fun _ p => p))

/-- MLA: dst := dst + SA · SB. -/
def execMla (c : Nat) (s : State) : Host.Outcome State Fault Refusal := .next (s.mac c 0x01 (fun d p => d + p))

/-- MLS: dst := dst - SA · SB. -/
def execMls (c : Nat) (s : State) : Host.Outcome State Fault Refusal := .next (s.mac c 0x02 (fun d p => d - p))

/-- MLAH: dst := floor(dst / 2^24) + SA · SB. -/
def execMlah (c : Nat) (s : State) : Host.Outcome State Fault Refusal := .next (s.mac c 0x03 (fun d p => asrI d 24 + p))

/-- DMUL: even := A · B, odd := C · D. -/
def execDmul (c : Nat) (s : State) : Host.Outcome State Fault Refusal :=
  .next (s.dmac c 0 (fun _ _ p q => (p, some q)))

/-- DMLA: even += A · B, odd += C · D. -/
def execDmla (c : Nat) (s : State) : Host.Outcome State Fault Refusal :=
  .next (s.dmac c 1 (fun e o p q => (e + p, some (o + q))))

/-- DMLS: even -= A · B, odd -= C · D. -/
def execDmls (c : Nat) (s : State) : Host.Outcome State Fault Refusal :=
  .next (s.dmac c 2 (fun e o p q => (e - p, some (o - q))))

/-- DSUM: even += A · B + C · D. -/
def execDsum (c : Nat) (s : State) : Host.Outcome State Fault Refusal :=
  .next (s.dmac c 3 (fun e _ p q => (e + p + q, none)))

/-- DDIF: even += A · B - C · D. -/
def execDdif (c : Nat) (s : State) : Host.Outcome State Fault Refusal :=
  .next (s.dmac c 4 (fun e _ p q => (e + p - q, none)))

/-! ### IMM (R323): N and Z follow ALU, MAC and DMAC operations and CMPI alone (R313) -/

/-- LDI: reg := imm, sign-extended. -/
def execLdi (c : Nat) (s : State) : Host.Outcome State Fault Refusal :=
  .next (s.issue c 3 0 (fun w x => .ok (x.setReg (pwReg w) (pwImm w))))

/-- ADDI: acc := acc + imm. -/
def execAddi (c : Nat) (s : State) : Host.Outcome State Fault Refusal :=
  .next (s.issue c 3 1 (fun w x =>
    let r := x.src56 (pwReg w) + pwImm w
    .ok ((x.setReg (pwReg w) (acc56 (pwSat w) r)).flagV (over56 r))))

/-- CMPI: flags of acc - imm. -/
def execCmpi (c : Nat) (s : State) : Host.Outcome State Fault Refusal :=
  .next (s.issue c 3 2 (fun w x =>
    let r := x.src56 (pwReg w) - pwImm w
    .ok (x.flagNZV (acc56 (pwSat w) r) (over56 r))))

/-- ANDI: acc := acc AND imm, sign-extended. -/
def execAndi (c : Nat) (s : State) : Host.Outcome State Fault Refusal :=
  .next (s.issue c 3 3 (fun w x => .ok (x.setReg (pwReg w) (bitwise56 (fun a b => a &&& b) (x.src56 (pwReg w)) (pwImm w)))))

/-! ### ADDR (R315, R323) -/

/-- An ADDR instruction that changes its cursor. -/
def State.cursorOp (s : State) (c op : Nat) (f : Nat → Nat → Cell → Nat) : State :=
  s.issue c 4 op (fun w x => .ok { x with cur := x.cur.set (pwCur w) (f w (x.cur.getD (pwCur w) 0) x) })

/-- SETA: a := imm. -/
def execSeta (c : Nat) (s : State) : Host.Outcome State Fault Refusal :=
  .next (s.cursorOp c 0 (fun w q _ => curAt q (pwAImm w)))

/-- ADDA: a := update(a) with Δ = imm under the cursor's mode. -/
def execAdda (c : Nat) (s : State) : Host.Outcome State Fault Refusal :=
  .next (s.cursorOp c 1 (fun w q _ => curStep q (toSigned 14 (pwAImm w))))

/-- SETB: b := imm. -/
def execSetb (c : Nat) (s : State) : Host.Outcome State Fault Refusal :=
  .next (s.cursorOp c 2 (fun w q _ => curPut q 14 14 (pwAImm w)))

/-- SETW: mode := mode field, L := imm + 1. -/
def execSetw (c : Nat) (s : State) : Host.Outcome State Fault Refusal :=
  .next (s.cursorOp c 3 (fun w q _ => curPut (curPut q 28 14 (pwAImm w)) 54 2 (bits w 14 2)))

/-- SETS: stride := imm. -/
def execSets (c : Nat) (s : State) : Host.Outcome State Fault Refusal :=
  .next (s.cursorOp c 4 (fun w q _ => curPut q 42 12 (bits w 0 12)))

/-- MVA: a := d[13:0]. -/
def execMva (c : Nat) (s : State) : Host.Outcome State Fault Refusal :=
  .next (s.cursorOp c 5 (fun w q x => curAt q (x.d.getD (pwAReg w) 0)))

/-- MVD: d := a, zero-extended. -/
def execMvd (c : Nat) (s : State) : Host.Outcome State Fault Refusal :=
  .next (s.issue c 4 6 (fun w x => .ok { x with d := x.d.set (pwAReg w) (curAddr (x.cur.getD (pwCur w) 0)) }))

/-- MVC: cursor := acc[55:0]. -/
def execMvc (c : Nat) (s : State) : Host.Outcome State Fault Refusal :=
  .next (s.cursorOp c 7 (fun w _ x => ofSigned 56 (x.src56 (pwAReg w))))

/-- MCV: acc := cursor. -/
def execMcv (c : Nat) (s : State) : Host.Outcome State Fault Refusal :=
  .next (s.issue c 4 8 (fun w x => .ok (x.setReg (pwAReg w) (toSigned 56 (x.cur.getD (pwCur w) 0)))))

/-- SETSH: s := imm. -/
def execSetsh (c : Nat) (s : State) : Host.Outcome State Fault Refusal :=
  .next (s.issue c 4 9 (fun w x => .ok { x with sh := pwAImm w }))

/-! ### CTRL (R316, R323, R324) -/

/-- NOP. -/
def execNop (c : Nat) (s : State) : Host.Outcome State Fault Refusal := .next (s.issue c 5 0 (fun _ x => .ok x))

/-- BRA: to the target where its condition holds. -/
def execBra (c : Nat) (s : State) : Host.Outcome State Fault Refusal :=
  .next (s.issueFlow c 1 (fun w x => .ok (if x.cond (pwCond w) then { x with pc := pwTarget w } else x.advance)))

/-- CALL: the calling address onto the call stack; a 17th entry traps. -/
def execCall (c : Nat) (s : State) : Host.Outcome State Fault Refusal :=
  .next (s.issueFlow c 2 (fun w x =>
    if x.cond (pwCond w) then
      if 16 ≤ x.calls.length then .error trapCallDepth
      else .ok { x with calls := x.pc :: x.calls, pc := pwTarget w }
    else .ok x.advance))

/-- RET: on from the newest call; an empty stack traps. -/
def execRet (c : Nat) (s : State) : Host.Outcome State Fault Refusal :=
  .next (s.issueFlow c 3 (fun w x =>
    if x.cond (pwCond w) then match x.calls with
      | [] => .error trapReturnEmpty
      | a :: as => .ok ({ x with calls := as }.flowFrom a)
    else .ok x.advance))

/-- A loop of `n` passes entered from the LOOP or LOOPR at the PC; a fifth nested loop traps. -/
def Cell.enterLoop (x : Cell) (last n : Nat) : Except Nat Cell :=
  if 4 ≤ x.loops.length then .error trapLoopDepth
  else .ok { x with loops := ⟨(x.pc + 1) % 8192, last, n⟩ :: x.loops, pc := (x.pc + 1) % 8192 }

/-- LOOP: the body to the end address, count times. -/
def execLoop (c : Nat) (s : State) : Host.Outcome State Fault Refusal :=
  .next (s.issueFlow c 4 (fun w x => x.enterLoop (pwTarget w) (pwCount w)))

/-- LOOPR: the count from a data register; 0 skips the body. -/
def execLoopr (c : Nat) (s : State) : Host.Outcome State Fault Refusal :=
  .next (s.issueFlow c 5 (fun w x =>
    let n := x.d.getD (pwAReg w) 0
    if n = 0 then .ok (x.flowFrom (pwTarget w)) else x.enterLoop (pwTarget w) n))

/-- RPT: the next instruction n times. -/
def execRpt (c : Nat) (s : State) : Host.Outcome State Fault Refusal :=
  .next (s.issueFlow c 6 (fun w x => .ok { x.advance with rpt := pwCount w }))

/-- LEAVE: out of the innermost loop to the instruction after its end. -/
def execLeave (c : Nat) (s : State) : Host.Outcome State Fault Refusal :=
  .next (s.issueFlow c 7 (fun w x =>
    if x.cond (pwCond w) then match x.loops with
      | [] => .ok x.advance
      | e :: es => .ok ({ x with loops := es }.flowFrom e.last)
    else .ok x.advance))

/-- HALT: the cell stops at this instruction boundary (R339, R342). -/
def execHalt (c : Nat) (s : State) : Host.Outcome State Fault Refusal :=
  .next (match s.issues c 5 8 with
    | none => s
    | some _ => (s.modCell c Cell.advance).stopCell c 0)

/-- TRAP: traps with its code in the view. -/
def execTrap (c : Nat) (s : State) : Host.Outcome State Fault Refusal :=
  .next (match s.issues c 5 9 with
    | none => s
    | some w => (s.modCell c (fun x => { x with trapCode := pwCode w })).stopCell c trapTrap)

/-- CLRF: V and L clear (R314). -/
def execClrf (c : Nat) (s : State) : Host.Outcome State Fault Refusal :=
  .next (s.issue c 5 10 (fun _ x => .ok { x with fV := false, fL := false }))

end Sys2Proof.Machine
end

