-- ==== Sys2Proof/Machine/CombIo.lean ====
section
/-! DEFINITION. The Comb's streams and programs (10_comb.md): inboxes, result records, DMA, program loads, and the commands of
R340. -/

namespace Sys2Proof.Machine

/-- Cell `c` goes on past the instruction at its PC with its record changed by `f`. -/
def State.pass (s : State) (c : Nat) (f : Cell → Cell) : State := (s.modCell c (fun x => (f x).advance)).unstall c

/-! ### Inboxes (R330) -/

/-- IN: the next ready buffer that the program does not hold; its base into xa_i and ya_i. -/
def execIn (c : Nat) (s : State) : Host.Outcome State Fault Refusal :=
  .next (match s.issues c 6 0 with
    | none => s
    | some w => match (s.cell c).bind? (pwPort w) with
      | none => s
      | some b => match b.ready with
        | [] => s.stall c
        | i :: rest =>
          let base := b.base + i * b.words
          let s := s.modBind c b.port (fun b => { b with ready := rest, held := b.held ++ [i], bufs := b.bufs.set i 3 })
          let put := fun (l : List Nat) (k : Nat) => l.set k (curAt (l.getD k 0) base)
          s.pass c (fun x => { x with cur := put (put x.cur (pwIdx w)) (4 + pwIdx w) }))

/-- FREE: the oldest held buffer of the port goes back; none held traps. -/
def execFree (c : Nat) (s : State) : Host.Outcome State Fault Refusal :=
  .next (match s.issues c 6 1 with
    | none => s
    | some w => match (s.cell c).bind? (pwPort w) with
      | none => s
      | some b => match b.held with
        | [] => s.stopCell c trapBuffer
        | i :: rest => (s.modBind c b.port (fun b => { b with held := rest, bufs := b.bufs.set i 0 })).pass c id)

/-! ### Result records (R334, R335) -/

/-- The header bytes that lie in the buffer held longest on a port. -/
def Cell.heldHeader (x : Cell) (port : Nat) : Option (List Nat) := match x.bind? port with
  | none => none
  | some b => match b.held with
    | [] => none
    | i :: _ =>
      let base := b.base + i * b.words
      some (((List.range 43).map (fun k => leBytes 3 (x.word (b.memory == 1) (base + k)))).flatten)

/-- OPEN: a result record on an outbox port, linked to the buffer held longest on an inbox port, or unlinked. -/
def execOpen (c : Nat) (s : State) : Host.Outcome State Fault Refusal :=
  .next (match s.issues c 6 2 with
    | none => s
    | some w =>
      let x := s.cell c
      if x.rec_.isSome then s.stopCell c trapRecord
      else
        let mask := s.selection ((x.bind? (pwPort w)).map Binding.param |>.getD 0)
        let h := if pwLink w = 15 then none else x.heldHeader (pwLink w)
        s.pass c (fun x => { x with rec_ := some ⟨pwPort w, mask, h.isSome, h.getD [], []⟩ }))

/-- OUT: one 24-bit word onto the open record; none open, or a 4,097th word, traps. -/
def execOut (c : Nat) (s : State) : Host.Outcome State Fault Refusal :=
  .next (match s.issues c 6 3 with
    | none => s
    | some w => match (s.cell c).rec_ with
      | none => s.stopCell c trapRecord
      | some r =>
        if 4096 ≤ r.words.length then s.stopCell c trapRecord
        else
          let (v, l) := (s.cell c).src24 (pwAReg w)
          s.pass c (fun x => { x with rec_ := some { r with words := r.words ++ [ofSigned 24 v] } }.flagL l))

/-- CLOSE: the record is complete and waits for the result path, the cell with it; none open traps. -/
def execClose (c : Nat) (s : State) : Host.Outcome State Fault Refusal :=
  .next (match s.issues c 6 4 with
    | none => s
    | some _ => match (s.cell c).rec_ with
      | none => s.stopCell c trapRecord
      | some _ => ((s.closeRecord c false).modCell c (fun x => { x.advance with inClose := true })).stall c)

/-- The RESULTS streams of an outbox (R396). -/
def State.resultStreams (s : State) (c port : Nat) : List (Nat × Strm) :=
  (s.streamsOf kResults).filter (fun pt => pt.2.param.getD 0 0 = c && pt.2.param.getD 1 0 = port)

/-- RESULT_PATH_TAKEN (R334, R335, R474): the super's path takes cell `c`'s oldest closed record: a leaf, handed to every
stream of its outbox, or discarded and counted where there is none; a CLOSE that waited for it is done. -/
def execResultPathTaken (c : Nat) (s : State) : Host.Outcome State Fault Refusal :=
  .next (
    if s.up ∧ c < 192 then match (s.cell c).closed with
      | [] => s
      | (port, seq, bs) :: rest =>
        let s := s.modCell c (fun x => { x with closed := rest })
        let subs := s.resultStreams c port
        let s := if subs.isEmpty then s.count (CMB.SUPn_RESULT.DROPPED (c / 24)) (CMB.SUPn_RESULT.SAT (c / 24)) 1
          else
            let digest := sha256 bs
            let (ref, s) := s.addLeaf 4 digest
            let item := bs ++ digest ++ leBytes 8 ref
            let body := itemPrefix 6 c seq item.length ++ item
            subs.foldl (fun s pt => (s.offer pt.1 pt.2.id ⟨6, seq, .bytes body, body.length⟩ seq seq 0).1) s
        if rest.isEmpty && (s.cell c).inClose then (s.modCell c (fun x => { x with inClose := false })).unstall c else s
    else s)

/-- EVENT: CMB_USER with the cell and its code (R348). -/
def execEvent (c : Nat) (s : State) : Host.Outcome State Fault Refusal :=
  .next (match s.issues c 6 7 with
    | none => s
    | some w => (s.event 0x0231 [c, pwCode w]).pass c id)

/-! ### DMA (R330 to R333) -/

/-- DMA: the descriptor at the address of xa_i is issued; with four outstanding the cell waits. -/
def execDma (c : Nat) (s : State) : Host.Outcome State Fault Refusal :=
  .next (match s.issues c 6 5 with
    | none => s
    | some w =>
      let x := s.cell c
      if 4 ≤ x.dma.length then s.stall c
      else
        let a := curAddr (x.cur.getD (pwIdx w) 0)
        let d : Dma := { desc := a, words := (List.range 8).map (fun k => x.word false (a + k)), held := false }
        let t := if bit (d.w 1) 20 then 1 - s.curTable else s.curTable
        let i := d.frame
        let holds : Bool := d.kind == 1 && (match (s.table t)[i]? with
          | some f => f.state == 1 || f.state == 2
          | none => false)
        let s := if holds then s.addHolder t i (.dma c) else s
        let s := s.pass c (fun x => { x with
          dma := x.dma ++ [{ d with held := holds, table := t }]
          x := SMap.set 0 x.x ((a + 5) % 16384) 0 })
        (s.dmaBegin c).combNext)

/-- DWAIT: goes on once the oldest outstanding request is complete. -/
def execDwait (c : Nat) (s : State) : Host.Outcome State Fault Refusal :=
  .next (match s.issues c 6 6 with
    | none => s
    | some _ => if (s.cell c).dma.isEmpty then s.pass c id else s.stall c)

/-- What completing request `d` writes: status, items or bytes copied, and the cell with the copy (R331). -/
def State.dmaCopy (s : State) (c : Nat) (d : Dma) (ecc : Bool) : Nat × Nat × Cell :=
  let x := s.cell c
  let dest := d.w 4
  let n := d.w 3
  if d.kind = 1 then
    match (s.table d.table)[d.frame]? with
    | none => (2, 0, x)
    | some f =>
      if !d.held then (if f.state = 4 ∨ f.state = 5 then (3, 0, x) else (2, 0, x))
      else if !d.frameFits f then (4, 0, x)
      else
        let (ws, fl) := dataWords f.format (unpackWords f.format (s.frameData f) (d.w 2) n)
        let head := (packBytes (slice (deliveredHeader f.header (ecc || f.scrubbed)) 0 129)).take 43
        let head := head ++ List.replicate (48 - head.length) 0
        (1, n, x.place d.mem dest (head ++ ws) fl (dest + 48))
  else if !s.archiveFits d then (4, 0, x)
  else
    let base := s.ringBase
    let heads := if ecc then (s.arc.recs.map (fun r => base + r.off + 5)) else []
    let bs := (List.range n).map (fun k =>
      let a := d.addr + k
      Memory.byte 0 s.arc.mem a ||| (if heads.contains a then 4 else 0))
    (1, n, x.place d.mem dest (packBytes bs) [] 0)

/-- DMA_COMPLETE (R330, R331, R342): cell `c`'s oldest request completes once its reads are made; one for an OPEN frame waits until it is
CLOSED. `err` is what the accesses to on-die memories showed (R345, R537). A descriptor of no kind of R331 ends with a status the spec
does not state: free (notes/assumptions/8.md). -/
def execDmaComplete (c err : Nat) (s : State) : Host.Outcome State Fault Refusal :=
  .next (
    if s.up ∧ c < 192 then
      let s := (s.cellErrors err).dmaBegin c
      match (s.cell c).dma with
      | [] => s
      | d :: rest =>
        if !d.begun || s.dmaReading c then s
        else
          let (fv, s) := if d.kind = 1 ∨ d.kind = 2 then (0, s) else s.free 22 24
          let (st, n, x) := if d.kind = 1 ∨ d.kind = 2 then s.dmaCopy c d (s.readEcc (tagDma c)) else (fv, 0, s.cell c)
          let s := s.modCell c (fun _ => { x with
            dma := rest
            x := SMap.set 0 (SMap.set 0 x.x ((d.desc + 5) % 16384) st) ((d.desc + 6) % 16384) n })
          let s := s.endReads (tagDma c)
          let s := if d.held then s.dropHolder d.table d.frame (.dma c) else s
          let s := if d.kind = 2 then
              (s.modArc (fun a => { a with recs := a.recs.map (fun r => { r with claims := r.claims.erase (.dma c) }) })).sweepArc
            else s
          let s := (s.dmaBegin c).combNext
          let s := if s.waitsAt c 6 then s.pass c id else if s.waitsAt c 5 then s.unstall c else s
          match (s.cell c).stop with
          | some cause => if (s.cell c).dma.isEmpty then s.finishStop c cause else s
          | none => s
    else s)

/-! ### Programs (R336, R337, R340) -/

/-- Binding of a program object at byte offset `o` (R337). -/
def bindingAt (bs : List Nat) (o : Nat) : Binding :=
  let n := bs.getD (o + 3) 0
  { port := bs.getD o 0, kind := bs.getD (o + 1) 0, memory := bs.getD (o + 2) 0, buffers := n, base := le bs (o + 4) 2,
    words := le bs (o + 6) 2, source := bs.getD (o + 8) 0, group := bs.getD (o + 9) 0, param := le bs (o + 12) 4,
    bufs := List.replicate n 0 }

/-- Counts of a program object: bindings, P, X and Y words. -/
def progCounts (bs : List Nat) : Nat × Nat × Nat × Nat := (le bs 2 2, le bs 0xC 2, le bs 0x10 2, le bs 0x12 2)

/-- Bindings, and the P, X and Y words of a program object (R336). -/
def progBinds (bs : List Nat) : List Binding := (List.range (progCounts bs).1).map (fun i => bindingAt bs (32 + 16 * i))
@[inherit_doc progBinds] def progP (bs : List Nat) : List Nat :=
  (List.range (progCounts bs).2.1).map (fun i => le bs (32 + 16 * (progCounts bs).1 + 6 * i) 6)
@[inherit_doc progBinds] def progXY (bs : List Nat) : List Nat × List Nat :=
  let (b, p, x, y) := progCounts bs
  let o := 32 + 16 * b + 6 * p
  ((List.range x).map (fun i => le bs (o + 3 * i) 3), (List.range y).map (fun i => le bs (o + 3 * x + 3 * i) 3))

/-- A cell with a program loaded: every register, flag and stack clear, every cursor LINEAR over the whole memory, the PC at
the entry (R315, R340); records that wait for the result path stay. -/
def loadedCell (old : Cell) (bs : List Nat) : Cell :=
  let (xs, ys) := progXY bs
  { pc := le bs 0xE 2, cur := List.replicate 8 curReset, x := putWords [] 0 xs, y := putWords [] 0 ys, p := progP bs,
    binds := progBinds bs, programId := le bs 8 4, closed := old.closed }

/-- TAP group records of super `m` that no loaded cell has a binding of go (R327, R348). -/
def State.trimGroups (s : State) (m : Nat) : State :=
  let used := (((List.range 24).map (· + 24 * m)).map (fun c =>
    ((s.cell c).binds.filter (fun b => b.kind = 1)).map Binding.group)).flatten
  { s with cmb := { s.cmb with groups := s.cmb.groups.filter (fun e => e.super != m || used.contains e.group) } }

/-- The program object that number `n` names in the store. -/
def State.prog? (s : State) (n : Nat) : Option (List Nat) := s.cmb.progs[n]?

/-- The program object that cell `c` loads as number `n`: a reserved cell's is of the MAKER section (R344). -/
def State.cellProg? (s : State) (c n : Nat) : Option (List Nat) := if c % 24 = 23 then s.cmb.maker[n]? else s.prog? n

/-- LOAD begins (R340). -/
def State.cellLoad (s : State) (c n : Nat) : State :=
  (s.modCell c (fun x => { x with loading := some n })).setCellState c cellLoading

/-- A load is complete: the cell is LOADED with program `n`, whose object is `bs`. -/
def State.finishLoad (s : State) (c n : Nat) (bs : List Nat) : State :=
  let s := s.modCell c (fun x => loadedCell x bs)
  (((s.setCellState c cellLoaded).wr (CMB.CELLc.LOADED c) n).wr (CMB.CELLc.TRAP c) 0).trimGroups (c / 24)

/-- CELL_LOAD_COMPLETE (R340). -/
def execCellLoadComplete (c : Nat) (s : State) : Host.Outcome State Fault Refusal :=
  .next (
    if c < 192 ∧ s.live = true ∧ s.cellState c = cellLoading then match (s.cell c).loading with
      | none => s
      | some n => match s.cellProg? c n with
        | none => s
        | some bs => s.finishLoad c n bs
    else s)

/-- RUN (R340): starts or resumes; the bindings are active, a STAMPS binding with the backlog held (R173). -/
def State.cellRun (s : State) (c : Nat) : State :=
  let s := (s.modCell c (fun x => { x with started := true })).setCellState c (if c % 24 = 23 then cellReserved else cellRunning)
  ((s.cell c).binds.filter (fun b => b.kind = 3)).foldl (fun s b =>
    s.takeBacklog b.source (fun s t => s.modBind c b.port (fun b => b.takeStamp t s.ticks))) s

/-- UNLOAD (R340). -/
def State.cellUnload (s : State) (c : Nat) : State :=
  let s := s.modCell c (fun x => { closed := x.closed })
  (((s.setCellState c cellEmpty).wr (CMB.CELLc.LOADED c) 0xFF).wr (CMB.CELLc.TRAP c) 0).trimGroups (c / 24)

/-- Every user cell that executes is halted (R346, R347). -/
def State.haltCells (s : State) : State :=
  (List.range 192).foldl (fun s c =>
    if c % 24 != 23 && s.cellExecutes c && (s.cell c).stop.isNone then s.stopCell c 0 else s) s

/-- Every user cell is EMPTY, LOADED, HALTED or TRAPPED (R346). -/
def State.cellsStill (s : State) : Bool :=
  (List.range 192).all (fun c => c % 24 == 23 || !(s.cellExecutes c || s.cellState c == cellLoading))

/-! ### Commands (R340, R350) -/

/-- Why a command to cell `c` is not accepted now: a cause of `CMB.REFUSED`, or 0. RUN of an empty cell is NOT_LOADED, of a
trapped one TRAPPED, other states BUSY. A HALT of a cell that is loaded and not running has no cause of its own: 15 stands
for it here. -/
def State.cellRefusal (s : State) (c cmd : Nat) : Nat :=
  let st := s.cellState c
  let ok := match cmd with
    | 1 => [cellEmpty, cellLoaded, cellHalted, cellTrapped].contains st
    | 2 => [cellLoaded, cellHalted].contains st
    | 3 => [cellRunning, cellWaiting, cellReserved].contains st
    | 4 => [cellLoaded, cellHalted, cellTrapped].contains st
    | _ => true
  if ok then 0
  else if !s.up then 7
  else if st = cellEmpty then 4
  else if st = cellTrapped then 5
  else if cmd = 3 ∧ (st = cellLoaded ∨ st = cellHalted) then 15 else 3

/-- A command to cell `c` carried out (R340). -/
def State.cellCommand (s : State) (c cmd prog : Nat) : State := match cmd with
  | 1 => s.cellLoad c prog
  | 2 => s.cellRun c
  | 3 => s.stopCell c 0
  | 4 => s.cellUnload c
  | _ => s

/-- Cells a word written to `CMB.CTL` names. -/
def groupCells (cells super : Nat) : List Nat := (onesOf 23 cells).map (· + 24 * super)

/-- A refused command recorded (R350); a cause the spec does not state is free (notes/assumptions/8.md). -/
def State.cmbRefused (s : State) (cause c : Nat) : State :=
  let (fv, s) := if cause = 15 then s.free 21 4 else (cause, s)
  (s.wr CMB.REFUSED.CAUSE fv).wr CMB.REFUSED.CELL c

/-- A parameter word of a user cell written whole between two instructions (R341). -/
def State.paramWrite (s : State) (c w v : Nat) : State :=
  s.modCell c (fun x => { x with x := SMap.set 0 x.x w (v % 16777216) })

end Sys2Proof.Machine
end

