-- ==== Sys2Proof/Machine/Pro.lean ====
section
/-! DEFINITION. The proof display (14_proof_display.md): composition of the planes, frame timing, TE, commits, overlay, and the
colours that leave the lanes. -/

namespace Sys2Proof.Machine

/-- The display record changed. -/
def State.modPro (s : State) (f : Pro → Pro) : State := { s with pro := f s.pro }

/-- DEVICE section of the image in force. -/
def State.panel (s : State) : DeviceSec := (s.image.map Image.device).getD {}

/-- Command mode. -/
def State.proCommand (s : State) : Bool := s.on PRO.STATUS.COMMAND

/-! ### Composition (R444 to R449) -/

/-- The newest map snapshot of channel `n`. -/
def State.mapArea (s : State) (n : Nat) : Option SnapArea := (s.ach n).mapSnap.area

/-- Count of cell (column, row) in a map record: the cells are its last 2,097,152 bytes, column by column (R301). -/
def mapCell (bytes : List Nat) (c r : Nat) : Nat := le bytes (bytes.length - 2097152 + 4 * (512 * c + r)) 4

/-- The intensity curve and the colour table in force, where the image has them. -/
def State.proCurve (s : State) : Option (List Nat) := s.image.bind (fun im => im.table 5 (s.proF PRO.CFG.CURVE))
@[inherit_doc State.proCurve] def State.proColours (s : State) : Option (List Nat) :=
  s.image.bind (fun im => im.table 7 (s.proF PRO.CFG.COLOURS))

/-- Luma that channel `n` gives pixel (x, y), none where it covers it with no cell (R445). -/
def State.cellLuma (s : State) (curve : List Nat) (n x y : Nat) : Option Nat :=
  let x0 := s.proF (PRO.CHn_PLACE.X n)
  let y0 := s.proF (PRO.CHn_PLACE.Y n)
  let xs := s.proF (PRO.CHn_PLACE.XS n) + 1
  let ys := s.proF (PRO.CHn_PLACE.YS n) + 1
  match s.mapArea n with
  | none => none
  | some a =>
    if s.placed n && x0 ≤ x && x < x0 + 1024 * xs && y0 ≤ y && y < y0 + 512 * ys then
      let v := mapCell a.bytes ((x - x0) / xs) (511 - (y - y0) / ys)
      some (le curve (4 + 2 * decayIdx v) 2)
    else none

/-- Luma and channel of a pixel: the highest luma, ties to the lower channel (R446). -/
def State.pixelOf (s : State) (curve : List Nat) (x y : Nat) : Nat × Option Nat :=
  (List.range 8).foldl (fun (acc : Nat × Option Nat) n => match s.cellLuma curve n x y with
    | none => acc
    | some v => if acc.2.isNone || acc.1 < v then (v, some n) else acc) (0, none)

/-- A 10-bit value rounded half-even to 8 bits. -/
def to8 (v : Nat) : Nat := min 255 (roundShiftEven (v : Int) 2).toNat

/-- The planes of a composition at the active size (R444 to R446). -/
def State.compose (s : State) (curve colours : List Nat) : Planes :=
  let w := s.panel.width
  let h := s.panel.height
  let store := fun (v : Nat) => if s.proF PRO.CFG.DEPTH = 0 then to8 v else v
  let px := fun (x y : Nat) => s.pixelOf curve x y
  let bw := if s.proF PRO.CFG.SUBSAMPLE = 2 then 1 else 2
  let bh := if s.proF PRO.CFG.SUBSAMPLE = 0 then 2 else 1
  -- the pixel of a block with the highest luma, the first in raster order of equals
  let best := fun (bx by_ : Nat) =>
    let cells := ((List.range bh).map (fun j => (List.range bw).map (fun i => (bx * bw + i, by_ * bh + j)))).flatten
    let cells := cells.filter (fun p => decide (p.1 < w) && decide (p.2 < h))
    (cells.foldl (fun (acc : Option (Nat × Option Nat)) p =>
      let v := px p.1 p.2
      match acc with
      | some a => if a.1 < v.1 then some v else acc
      | none => some v) none).getD (0, none)
  let chroma := fun (o : Nat) =>
    ((List.range (ceilDiv h bh)).map (fun j => (List.range (ceilDiv w bw)).map (fun i => match (best i j).2 with
      | some n => store (le colours (4 + 4 * n + o) 2)
      | none => store 512))).flatten
  { depth := s.proF PRO.CFG.DEPTH
    sub := s.proF PRO.CFG.SUBSAMPLE
    luma := ((List.range h).map (fun y => (List.range w).map (fun x => store (px x y).1))).flatten
    cb := chroma 0
    cr := chroma 2
    shown := (List.range 8).map (fun n => if s.placed n then (s.mapArea n).map SnapArea.frame else none) }

/-- A new snapshot of a placed channel waits for the compositor, or a commit changed the picture (R449). -/
def State.proCause (s : State) : Bool :=
  s.pro.cause || (List.range 8).any (fun n => s.placed n && (match s.mapArea n with | some a => a.compositor | none => false))

/-- The display is on: from its init list on, short of DARK and the safe state. -/
def State.proOn (s : State) : Bool := s.up && s.proF PRO.CFG.EN != 0 && 1 ≤ s.rd PRO.STATUS.STATE && s.rd PRO.STATUS.STATE ≤ 4

/-- COMPOSITION_START (R449, R457, R512): the picture is that of the newest snapshots and of the settings in force now; the records of the
placed channels are read in class Q4. -/
def execCompositionStart (s : State) : Host.Outcome State Fault Refusal :=
  .next (match s.proCurve, s.proColours with
    | some cv, some cs =>
      if s.proOn = true ∧ s.pro.composing = none ∧ s.proCause = true then
        let pl := s.compose cv cs
        let s := (List.range 8).foldl (fun s n => match pl.shown.getD n none, s.mapArea n with
          | some _, some a => s.request 5 (stripesFor a.bytes.length) s.accBase true
          | _, _ => s) s
        (s.modPro (fun p => { p with composing := some pl, cause := false, ready := false })).displayAsks
      else s
    | _, _ => s)

/-! ### Frames (R450 to R453) -/

/-- MIN and MAX in ticks, of the fields in force. -/
def State.proMin (s : State) : Nat := ticksOfUs (100 * s.proF PRO.PERIOD.MIN)
@[inherit_doc State.proMin] def State.proMax (s : State) : Nat := ticksOfUs (100 * s.proF PRO.PERIOD.MAX)

/-- The lanes begin to carry a frame of the front set, read through the DISPLAY port (R442, R444). -/
def State.frameOut (s : State) : State :=
  (s.modPro (fun p => { p with frame := true, lanes := if s.proCommand then .memory else .video })).displayAsks

/-- DCS command list `i` of the panel is sent, and the lanes are left in `l` (R442, R443, R456): 0 init, 1 sleep-in, 2 wake. -/
def State.sendList (s : State) (i : Nat) (l : Lanes) : State :=
  s.modPro (fun p => { p with sentList := s.panel.lists.getD i [], lanes := l })

/-- The display starts with command list `i`, and its next frame is new (R456). -/
def State.proInit (s : State) (i : Nat) : State :=
  ((s.wr PRO.STATUS.STATE 1).sendList i .lp11).modPro (fun p => { p with cause := true, ready := false, repeats := 0 })

/-- A new frame starts: the back set is the front set, counted with its flip time (R450, R452). -/
def State.flip (s : State) : State :=
  let t := s.tb
  let s := (s.modPro (fun p => { p with front := p.back, ready := false, startAt := s.now, repeats := 0, flip := t })).frameOut
  let s := (s.wr PRO.FLIP_COUNT.COUNT (s.rd PRO.FLIP_COUNT.COUNT + 1)).wr PRO.STATUS.STATE 2
  (List.range 8).foldl (fun s n => match s.pro.front.shown.getD n none with
    | some k => (s.wr (PRO.CHn_SHOWN.FRAME n) k).put (PRO.CHn_SHOWN.VALID n) true
    | none => s.put (PRO.CHn_SHOWN.VALID n) false) s

/-- A repeat starts at this moment. -/
def State.repeatStarts (s : State) : Bool := s.pro.frame && s.pro.startAt == s.now && s.pro.repeats != 0

/-- COMPOSITION_COMPLETE (R444, R449): the back set is written, which takes the DRAM out of self-refresh; each record it used is
released. A repeat that starts at this moment becomes the new frame (R457). -/
def execCompositionComplete (s : State) : Host.Outcome State Fault Refusal :=
  .next (
    if s.proOn && s.dramUp then match s.pro.composing with
      | some pl =>
        let s := s.displayAsks.modPro (fun p => { p with composing := none, back := pl, ready := true, readyAt := s.now })
        let s := if s.repeatStarts then s.flip else s
        (List.range 8).foldl (fun s n => match pl.shown.getD n none, s.mapArea n with
          | some k, some a => if a.frame = k && a.compositor then s.snapTaken n 1 none else s
          | _, _ => s) s
      | none => s
    else s)

/-- The shortest period has passed since the last start; the first frame of all needs none. -/
def State.minPassed (s : State) : Bool := s.rd PRO.STATUS.STATE == 1 || s.pro.startAt + s.proMin ≤ s.now

/-- DISPLAY_FRAME_START (R450, R451, R453, R454): a new frame, or a repeat once MAX, or the static floor, has passed. `lines` is
the number of lines of the frame before that were sent as repeats of the line above. -/
def execDisplayFrameStart (lines : Nat) (s : State) : Host.Outcome State Fault Refusal :=
  .next (
    if s.proOn then
      let s := (List.range lines).foldl (fun s _ => (s.count PRO.UNDERRUN.COUNT PRO.UNDERRUN.SAT 1).event 0x0270 []) s
      if s.pro.ready && s.minPassed && !(s.proCommand && s.on PRO.STATUS.TE_OK) then s.flip
      else
        let limit := if s.rd PRO.STATUS.STATE = 4 then ticksOfUs (100 * s.proF PRO.STATIC.FLOOR) else s.proMax
        if !s.proCommand && !s.pro.ready && s.rd PRO.STATUS.STATE != 1 && s.pro.startAt + limit ≤ s.now then
          let n := s.pro.repeats + 1
          let s := (s.modPro (fun p => { p with startAt := s.now, repeats := n })).frameOut
          if s.proF PRO.STATIC.FRAMES ≤ n then s.wr PRO.STATUS.STATE 4 else s
        else s
    else s)

/-- TE_EDGE (R453): the period is judged; with TE good, a transfer that is due starts. -/
def execTeEdge (s : State) : Host.Outcome State Fault Refusal :=
  .next (
    if s.proOn = true ∧ s.proCommand = true then
      let d := s.now - s.pro.teAt
      let good := s.pro.teAt != 0 && s.proMin ≤ d && d ≤ s.proMax
      let s := s.modPro (fun p => { p with teAt := s.now, teGood := if good then min 4 (p.teGood + 1) else 0 })
      let s := if s.pro.teGood = 4 ∧ ¬ s.on PRO.STATUS.TE_OK then (s.put PRO.STATUS.TE_OK true).event 0x0272 [] else s
      if s.on PRO.STATUS.TE_OK && s.pro.ready && !s.pro.frame && s.minPassed then s.flip else s
    else s)

/-- PRO_TE_LOST (R453): no edge for 2 × MAX. -/
def execProTeLost (s : State) : Host.Outcome State Fault Refusal :=
  .next (
    if s.proOn = true ∧ s.proCommand = true ∧ s.on PRO.STATUS.TE_OK = true ∧ s.pro.teAt + 2 * s.proMax ≤ s.now then
      ((s.put PRO.STATUS.TE_OK false).modPro (fun p => { p with teGood := 0 })).event 0x0271 []
    else s)

/-- The flip time latched (R452). -/
def State.flipLatch (s : State) : State :=
  let t := s.pro.flip
  ((s.wr PRO.FLIP_TB_LO.TICKS (t / 65536 % 2 ^ 32)).wr PRO.FLIP_TB_HI.TICKS (t / 65536 / 2 ^ 32)).wr PRO.FLIP_FRAC.FRAC (t % 65536)

/-! ### Commits (R455, R456, R512) -/

/-- The RWS fields of the block that change the picture, and all of them. -/
def proPicture : List Fld :=
  [PRO.CFG.DEPTH, PRO.CFG.SUBSAMPLE, PRO.CFG.CURVE, PRO.CFG.COLOURS, PRO.OVL.SHOW, PRO.OVL.EN]
  ++ ((List.range 3).map (fun k => [PRO.OVL_PALk.R k, PRO.OVL_PALk.G k, PRO.OVL_PALk.B k])).flatten
  ++ ((List.range 8).map (fun n => [PRO.CHn_PLACE.X n, PRO.CHn_PLACE.Y n, PRO.CHn_PLACE.XS n, PRO.CHn_PLACE.YS n,
    PRO.CHn_PLACE.EN n])).flatten
@[inherit_doc proPicture] def proShadowed : List Fld :=
  [PRO.CFG.EN, PRO.PERIOD.MIN, PRO.PERIOD.MAX, PRO.STATIC.FRAMES, PRO.STATIC.FLOOR] ++ proPicture

/-- Whether the tables in force are absent from the image shown (R512). -/
def State.showTables (s : State) : State := s.put PRO.STATUS.TABLE_ABSENT (s.proCurve.isNone || s.proColours.isNone)

/-- A field's value as the last commit took it (R14). -/
def State.proC (s : State) (f : Fld) : Nat := SMap.get 0 s.pro.committed f.key ^^^ f.reset

/-- A commit takes a field's value as it stands. -/
def State.proTake (s : State) (f : Fld) : State :=
  s.modPro (fun p => { p with committed := SMap.set 0 p.committed f.key (s.rd f ^^^ f.reset) })

/-- The committed fields take effect together; enabling starts the display with its init list, disabling ends it; what
is committed in DARK acts at the wake (R455, R456). -/
def State.proApply (s : State) : State :=
  let was := s.proF PRO.CFG.EN
  let changed := proPicture.any (fun f => s.proF f != s.proC f)
  let s := s.modPro (fun p => { p with inForce := p.committed })
  let s := (s.put PRO.CTL.PENDING false).showTables
  let s := if changed then s.modPro (fun p => { p with cause := true }) else s
  let en := s.proF PRO.CFG.EN
  if s.rd PRO.STATUS.STATE = 5 then s
  else if s.up = true ∧ was = 0 ∧ en = 1 then
    s.proInit 0
  else if was = 1 ∧ en = 0 ∧ s.up = true then
    (((s.wr PRO.STATUS.STATE 0).put PRO.STATUS.TE_OK false).sendList 1 .lp11).modPro (fun p => { p with composing := none, ready := false, teGood := 0 })
  else s

/-- A commit takes effect at once: lanes idle in command mode, or no frame runs with the display off, in DARK or safe (R455). -/
def State.proAtOnce (s : State) : Bool :=
  let st := s.rd PRO.STATUS.STATE
  !s.pro.frame && ((s.proCommand && st == 3) || st == 0 || st == 5 || st == 6)

/-- PRO_COMMIT_APPLY (R455): the active lines of the frame in progress end and its vertical blanking, or the idle lanes of
command mode, begin; committed fields take effect. -/
def execProCommitApply (s : State) : Host.Outcome State Fault Refusal :=
  .next (
    if s.live then
      let s := s.modPro (fun p => { p with frame := false, lanes := if p.lanes = .ulps then .ulps else .lp11 })
      let s := if s.proCommand && s.rd PRO.STATUS.STATE == 2 then s.wr PRO.STATUS.STATE 3 else s
      if s.on PRO.CTL.PENDING then s.proApply else s
    else s)

/-! ### What the lanes carry (R447, R448) -/

/-- One colour of the BT.709 matrix at full range in 10 bits: `y + (kb (cb - 512) + kr (cr - 512)) / 10000`, half-even, clipped. -/
def matrix (y cb cr : Nat) (kb kr : Int) : Nat :=
  (clampI 0 1023 (divHalfEven ((y : Int) * 10000 + kb * ((cb : Int) - 512) + kr * ((cr : Int) - 512)) 10000)).toNat

/-- R, G and B in 10 bits of luma and chroma. -/
def toRgb (y cb cr : Nat) : Nat × Nat × Nat :=
  (matrix y cb cr 0 15748, matrix y cb cr (-1873) (-4681), matrix y cb cr 18556 0)

/-- Overlay buffer 0 (A) or 1 (B). -/
def State.overlay (s : State) (b : Nat) : Memory := if b = 0 then s.pro.ovlA else s.pro.ovlB

/-- Overlay value of pixel (x, y) of the buffer shown (R566). -/
def State.overlayAt (s : State) (x y : Nat) : Nat :=
  let n := y * s.panel.width + x
  Memory.byte 0 (s.overlay (s.proF PRO.OVL.SHOW)) (n / 4) / 4 ^ (n % 4) % 4

/-- The colour of pixel (x, y) of the front set as it leaves the lanes, 10 bits or 8 for RGB888. -/
def State.lanePixel (s : State) (x y : Nat) : Nat × Nat × Nat :=
  let w := s.panel.width
  let deep := fun (v : Nat) => if s.pro.front.depth = 0 then v * 4 else v
  let o := if s.proF PRO.OVL.EN = 1 then s.overlayAt x y else 0
  let bw := if s.pro.front.sub = 2 then 1 else 2
  let bh := if s.pro.front.sub = 0 then 2 else 1
  let c := y / bh * ceilDiv w bw + x / bw
  let (r, g, b) := if o = 0 then
      toRgb (deep (s.pro.front.luma.getD (y * w + x) 0)) (deep (s.pro.front.cb.getD c 0)) (deep (s.pro.front.cr.getD c 0))
    else (s.proF (PRO.OVL_PALk.R (o - 1)), s.proF (PRO.OVL_PALk.G (o - 1)), s.proF (PRO.OVL_PALk.B (o - 1)))
  if s.panel.pixel = 0 then (to8 r, to8 g, to8 b) else (r, g, b)

/-- One packet of the lanes: a DCS write of a command list, by data type and bytes; a line of pixels in burst mode, by data type; the lines
of a memory write in command mode, the first by write_memory_start and the others by write_memory_continue (R442). -/
inductive LanePacket where
  | dcs (type : Nat) (bytes : List Nat)
  | stream (type : Nat) (pixels : List (Nat × Nat × Nat))
  | writeMemoryStart (pixels : List (Nat × Nat × Nat))
  | writeMemoryContinue (pixels : List (Nat × Nat × Nat))
  deriving DecidableEq, Repr

/-- What the lanes carry now: in the safe state LP-11 (R456). -/
def State.lanesCarry (s : State) : Lanes := if s.rd PRO.STATUS.STATE = 6 then .lp11 else s.pro.lanes

/-- The packet of active line `y` of the frame on the lanes, none where they carry no frame (R442). -/
def State.lineOut (s : State) (y : Nat) : Option LanePacket :=
  let px := (List.range s.panel.width).map (fun x => s.lanePixel x y)
  if s.panel.height ≤ y then none
  else match s.lanesCarry with
    | .video => some (.stream (if s.panel.pixel = 0 then 0x3E else 0x0D) px)
    | .memory => some (if y = 0 then .writeMemoryStart px else .writeMemoryContinue px)
    | _ => none

/-- The packets of a DCS command list: its entries of type, n, delay and n bytes (R442, R443). -/
def listOut : Nat → List Nat → List LanePacket
  | 0, _ => []
  | f + 1, bs => if bs.isEmpty then [] else
    let n := bs.getD 1 0
    .dcs (bs.getD 0 0) ((bs.drop 4).take n) :: listOut f (bs.drop (4 + n))

/-- Bytes of an overlay buffer. -/
def State.overlayBytes (s : State) : Nat := ceilDiv (s.panel.width * s.panel.height) 4

/-- A byte of the overlay buffer being written (R447); the write is a request of the HOST port (R355), which the caller makes. -/
def State.overlaySet (s : State) (a v : Nat) : State :=
  if s.rd PRO.OVL.WRITE = 0 then s.modPro (fun p => { p with ovlA := Memory.setByte 0 p.ovlA a v })
  else s.modPro (fun p => { p with ovlB := Memory.setByte 0 p.ovlB a v })

/-! ### Register rules of the block -/

/-- Ranges, relations and named tables of the display fields (R445, R460). -/
def PRO.valueBad (s : State) (n : Fld → Nat) (f : Fld) : Bool :=
  let k := (f.addr - 0x5840) / 8
  if f = PRO.CFG.SUBSAMPLE then n f = 3
  else if f = PRO.CFG.CURVE then (s.image.bind (fun im => im.table 5 (n f))).isNone
  else if f = PRO.CFG.COLOURS then (s.image.bind (fun im => im.table 7 (n f))).isNone
  else if f = PRO.PERIOD.MIN ∨ f = PRO.PERIOD.MAX then
    n PRO.PERIOD.MIN < 40 || n PRO.PERIOD.MIN < s.panel.minPeriod || n PRO.PERIOD.MAX < n PRO.PERIOD.MIN || 10000 < n PRO.PERIOD.MAX
      || s.rd PRO.STATIC.FLOOR < n PRO.PERIOD.MAX
  else if f = PRO.STATIC.FRAMES then n f = 0
  else if f = PRO.STATIC.FLOOR then n f < s.rd PRO.PERIOD.MAX || 10000 < n f
  else if 0x5840 ≤ f.addr ∧ f.addr < 0x5880 then
    n (PRO.CHn_PLACE.EN k) = 1 &&
      (s.panel.width < n (PRO.CHn_PLACE.X k) + 1024 * (n (PRO.CHn_PLACE.XS k) + 1)
        || s.panel.height < n (PRO.CHn_PLACE.Y k) + 512 * (n (PRO.CHn_PLACE.YS k) + 1))
  else false

/-- What a write to the block does beyond storing (R455). -/
def PRO.onWrite (f : Fld) (v : Nat) (s : State) : State :=
  if f = PRO.CTL.COMMIT ∧ v = 1 then
    let s := (proShadowed.foldl State.proTake s).put PRO.CTL.PENDING true
    if s.proAtOnce then s.proApply else s
  else s

end Sys2Proof.Machine
end

