-- ==== Sys2Proof/Machine/Waggle.lean ====
section
/-! DEFINITION. Host ports and Waggle (12_host_ports_and_waggle.md): frames and packets as a port takes them, sessions,
sequence and credit, streams and their claims, absence and resumption, leases, links. -/

namespace Sys2Proof.Machine

/-! ### Ports (R381 to R383, R402) -/

/-- Port `p` is present in its group's mode. -/
def State.portPresent (s : State) (p : Nat) : Bool := p < 64 && !(s.on (HPT.Gg_CFG.MODE (p / 4)) && p % 4 != 0)

/-- Port `p` takes and sends packets: link up, not closed by policy. -/
def State.portRuns (s : State) (p : Nat) : Bool :=
  s.portPresent p && s.on (HPT.Pp_STATUS.LINK p) && s.on (HPT.Pp_CTL.EN p) && !s.on (HPT.Pp_STATUS.CLOSED p)

/-- The policy of port `p`; the default where no image gives one (R411, R499). -/
def State.policy (s : State) (p : Nat) : Policy := match s.image with
  | some im => im.policies.getD p {}
  | none => {}

/-- MTU of port `p` for a session that opens now (R388, R417). -/
def State.mtuNew (s : State) (p : Nat) : Nat := if s.on (HPT.Pp_CTL.JUMBO p) then 9000 else 1500

/-- MTU of port `p`: of the session in being, else the one a session would open with (R388, R417). -/
def State.mtu (s : State) (p : Nat) : Nat :=
  if s.session p = sesIdle then s.mtuNew p else if (s.port p).jumbo then 9000 else 1500

/-- The session state of port `p` becomes `st`, event WAG_SESSION (R389, R415). -/
def State.setSession (s : State) (p st : Nat) : State :=
  (s.wr (HPT.Pp_STATUS.STATE p) st).event 0x0250 [p, s.rd (HPT.Pp_HOST.HOST_ID p), st]

/-- Event SYS_WAKE, owed since the last wake (R526). -/
def State.wakeTell (s : State) : State := match s.boot.wakeReport with
  | some ps => { s with boot := { s.boot with wakeReport := none } }.event 0x0121 ps
  | none => s

/-- Open streams besides stream 0, in the port's status. -/
def State.showStreams (s : State) (p : Nat) : State :=
  s.wr (HPT.Pp_STATUS.STREAMS p) (((s.port p).streams.filter (fun t => t.id != 0)).length)

/-! ### Hostile partners (R411, R412) -/

/-- The session of port `p` goes to ABSENT (R389, R403). -/
def State.goAbsent (s : State) (p : Nat) : State :=
  if s.session p = sesOpen then
    (s.modPort p (fun q => { q with absentAt := s.now, holdEnded := false, resuming := false, nonceD := [] })).setSession p sesAbsent
  else s

/-- Counters of the six hostile kinds. -/
def hostileKinds : List Stat := [.foreign, .malformed, .badTag, .replay, .authFail, .flood]

/-- A hostile packet of kind `k` on port `p`: counted, reported where it is the first, and the port closed where the policy's
threshold is passed within 1 s (R411, R412, R415). -/
def State.hostile (s : State) (p : Nat) (k : Stat) : State :=
  let first := hostileKinds.all (fun x => (s.port p).stats.getD x.idx 0 == 0)
  let s := (s.stat p k 1).count WAG.HOSTILE.COUNT WAG.HOSTILE.SAT 1
  let s := if first then s.event 0x0252 [] else s
  if k = .foreign then s
  else
    let times := s.now :: (s.port p).hostile.filter (fun t => s.now < t + ticksOfS 1)
    let s := s.modPort p (fun q => { q with hostile := times })
    let limit := (s.policy p).close
    if limit ≠ 0 ∧ limit < times.length ∧ ¬ s.on (HPT.Pp_STATUS.CLOSED p) then
      let s := ((s.put (HPT.Pp_STATUS.CLOSED p) true).event 0x0253 []).auditDevice 13 p times.length 0 0
      s.goAbsent p
    else s

/-- Units of the token bucket in one packet. -/
def bucketUnit : Nat := 1250000000

/-- The port's rate limit takes one packet; none where it has no room (R411). Before AUTH the limit is 1,000 packets/s. -/
def State.bucketTake (s : State) (p : Nat) : Option State :=
  let q := s.port p
  let pol := s.policy p
  let rate := if s.session p = sesOpen then pol.rate else 1000
  let level := min (pol.burst * bucketUnit) (q.bucket + (s.now - q.bucketAt) * rate)
  if level < bucketUnit then none
  else some (s.modPort p (fun q => { q with bucket := level - bucketUnit, bucketAt := s.now }))

/-! ### A frame arrives (R383, R385 to R387, R392) -/

/-- A Waggle packet from a host. -/
structure RxPacket where
  typ : Nat
  flags : Nat
  stream : Nat
  seq : Nat
  ack : Nat
  credit : Nat
  header : List Nat
  payload : List Nat
  tag : List Nat
  deriving DecidableEq, Repr

/-- The frame is addressed and tagged as port `p` accepts (R383). -/
def State.accepts (s : State) (p : Nat) (e : EthFrame) : Bool :=
  (e.dst == s.portMac p || (e.dst == 2 ^ 48 - 1 && e.bytes.getD 1 0 == 1)) && e.etherType == s.rd WAG.CFG.ETHERTYPE &&
    (if s.on (HPT.Pp_VLAN.TAGGED p) then e.vid == some (s.rd (HPT.Pp_VLAN.VID p)) else e.vid.isNone)

/-- The packet in the bytes of a frame; none where it is MALFORMED (R387). Bytes beyond the packet are padding, and a frame of
more than 46 bytes has none. -/
def parsePacket (bs : List Nat) : Option RxPacket :=
  let typ := bs.getD 1 0
  let flags := le bs 2 2
  let stream := le bs 4 2
  let len := le bs 6 2
  let tagged := flags.testBit 0
  let total := 20 + len + 16 * b2n tagged
  let badType := !(typ == 1 || typ == 2 || typ == 3 || typ == 10)
  let badStream := 255 < stream || (typ != 10 && stream != 0)
  let badLen := bs.length < total || (total < bs.length && 46 < bs.length) || (typ == 10 && len != 0) || (typ == 1 && len != 40)
  if bs.length < 20 || bs.getD 0 0 != 1 || badType || 64 ≤ flags || badStream || badLen then none
  else some ⟨typ, flags, stream, le bs 8 4, le bs 12 4, le bs 16 4, slice bs 0 20, slice bs 20 len,
    if tagged then slice bs (20 + len) 16 else []⟩

/-- Distance of `a` from `b` on the 32-bit circle is 1,024 or more (R411). -/
def farSeq (a b : Nat) : Bool :=
  let d := (a + 2 ^ 32 - b % 2 ^ 32) % 2 ^ 32
  1024 ≤ d && d ≤ 2 ^ 32 - 1024

/-- A host packet of an OPEN session carries a good tag, or the session has no tags (R392). -/
def State.tagGood (s : State) (p : Nat) (k : RxPacket) : Bool :=
  !s.on (HPT.Pp_STATUS.TAGS p) ||
    (k.tag.length == 16 && k.tag == (hmac (s.port p).sessionKey (0 :: (k.header ++ k.payload))).take 16)

/-- A frame at port `p`: the packet, if the port and its session accept it, and the state with the refusal counted otherwise
(R383, R387, R392, R411, R413). -/
def State.receive (s : State) (p : Nat) (e : EthFrame) : State × Option RxPacket :=
  if ¬ (s.up ∧ s.portRuns p) ∨ s.mtu p < e.bytes.length ∨ e.etherType = 0x8808 then (s, none)
  else if ¬ e.fcsOk then (s.stat p .fcs 1, none)
  else if ¬ s.accepts p e then (s.hostile p .foreign, none)
  else match s.bucketTake p with
    | none => (s.hostile p .flood, none)
    | some s => match parsePacket e.bytes with
      | none => (s.hostile p .malformed, none)
      | some k =>
        if k.typ = 1 then
          if s.now < (s.port p).backoffUntil then (s, none)
          else if s.session p ≠ sesIdle ∧ s.rd (HPT.Pp_HOST.HOST_ID p) ≠ le k.payload 0 4 then (s.hostile p .foreign, none)
          else (s.stat p .valid 1, some k)
        else if k.typ = 2 then
          if s.session p = sesChallenged ∨ (s.port p).resuming then (s.stat p .valid 1, some k) else (s, none)
        else if s.session p ≠ sesOpen then (s, none)
        else if ¬ s.tagGood p k then (s.hostile p .badTag, none)
        else if k.typ = 3 ∧ s.on (HPT.Pp_STATUS.TAGS p) ∧ farSeq k.seq (s.port p).rxSeq then (s.hostile p .replay, none)
        else (s.stat p .valid 1, some k)

/-- FRAME_RECEIVED (R383, R411): a frame that is no valid packet is counted and dropped. A valid one is the matter of its own
command. -/
def execFrameReceived (p : Nat) (e : EthFrame) (s : State) : Host.Outcome State Fault Refusal :=
  .next (match s.receive p e with
    | (s', none) => s'
    | (_, some _) => s)

/-! ### Claims of a stream (R399, R403, R404) -/

/-- The claim of an item of stream `id` ends. -/
def State.endClaim (s : State) (p id : Nat) (i : Item) : State := match i.body with
  | .frame t k => s.dropHolder t k (.stream p id)
  | .archive n => s.dropArcClaim n (.stream p id)
  | .bytes _ =>
    if i.typ = 4 then match s.strm? p id with
      | some t => s.snapTaken (t.param.getD 0 0) (t.param.getD 1 0) (some (.stream p id))
      | none => s
    else if i.typ = 8 then s.leafSync
    else s
  | _ => s

/-- Every claim of a stream ends. -/
def State.endClaims (s : State) (p : Nat) (t : Strm) : State :=
  (t.inflight.map (·.2) ++ t.queue).foldl (fun s i => s.endClaim p t.id i) s

/-- Roll of an item, for a loss notice (R400). -/
def State.itemRoll (s : State) (t : Strm) (i : Item) : Nat := match i.body with
  | .frame tab _ => s.cap.tableRoll.getD tab 0
  | .live bs true => le (slice bs (bs.length - 128) 128) 8 6
  | .live _ false => ((s.cch (s.lead (t.param.getD 0 0))).liveF.map OpenFrame.roll).getD s.rollNumber
  | .bytes bs => if i.typ = 4 then le bs 24 6 else 0
  | _ => 0

/-- The session of port `p` ends: claims end without notice, leases are released, streams are gone (R404). -/
def State.endSession (s : State) (p : Nat) : State :=
  let s := (s.port p).streams.foldl (fun s t => s.endClaims p t) s
  let s := (List.range 9).foldl (fun s i =>
    if (s.leases.getD i {}).holder = some p then (s.setLease i none 0).leaseEvent i p else s) s
  let s := (s.port p).streams.foldl (fun s t => s.endReads (tagStream p t.id)) s
  let s := s.modPort p (fun q => { q with
    streams := [], partialReq := [], waitResp := [], role := 0, rights := 0, quotaMb := 0, key := [], sessionKey := [], nonceD := [],
    resuming := false, holdEnded := false, rxSeq := 0 })
  let s := s.setSession p sesIdle
  let s := ((s.wr (HPT.Pp_HOST.HOST_ID p) 0).put (HPT.Pp_STATUS.TAGS p) false).wr (HPT.Pp_STATUS.P_MAX p) 0
  (s.showStreams p).leafSync

/-! ### HELLO and AUTH (R389 to R391) -/

/-- The host's key entry with the image's grant over it (R465, R499). -/
def State.keyEntry (s : State) (host : Nat) : Option HostKey :=
  (s.led.hosts.find? (fun h => h.hostId = host)).map (fun h =>
    match (s.image.bind (fun im => im.grants.find? (fun g => g.hostId = host))) with
    | some g => { h with role := g.role, rights := g.rights, flags := g.flags, quotaMb := g.quotaMb }
    | none => h)

/-- P_max for a host's max_payload: the largest multiple of 64 within 8,192, an MTU and max_payload; none below 256 (R388, R390). -/
def pMaxFor (mtu maxPayload : Nat) : Option Nat :=
  let m := min maxPayload (min 8192 (mtu - 36)) / 64 * 64
  if m < 256 then none else some m

/-- An ABSENT session of port `p` may still be resumed (R389, R403). -/
def State.resumable (s : State) (p : Nat) : Bool := s.now < (s.port p).absentAt + ticksOfS (s.rd WAG.LEASE.RESUME_S)

/-- HELLO (R389, R390): answered with a fresh nonce; an IDLE port goes to CHALLENGED, a session whose host starts anew ends
first, an ABSENT one whose host resumes waits for its AUTH. With RESUME it does nothing to an OPEN session
(notes/assumptions/75.md). -/
def execHello (p : Nat) (e : EthFrame) (s : State) : Host.Outcome State Fault Refusal :=
  .next (match s.receive p e with
    | (s', none) => s'
    | (s', some k) =>
      if k.typ ≠ 1 then s
      else
        let host := le k.payload 0 4
        let fl := le k.payload 6 2
        let resume := fl.testBit 0 && (s'.session p == sesAbsent) && s'.resumable p
        if fl.testBit 0 && s'.session p == sesOpen then s'
        else match pMaxFor (if resume then s'.mtu p else s'.mtuNew p) (le k.payload 24 2) with
        | none => s'
        | some m =>
          let s := if resume ∨ s'.session p = sesIdle ∨ s'.session p = sesChallenged then s' else s'.endSession p
          let demanded := match s.keyEntry host with
            | some h => h.flags.testBit 0
            | none => false
          let tags := fl.testBit 1 || demanded || s.on WAG.CFG.TAG_ALL
          let (r, s) := s.draw 128
          let nd := leBytes 16 r
          let s := s.modPort p (fun q => { q with
            nonceH := slice k.payload 8 16, nonceD := nd, resuming := resume, tagsNext := tags, pMaxNext := m
            helloAt := s.now, mac := e.src, jumbo := if resume then q.jumbo else s.on (HPT.Pp_CTL.JUMBO p) })
          let s := s.wr (HPT.Pp_HOST.HOST_ID p) host
          let s := if resume then s else s.setSession p sesChallenged
          s.sendBare p 1 6 0 0 (leBytes 4 host ++ leBytes 2 1 ++ leBytes 2 (b2n resume + 2 * b2n tags) ++ nd ++ leBytes 2 m
            ++ [p, 0] ++ leBytes 2 (s.rd ID.PART.NUMBER) ++ leBytes 2 (s.rd ID.PART.FAMILY) ++ leBytes 8 s.led.serial))

/-- The bytes M of R391. -/
def State.helloBytes (s : State) (p : Nat) : List Nat :=
  leBytes 8 s.led.serial ++ leBytes 4 (s.rd (HPT.Pp_HOST.HOST_ID p)) ++ [p] ++ (s.port p).nonceH ++ (s.port p).nonceD

/-- A failed AUTH: HELLOs are ignored for 1 s, doubling up to 64 s; a CHALLENGED port is IDLE again (R389, R411). -/
def State.authFail (s : State) (p : Nat) : State :=
  let q := s.port p
  let b := if q.backoffS = 0 then 1 else min 64 (2 * q.backoffS)
  let s := s.modPort p (fun q => { q with backoffS := b, backoffUntil := s.now + ticksOfS b, resuming := false, nonceD := [] })
  let s := s.hostile p .authFail
  if s.session p = sesChallenged then s.endSession p else s

/-- The stream 0 of a new session (R393). -/
def stream0 : Strm := { id := 0, kind := 0, param := [], credit := 64 }

/-- The length of an item's bytes; a correction's flag does not change it. -/
def State.itemLength (s : State) (i : Item) : Nat := match i.body with
  | .bytes bs => bs.length
  | .live bs _ => bs.length
  | .frame t k => match (s.table t)[k]? with
    | some f => 144 + (s.frameData f).length
    | none => 0
  | .archive n => match s.arc.recs.find? (fun r => r.number = n) with
    | some r => 16 + r.len
    | none => 0
  | .skip _ _ _ _ => 0

/-- A stream put back to its first unacknowledged packet, to be cut anew: what was sent of an item and not acknowledged is unsent, and the
sequence goes on from that packet (R388, R393, R403). -/
def State.rewindStrm (s : State) (t : Strm) : Strm :=
  let bytes := fun (l : List Packet) => (l.map (fun k => k.payload.length)).sum
  let offset := match t.inflight with
    | (q, i) :: _ => if i.typ = 5 ∨ i.typ = 9 then 0 else s.itemLength i - bytes (t.unacked.filter (fun k => !newer k.seq q))
    | [] => t.offset - bytes t.unacked
  { t with
    queue := t.inflight.map (·.2) ++ t.queue, inflight := [], unacked := [], resend := none, offset := offset, asked := false
    nextSeq := match t.unacked with
      | k :: _ => k.seq
      | [] => t.nextSeq }

/-- A stream as it goes on in a resumed session: what is unacknowledged is resent, cut anew where P_max has become smaller. -/
def State.resumeStrm (s : State) (smaller : Bool) (t : Strm) : Strm :=
  if smaller then s.rewindStrm t else { t with resend := if t.unacked.isEmpty then none else some 0 }

/-- A valid packet renews the session and its leases (R395, R408). -/
def State.renew (s : State) (p : Nat) : State :=
  let s := s.modPort p (fun q => { q with heardAt := s.now })
  { s with leases := s.leases.map (fun l => if l.holder = some p then { l with expires := s.now + ticksOfMs (s.rd WAG.LEASE.MS) } else l) }

/-- AUTH (R389, R391, R395): a right mac_h within 1 s of the HELLO reply opens the session, or resumes it in its time, with the rights of the key
entry; a late one does nothing, anything else fails. -/
def execAuth (p : Nat) (e : EthFrame) (s : State) : Host.Outcome State Fault Refusal :=
  .next (match s.receive p e with
    | (s', none) => s'
    | (s', some k) =>
      if k.typ ≠ 2 then s
      else if (s.port p).helloAt + ticksOfS 1 < s.now ∨ ((s.port p).resuming ∧ ¬ s.resumable p) then s'
      else match s'.keyEntry (s'.rd (HPT.Pp_HOST.HOST_ID p)) with
        | none => s'.authFail p
        | some h =>
          let m := s'.helloBytes p
          if k.payload ≠ hmac h.key (ascii "WAGGLE-H" ++ m) then s'.authFail p
          else
            let q := s'.port p
            let s := s'.modPort p (fun q => { q with
              role := h.role, rights := h.rights, quotaMb := h.quotaMb, key := h.key
              sessionKey := hmac h.key (ascii "WAGGLE-S" ++ m), backoffS := 0, heardAt := s'.now, resuming := false, holdEnded := false
              rxSeq := if q.resuming then q.rxSeq else 0
              partialReq := if q.resuming then q.partialReq else []
              streams := if q.resuming then q.streams.map (s'.resumeStrm (decide (q.pMaxNext < s'.rd (HPT.Pp_STATUS.P_MAX p) * 64)))
                else [stream0] })
            let s := (s.put (HPT.Pp_STATUS.TAGS p) q.tagsNext).wr (HPT.Pp_STATUS.P_MAX p) (q.pMaxNext / 64)
            let s := (((s.renew p).setSession p sesOpen).wakeTell).showStreams p
            s.sendBare p 2 6 0 0 ([0, h.role, h.rights, 0] ++ leBytes 4 h.quotaMb ++ hmac h.key (ascii "WAGGLE-D" ++ m)))

/-! ### Acknowledgement and credit (R393, R394) -/

/-- One packet acknowledged: bytes of live and result packets leave the ring (R399). -/
def Strm.ackOne (t : Strm) (k : Packet) : Strm :=
  let less := fun (i : Item) => match i.body with
    | .live _ _ => { i with cost := i.cost - k.payload.length }
    | .bytes _ => if i.typ = 6 then { i with cost := i.cost - k.payload.length } else i
    | _ => i
  match t.inflight.find? (fun x => x.1 = k.seq || newer x.1 k.seq) with
  | some (q, _) => { t with inflight := t.inflight.map (fun x => if x.1 = q then (x.1, less x.2) else x) }
  | none => { t with queue := match t.queue with
      | i :: is => less i :: is
      | [] => [] }

/-- An ack and a credit for stream `id` (R393, R394): older values change nothing; an ack covers no packet that was not sent;
claims end with the LAST packet of their item. -/
def State.ackStream (s : State) (p id ack credit : Nat) : State := match s.strm? p id with
  | none => s
  | some t =>
    let s := if newer credit t.credit then s.modStrm p id (fun t => { t with credit := credit }) else s
    if newer ack t.ack ∧ ¬ newer ack t.nextSeq then
      let gone := t.unacked.filter (fun k => newer ack k.seq)
      let done := t.inflight.filter (fun x => newer ack x.1)
      let s := s.modStrm p id (fun t =>
        let t := gone.foldl Strm.ackOne t
        let left := t.unacked.filter (fun k => !newer ack k.seq)
        { t with
          ack := ack, unacked := left, inflight := t.inflight.filter (fun x => !newer ack x.1)
          resend := match t.resend with
            | some i => if i < gone.length then (if left.isEmpty then none else some 0)
                else if i - gone.length < left.length then some (i - gone.length) else none
            | none => none })
      done.foldl (fun s x => s.endClaim p id x.2) s
    else s

/-- The stream resends from its oldest unacknowledged packet. -/
def State.goBack (s : State) (p id : Nat) : State :=
  s.modStrm p id (fun t => { t with resend := if t.unacked.isEmpty then none else some 0 })

/-- The acknowledgement a host packet carries: that of the stream an ACK names, or with ACK_VALID of stream 0 (R386). -/
def State.takeAck (s : State) (p : Nat) (k : RxPacket) : State :=
  if k.typ = 10 then s.ackStream p k.stream k.ack k.credit
  else if k.flags.testBit 4 then s.ackStream p 0 k.ack k.credit else s

/-- ACK (R394): the stream's ack and credit are updated. -/
def execAck (p : Nat) (e : EthFrame) (s : State) : Host.Outcome State Fault Refusal :=
  .next (match s.receive p e with
    | (s', none) => s'
    | (s', some k) => if k.typ = 10 ∧ ¬ k.flags.testBit 5 then (s'.renew p).takeAck p k else s)

/-- GOBACK (R394): an ACK with GOBACK: what stays unacknowledged is resent at once. -/
def execGoback (p : Nat) (e : EthFrame) (s : State) : Host.Outcome State Fault Refusal :=
  .next (match s.receive p e with
    | (s', none) => s'
    | (s', some k) => if k.typ = 10 ∧ k.flags.testBit 5 then ((s'.renew p).takeAck p k).goBack p k.stream else s)

/-! ### Sending (R385, R388, R393, R397, R409) -/

/-- Bytes of a record in the archive (R371). -/
def State.arcRecordBytes (s : State) (r : ArcRec) : List Nat := Memory.read 0 s.arc.mem (s.ringBase + r.off) r.len

/-- The bytes of an item; none while it may not go (R235, R397). -/
def State.itemBytes (s : State) (i : Item) (ecc : Bool) : Option (List Nat) := match i.body with
  | .bytes bs => some bs
  | .live bs _ => some bs
  | .frame t k => match (s.table t)[k]? with
    | some f =>
      if f.state = 2 then
        let bs := deliveredHeader f.header (ecc || f.scrubbed) ++ s.frameData f
        some (itemPrefix 1 f.channel k bs.length ++ bs)
      else none
    | none => none
  | .archive n => match s.arc.recs.find? (fun r => r.number = n) with
    | some r =>
      let bs := s.arcRecordBytes r
      let bs := if ecc then bs.take 5 ++ [bs.getD 5 0 ||| 4] ++ bs.drop 6 else bs
      some (itemPrefix 5 r.channel n bs.length ++ bs)
    | none => none
  | .skip _ _ _ _ => some []

/-- Length of the next payload of an item with `len` bytes of which `off` are sent, and whether it ends the item (R388,
R409). -/
def nextChunk (i : Item) (len off pmax : Nat) : Option (Nat × Bool) := match i.body with
  | .live _ false => if pmax ≤ len - off then some (pmax, false) else none
  | .live _ true =>
    let left := len - off - 128
    if pmax ≤ left then some (pmax, false)
    else if left + 128 ≤ pmax then some (left + 128, true) else some (left, false)
  | _ => if len - off ≤ pmax then some (len - off, true) else some (pmax, false)

/-- Code of a loss notice's kind (R400) for a stream kind. -/
def skipKind (kind : Nat) : Nat := match kind with
  | 7 => 9
  | 8 => 7
  | 9 => 8
  | k => k

/-- The payload of a loss notice of stream `t` (R400). -/
def skipBytes (t : Strm) (reason first last roll : Nat) : List Nat :=
  let source := if t.kind = 8 ∨ t.kind = 9 ∨ t.kind = 6 then 0 else t.param.getD 0 0
  [skipKind t.kind, reason, 0, 0] ++ leBytes 4 first ++ leBytes 4 last ++ [source, 0, 0, 0] ++ leBytes 8 roll

/-- The head items of a stream that go in one packet of stamps (R397). -/
def Strm.stampRun (t : Strm) (pmax : Nat) : List Item := (t.queue.takeWhile (fun i => i.typ == 5)).take (pmax / 16)

/-- A sequenced packet of stream `id` goes, and waits for its acknowledgement. -/
def State.sendSeq (s : State) (p id typ flags : Nat) (payload : List Nat) : State := match s.strm? p id with
  | none => s
  | some t =>
    let k := s.mkPacket p typ flags id t.nextSeq payload
    (s.modStrm p id (fun t => { t with nextSeq := (t.nextSeq + 1) % 2 ^ 32, unacked := t.unacked ++ [k] })).transmit p k

/-- The item is read from capture or archive memory as it is sent. -/
def Item.isRead (i : Item) : Bool := match i.body with
  | .frame _ _ => true
  | .archive _ => true
  | .bytes _ => i.typ == 4
  | _ => false

/-- The reads of an item for stream `id` asked for: a frame and a snapshot in Q4, a record at the HOST port (R225, R355). -/
def State.askItem (s : State) (p id : Nat) (i : Item) : State :=
  let tag := tagStream p id
  let s : State := match i.body with
    | .frame t k => (match (s.table t)[k]? with
      | some f => s.readFrame 5 f (sampleBytes f.format f.samples) tag
      | none => s)
    | .archive n => (match s.arc.recs.find? (fun r => r.number = n) with
      | some r => s.askBytes 1 (s.ringBase + r.off) r.len tag
      | none => s)
    | .bytes bs => s.request 5 (stripesFor bs.length) s.accBase true tag
    | _ => s
  s.modStrm p id (fun x => { x with asked := true })

/-- The head item of the stream sends its next packet; what is read from memory is first asked for, and goes once all its reads are made,
so that its header shows what they corrected (R242, R368). -/
def State.sendItem (s : State) (p id : Nat) (t : Strm) : State :=
  let pmax := s.rd (HPT.Pp_STATUS.P_MAX p) * 64
  match t.queue with
  | [] => s
  | i :: rest => match i.body with
    | .skip r f l ro =>
      let s := s.sendSeq p id 9 6 (skipBytes t r f l ro)
      let s := s.modStrm p id (fun x => { x with queue := rest, inflight := x.inflight ++ [(t.nextSeq, i)] })
      (s.count WAG.SKIP.COUNT WAG.SKIP.SAT 1).stat p .skips 1
    | _ =>
      if i.typ = 5 then
        let run := t.stampRun pmax
        let bs := (run.map (fun j => match j.body with | .bytes b => b | _ => [])).flatten
        let s := s.sendSeq p id 5 6 bs
        s.modStrm p id (fun x => { x with
          queue := x.queue.drop run.length, inflight := x.inflight ++ run.map (fun j => (t.nextSeq, j)) })
      else match s.itemBytes i (s.readEcc (tagStream p id)) with
        | none => s
        | some bs =>
          if i.isRead && !t.asked then s.askItem p id i
          else if i.isRead && (s.capReading (tagStream p id) || s.arcReading (tagStream p id)) then s
          else match nextChunk i bs.length t.offset pmax with
          | none => s
          | some (n, last) =>
            let first := t.offset == 0
            let s := if i.isRead && last then s.endReads (tagStream p id) else s
            let s := s.sendSeq p id i.typ (2 * b2n first + 4 * b2n last) ((bs.drop t.offset).take n)
            s.modStrm p id (fun x => if last then
                { x with queue := rest, offset := 0, asked := false, inflight := x.inflight ++ [(t.nextSeq, i)], snapAt := if first then s.now else x.snapAt }
              else { x with offset := t.offset + n, snapAt := if first then s.now else x.snapAt })

/-- PACKET_SEND (R393, R394): stream `id` of port `p` sends its next packet: one that is to be resent, else the next of its
items while ack window and credit allow. `err` says in its bit 0 that a word of on-die SRAM was corrected on the way (R537). -/
def execPacketSend (p id err : Nat) (s : State) : Host.Outcome State Fault Refusal :=
  .next (
    if s.up ∧ s.portRuns p ∧ s.session p = sesOpen then
      let s := if err.testBit 0 then s.sramCorrected else s
      match s.strm? p id with
      | none => s
      | some t => match t.resend with
        | some i => match t.unacked[i]? with
          | none => s.modStrm p id (fun t => { t with resend := none })
          | some k =>
            let fl := k.flags % 16 / 2 * 2 % 8 + 8
            let k' := s.mkPacket p k.typ fl id k.seq k.payload
            let s := s.modStrm p id (fun t => { t with
              unacked := t.unacked.set i k', resend := if i + 1 < t.unacked.length then some (i + 1) else none })
            (s.transmit p k').stat p .retx 1
        | none =>
          if t.maySend then s.sendItem p id t else s
    else s)

/-- RETRANSMIT_TIMEOUT (R394): the oldest unacknowledged packet of the stream has waited RTO. -/
def execRetransmitTimeout (p id : Nat) (s : State) : Host.Outcome State Fault Refusal :=
  .next (
    if s.up ∧ s.session p = sesOpen then match s.strm? p id with
      | some t => match t.unacked with
        | k :: _ => if t.resend.isNone ∧ k.at_ + ticksOfUs (s.rd WAG.TIMERS.RTO_US) ≤ s.now then s.goBack p id else s
        | [] => s
      | none => s
    else s)

/-- KEEPALIVE_ACK (R395): nothing was sent for a quarter of ABSENT_MS. -/
def execKeepaliveAck (p : Nat) (s : State) : Host.Outcome State Fault Refusal :=
  .next (
    if s.up ∧ s.portRuns p ∧ s.session p = sesOpen ∧
        ticksOfMs (s.rd WAG.TIMERS.ABSENT_MS) ≤ 4 * (s.now - (s.port p).sentAt) then s.sendAck p
    else s)

/-! ### Control requests (R388, R405, R406) -/

/-- A response on stream 0: op, request_id, status, done, detail, data. Responses return in the order of
the requests, behind an attestation that is being signed (R406). A refusal is recorded in WAG.REFUSED (R405, R417). -/
def State.respond (s : State) (p : Nat) (req : List Nat) (status done detail : Nat) (data : List Nat) : State :=
  let bs := [req.getD 0 0, 0] ++ slice req 2 2 ++ [status, 0] ++ leBytes 2 done ++ leBytes 2 detail ++ data
  let waits := s.sec.attestQ.any (fun x => x.att == .port p && !x.req.isEmpty)
  let s := if waits then s.modPort p (fun q => { q with waitResp := q.waitResp ++ [bs] })
    else s.modStrm p 0 (fun t => { t with queue := t.queue ++ [⟨3, 0, .bytes bs, 0⟩] })
  if status = 0 then s else ((s.wr WAG.REFUSED.STATUS status).wr WAG.REFUSED.PORT p).stat p .refusals 1

/-- A request in whose op field stands an op of R405. -/
def knownOp (req : List Nat) : Bool := 1 ≤ req.getD 0 0 && req.getD 0 0 ≤ 7

/-- A CONTROL packet at port `p`: in sequence it joins the request, which runs once its LAST packet has come; out of sequence
it is answered with an ACK (R388, R394). `mine` says whether the request is this command's; one that belongs to another
command leaves the state alone, one with no known op is MALFORMED. -/
def State.control (s : State) (p : Nat) (e : EthFrame) (mine : List Nat → Bool) (run : List Nat → State → State) : State :=
  match s.receive p e with
  | (s', none) => s'
  | (s', some k) =>
    if k.typ ≠ 3 then s
    else
      let s1 := (s'.renew p).takeAck p k
      if k.seq ≠ (s1.port p).rxSeq then s1.sendAck p
      else
        let req := (if k.flags.testBit 1 then [] else (s1.port p).partialReq) ++ k.payload
        let last := k.flags.testBit 2
        let s2 := s1.modPort p (fun q => { q with rxSeq := (q.rxSeq + 1) % 2 ^ 32, partialReq := if last then [] else req })
        if ¬ last then s2
        else if mine req then run req s2
        else if knownOp req then s
        else s2.respond p req 5 0 0 []

/-! ### Opening and closing streams (R396, R399, R405, R407, R409) -/

/-- The parameters of an OPEN lie in the ranges of R396, and words not used are 0. -/
def openParams (kind : Nat) (w : List Nat) : Bool :=
  let g := fun i => w.getD i 0
  match kind with
  | 1 => g 0 < 8 && g 1 == 0 && g 2 == 0 && g 3 == 0
  | 2 => g 0 < 8 && g 1 == 0
  | 3 => g 0 < 65 && g 1 == 0 && g 2 == 0 && g 3 == 0
  | 4 => g 0 < 192 && g 1 < 16 && g 2 == 0 && g 3 == 0
  | 5 => g 0 < 8 && g 1 < 2 && g 2 == 0 && g 3 == 0
  | 6 => g 2 == 0 && g 3 == 0
  | 7 => g 0 < 2 && g 1 < 1048576 && g 3 == 0
  | 8 => g 0 == 0 && g 1 == 0 && g 2 == 0 && g 3 == 0
  | 9 => g 1 == 0 && g 2 == 0 && g 3 == 0
  | _ => false

/-- The parameters as the stream keeps them: a member channel names its lead, the stripe mask is one word, and a READOUT has
the table and roll it names. -/
def State.openKept (s : State) (kind : Nat) (w : List Nat) : List Nat :=
  let g := fun i => w.getD i 0
  match kind with
  | 1 => [s.lead (g 0)]
  | 2 => [s.lead (g 0), g 2 + g 3 * 2 ^ 32]
  | 5 => [s.lead (g 0), g 1]
  | 7 =>
    let t := (s.rollNumber + g 0) % 2
    [g 0, g 1, g 2, t, s.cap.tableRoll.getD t 0]
  | _ => w

/-- Payload capacity of port `p`'s session in bytes per second, as a fraction (R388). -/
def State.capacity (s : State) (p : Nat) : Nat × Nat :=
  let m := s.rd (HPT.Pp_STATUS.P_MAX p) * 64
  let line := if s.on (HPT.Gg_CFG.MODE (p / 4)) then 12500000000 else 3125000000
  (line * m, m + 58 + 16 * b2n (s.on (HPT.Pp_STATUS.TAGS p)) + 4 * b2n (s.on (HPT.Pp_VLAN.TAGGED p)))

/-- The live rate of channel `n` exceeds 0.95 of the capacity of the ports given (R409). -/
def State.liveOver (s : State) (n : Nat) (ports : List Nat) : Bool :=
  let c := (ports.map s.capacity).foldl addFrac (0, 1)
  let r := s.liveRate n
  95 * c.1 * r.2 < 100 * r.1 * c.2

/-- Bytes one item of a stream takes from the quota (R399). -/
def State.itemCost (s : State) (p kind : Nat) (w : List Nat) : Nat :=
  let n := s.lead (w.getD 0 0)
  match kind with
  | 1 => 128 + sampleBytes ((s.filP n).format (s.rd (CAP.CHn_CFG.FORMAT n))) (s.rd (CAP.CHn_LEN.SAMPLES n))
  | 2 => s.rd (HPT.Pp_STATUS.P_MAX p) * 64
  | 3 => 16
  | 4 => 64
  | 5 =>
    if w.getD 1 0 = 1 then 2097280
    else 128 + s.rd (ACC.CHn_STK_POINTS.POINTS n) * (if s.on (ACC.CHn_STK_CFG.SQUARES n) then 16 else 4)
  | 6 => match s.arcRec? (w.getD 0 0) with
    | some r => r.len
    | none => 256
  | 7 => match (s.table ((s.rollNumber + w.getD 0 0) % 2))[w.getD 1 0]? with
    | some f => 128 + sampleBytes f.format f.samples
    | none => 128
  | 9 => 16
  | _ => 0

/-- Ports a stream is opened on: those of a LIVE stripe, else the session's own. -/
def openPorts (p kind : Nat) (w : List Nat) : List Nat :=
  let mask := w.getD 2 0 + w.getD 3 0 * 2 ^ 32
  if kind = 2 ∧ mask ≠ 0 then onesOf 64 mask else [p]

/-- The status an OPEN is refused with, 0 where it is granted: the first test of R589 that fails. -/
def State.openStatus (s : State) (p : Nat) (req : List Nat) : Nat :=
  let id := req.getD 4 0
  let kind := req.getD 5 0
  let w := (List.range 4).map (fun i => le req (12 + 4 * i) 4)
  let ports := openPorts p kind w
  let host := s.rd (HPT.Pp_HOST.HOST_ID p)
  let n := s.lead (w.getD 0 0)
  let rights := (s.port p).rights
  let striped := kind == 2 && 1 < ports.length
  -- the first record or frame that an ARCHIVE or READOUT stream names is there to be read
  let absent : Bool := match kind with
    | 6 => (s.arcRec? (w.getD 0 0)).isNone
    | 7 => (match (s.table ((s.rollNumber + w.getD 0 0) % 2))[w.getD 1 0]? with
      | some f => f.state != 1 && f.state != 2
      | none => true)
    | _ => false
  if req.length ≠ 28 then 5
  else if ¬ rights.testBit 1 ∨ (striped ∧ ¬ rights.testBit 0) then 1
  else if ¬ ports.all (fun q => s.session q == sesOpen && s.rd (HPT.Pp_HOST.HOST_ID q) == host) then 2
  else if ¬ openParams kind w ∨ absent ∨ 16 < ports.length ∨ ¬ ports.contains p then 8
  else if ports.any (fun q => 255 ≤ s.rd (HPT.Pp_STATUS.STREAMS q)) then 6
  else if kind = 2 ∧ (4 ≤ (s.liveStreams.filter (fun l => s.lead l.2.2 = n)).length ∨ s.liveOver n ports ∨
      s.hashOver s.capturing (s.liveRate n)) then 6
  else if ports.any (fun q => (s.port q).quotaMb * 2 ^ 20 < s.itemCost q kind w) then 6
  else if id = 0 ∨ ports.any (fun q => (s.strm? q id).isSome) then 7
  else 0

/-- WAG_OPEN (R396, R405, R409): the stream opens on its ports with its initial credit, and takes what it finds held for it. -/
def execWagOpen (p : Nat) (e : EthFrame) (s : State) : Host.Outcome State Fault Refusal :=
  .next (s.control p e (fun req => req.getD 0 0 == 3) (fun req s =>
    let st := s.openStatus p req
    if st ≠ 0 then s.respond p req st 0 0 []
    else
      let id := req.getD 4 0
      let kind := req.getD 5 0
      let w := (List.range 4).map (fun i => le req (12 + 4 * i) 4)
      let kept := s.openKept kind w
      let t : Strm := { id := id, kind := kind, param := kept, credit := le req 8 4
                        next := if kind = 6 then kept.getD 0 0 else if kind = 7 then kept.getD 1 0 else 0 }
      let s := (openPorts p kind w).foldl (fun s q =>
        (s.modPort q (fun x => { x with streams := x.streams ++ [t] })).showStreams q) s
      let s := if kind = 3 then s.takeBacklog (kept.getD 0 0) (fun s r => s.stampToStream p id r)
        else if kind = 6 then s.archiveFeeds else if kind = 7 then s.readoutFeeds else if kind = 8 then s.leafSync else s
      s.respond p req 0 0 0 []))

/-- A stream closes: its claims end with no notice (R405, R414). -/
def State.closeStream (s : State) (p id : Nat) : State := match s.strm? p id with
  | none => s
  | some t => (((s.endClaims p t).endReads (tagStream p id)).modPort p (fun q => { q with streams := q.streams.filter (fun x => x.id != id) })).leafSync.showStreams p

/-- WAG_CLOSE (R405): the stream closes; a striped LIVE stream closes on every port of its stripe. -/
def execWagClose (p : Nat) (e : EthFrame) (s : State) : Host.Outcome State Fault Refusal :=
  .next (s.control p e (fun req => req.getD 0 0 == 4) (fun req s =>
    let id := req.getD 4 0
    if req.length ≠ 5 then s.respond p req 5 0 0 []
    else match s.strm? p id with
      | none => s.respond p req 7 0 0 []
      | some t =>
        if id = 0 then s.respond p req 7 0 0 []
        else
          let ports := if t.kind = 2 then openPorts p 2 [0, 0, t.param.getD 1 0 % 2 ^ 32, t.param.getD 1 0 / 2 ^ 32] else [p]
          (ports.foldl (fun s q => s.closeStream q id) s).respond p req 0 0 0 []))

/-- What waits on stream 0 of port `p` goes, in order, while window and credit allow (R393, R406). The first argument bounds the packets. -/
def State.flushZero : Nat → Nat → State → State
  | 0, _, s => s
  | n + 1, p, s => match s.strm? p 0 with
    | none => s
    | some t => if t.queue.isEmpty || !t.maySend then s else State.flushZero n p (s.sendItem p 0 t)

/-- BYE (R389, R404, R406): the responses before it and its own go in order, and the session ends with its claims and leases. -/
def execBye (p : Nat) (e : EthFrame) (s : State) : Host.Outcome State Fault Refusal :=
  .next (s.control p e (fun req => req.getD 0 0 == 6) (fun req s =>
    if req.length ≠ 4 then s.respond p req 5 0 0 []
    else (State.flushZero 1024 p (s.respond p req 0 0 0 [])).endSession p))

/-! ### Leases (R408) -/

/-- Lease items a request names, a member channel's item being its lead's. -/
def State.leaseItems (s : State) (mask : Nat) : List Nat :=
  ((onesOf 9 mask).map (fun i => if i = 8 then 8 else s.lead i)).eraseDups

/-- Holder of a lease item. -/
def State.leaseHolder (s : State) (i : Nat) : Option Nat := (s.leases.getD i {}).holder

/-- The items a port holds, as a mask with every member of a held group. -/
def State.leaseMask (s : State) (p : Nat) : Nat :=
  ((List.range 9).map (fun i => if s.leaseHolder (if i = 8 then 8 else s.lead i) = some p then 2 ^ i else 0)).sum

/-- Items granted to a port from now on. -/
def State.leaseGrant (s : State) (p : Nat) (items : List Nat) : State :=
  items.foldl (fun s i =>
    let old := s.leaseHolder i
    let s := s.setLease i (some p) (s.now + ticksOfMs (s.rd WAG.LEASE.MS))
    if old = some p then s else s.leaseEvent i p) s

/-- A LEASE request of an action: its status, 0 where granted. -/
def State.leaseStatus (s : State) (p : Nat) (req : List Nat) : Nat :=
  let mask := le req 4 2
  let items := s.leaseItems mask
  let q := s.port p
  if req.length ≠ 7 then 5
  else if ¬ q.rights.testBit 0 ∨ (req.getD 6 0 = 3 ∧ q.role ≠ 2) then 1
  else if req.getD 6 0 = 1 ∧ ¬ items.all (fun i => s.leaseHolder i == none || s.leaseHolder i == some p) then 4
  else if req.getD 6 0 = 2 ∧ ¬ items.all (fun i => s.leaseHolder i == some p) then 4
  else if 512 ≤ mask ∨ req.getD 6 0 = 0 ∨ 3 < req.getD 6 0 then 8
  else 0

/-- A LEASE request carried out. -/
def State.leaseRun (s : State) (p : Nat) (req : List Nat) (run : List Nat → State → State) : State :=
  let st := s.leaseStatus p req
  if st ≠ 0 then s.respond p req st 0 0 (leBytes 2 (s.leaseMask p))
  else
    let s := run (s.leaseItems (le req 4 2)) s
    s.respond p req 0 0 0 (leBytes 2 (s.leaseMask p))

/-- LEASE_ACQUIRE (R408): every named item free or held by the session, granted whole. A LEASE request whose action names
no row is answered here. -/
def execLeaseAcquire (p : Nat) (e : EthFrame) (s : State) : Host.Outcome State Fault Refusal :=
  .next (s.control p e (fun req => req.getD 0 0 == 5 && !(req.getD 6 0 == 2 || req.getD 6 0 == 3)) (fun req s =>
    s.leaseRun p req (fun items s => s.leaseGrant p items)))

/-- LEASE_RELEASE (R408): the named items become free. -/
def execLeaseRelease (p : Nat) (e : EthFrame) (s : State) : Host.Outcome State Fault Refusal :=
  .next (s.control p e (fun req => req.getD 0 0 == 5 && req.getD 6 0 == 2) (fun req s =>
    s.leaseRun p req (fun items s => items.foldl (fun s i => (s.setLease i none 0).leaseEvent i p) s)))

/-- LEASE_TAKE_OVER (R408): an installer session takes the items; each that another session held is recorded. -/
def execLeaseTakeOver (p : Nat) (e : EthFrame) (s : State) : Host.Outcome State Fault Refusal :=
  .next (s.control p e (fun req => req.getD 0 0 == 5 && req.getD 6 0 == 3) (fun req s =>
    s.leaseRun p req (fun items s =>
      let s := items.foldl (fun s i => match s.leaseHolder i with
        | some q => if q = p then s else s.auditBy (.port p) 15 i q p 0
        | none => s) s
      s.leaseGrant p items)))

/-- LEASE_EXPIRY (R408, R414): a lease that was not renewed up to the tick of its expiry, that tick included, ends. -/
def execLeaseExpiry (i : Nat) (s : State) : Host.Outcome State Fault Refusal :=
  .next (match s.leaseHolder i with
    | some p =>
      if s.up ∧ (s.leases.getD i {}).expires < s.now then ((s.setLease i none 0).leaseEvent i p).stat p .expiries 1 else s
    | none => s)

/-! ### Absence (R389, R402, R403) -/

/-- ABSENT_TIMEOUT (R389): no valid packet for ABSENT_MS. -/
def execAbsentTimeout (p : Nat) (s : State) : Host.Outcome State Fault Refusal :=
  .next (
    if s.up ∧ p < 64 ∧ (s.port p).heardAt + ticksOfMs (s.rd WAG.TIMERS.ABSENT_MS) ≤ s.now then s.goAbsent p else s)

/-- What a stream held when the absence hold ends: all lost, in order, with reason ABSENT. -/
def State.absentLoss (s : State) (t : Strm) : Strm :=
  let items := t.inflight.map (·.2) ++ t.queue
  let q := items.foldl (fun q i => match i.body with
    | .skip _ _ _ _ => q ++ [i]
    | .bytes bs => if t.id = 0 then q else addSkip q skipAbsent i.number
        (if i.typ = 8 then i.number + le bs 40 2 - 1 else i.number) (s.itemRoll t i)
    | _ => if t.id = 0 then q else addSkip q skipAbsent i.number i.number (s.itemRoll t i)) []
  let seq := match t.unacked with
    | k :: _ => k.seq
    | [] => t.nextSeq
  { t with queue := q, inflight := [], unacked := [], nextSeq := seq, offset := 0, asked := false, resend := none }

/-- ABSENT_HOLD_END (R403): claims end, the ring is emptied, and each stream records what it has lost. -/
def execAbsentHoldEnd (p : Nat) (s : State) : Host.Outcome State Fault Refusal :=
  .next (
    let q := s.port p
    if s.live ∧ s.session p = sesAbsent ∧ ¬ q.holdEnded ∧ q.absentAt + ticksOfMs (s.rd WAG.LEASE.MS) ≤ s.now then
      let s' := q.streams.foldl (fun s t => (s.endClaims p t).endReads (tagStream p t.id)) s
      s'.modPort p (fun x => { x with holdEnded := true, streams := x.streams.map s.absentLoss })
    else s)

/-- RESUME_EXPIRY (R403): the session is not resumed in time and is gone. -/
def execResumeExpiry (p : Nat) (s : State) : Host.Outcome State Fault Refusal :=
  .next (
    if s.live ∧ s.session p = sesAbsent ∧ (s.port p).absentAt + ticksOfS (s.rd WAG.LEASE.RESUME_S) ≤ s.now then s.endSession p
    else s)

/-- AUTH_TIMEOUT (R389): no AUTH within 1 s of the HELLO reply. -/
def execAuthTimeout (p : Nat) (s : State) : Host.Outcome State Fault Refusal :=
  .next (if s.live ∧ s.session p = sesChallenged ∧ (s.port p).helloAt + ticksOfS 1 ≤ s.now then s.endSession p else s)

/-- SNAPSHOT_CLAIM_TIMEOUT (R399): a snapshot item not acknowledged within 2 × LEASE.MS of its first packet is lost: its claim
ends and a notice takes the place of what was not acknowledged of it; notices sent before it stay as they are. -/
def execSnapshotClaimTimeout (p id : Nat) (s : State) : Host.Outcome State Fault Refusal :=
  .next (match s.strm? p id with
    | none => s
    | some t =>
      let before := t.inflight.takeWhile (fun x => x.2.typ == 9)
      let behind := (t.inflight.drop before.length).map (·.2) ++ t.queue
      match behind with
      | [] => s
      | i :: rest =>
        let begun := before.length < t.inflight.length || 0 < t.offset
        if s.live ∧ t.kind = kSnapshots ∧ i.typ = 4 ∧ begun = true ∧ t.snapAt + 2 * ticksOfMs (s.rd WAG.LEASE.MS) ≤ s.now then
          let roll := s.itemRoll t i
          let keep := t.unacked.take before.length
          let seq := match t.unacked.drop before.length with
            | k :: _ => k.seq
            | [] => t.nextSeq
          let s := (s.endClaim p id i).endReads (tagStream p id)
          s.modStrm p id (fun t => { t with
            queue := addSkip [] skipSnapTimeout i.number i.number roll ++ rest
            inflight := before, unacked := keep, nextSeq := seq, offset := 0, asked := false
            resend := match t.resend with
              | some i => if i < keep.length then some i else none
              | none => none })
        else s)

/-! ### Links and register writes of the ports (R381, R402, R412) -/

/-- The link bits of a group (R417). -/
def State.linkBits (s : State) (g : Nat) : Nat :=
  if s.on (HPT.Gg_CFG.MODE g) then 15 * b2n (s.on (HPT.Pp_STATUS.LINK (4 * g)))
  else ((List.range 4).map (fun i => if s.on (HPT.Pp_STATUS.LINK (4 * g + i)) then 2 ^ i else 0)).sum

/-- The link of port `p` comes up or goes down: event WAG_LINK; a drop is counted and the session goes to ABSENT (R389). -/
def State.setLink (s : State) (p : Nat) (up : Bool) : State :=
  if s.on (HPT.Pp_STATUS.LINK p) = up then s
  else
    let s := s.put (HPT.Pp_STATUS.LINK p) up
    let b := s.linkBits (p / 4)
    let s := (s.wr (HPT.Gg_STATUS.LINK (p / 4)) b).wr (HPT.Gg_STATUS.TRAINED (p / 4)) b
    let s := s.event 0x0254 [p]
    if up then s else ((s.countPlain (HPT.Gg_STATUS.DROPS (p / 4)) 1).stat p .drops 1).goAbsent p

/-- LINK_CHANGE (R381, R389): the link of a present port comes up or goes down. -/
def execLinkChange (p : Nat) (up : Bool) (s : State) : Host.Outcome State Fault Refusal :=
  .next (if s.up ∧ s.portPresent p ∧ (¬ up ∨ s.on (HPT.Pp_CTL.EN p)) then s.setLink p up else s)

/-- DARK entry at the ports (R413): STATUS DARK to each OPEN session, leases released, sessions ABSENT, links down. -/
def State.portsDark (s : State) : State :=
  let s := s.statusAll ([3, 0, 0, 0] ++ leBytes 8 s.ticks)
  let s := (List.range 9).foldl (fun s i => match s.leaseHolder i with
    | some p => (s.setLease i none 0).leaseEvent i p
    | none => s) s
  (List.range 64).foldl (fun s p => (s.goAbsent p).setLink p false) s

/-- Image adoption at the ports (R413): sessions whose key entry is unchanged are kept, others end. `old` is the entry before. -/
def State.portsAdopt (s : State) (old : Nat → Option HostKey) : State :=
  (List.range 64).foldl (fun s p =>
    let h := s.rd (HPT.Pp_HOST.HOST_ID p)
    if s.session p ≠ sesIdle ∧ s.keyEntry h ≠ old h then s.endSession p else s) s

/-- Values refused with VALUE (R417). -/
def WAG.valueBad (s : State) (n : Fld → Nat) (f : Fld) : Bool :=
  (f = WAG.CFG.ETHERTYPE && n f < 0x600) ||
  (f = WAG.TIMERS.RTO_US && n f < 20) ||
  (f = WAG.TIMERS.ABSENT_MS && (n f < 50 || 10000 < n f || s.rd WAG.LEASE.MS ≤ n f)) ||
  (f = WAG.LEASE.MS && (n f < 100 || 60000 < n f || n f ≤ s.rd WAG.TIMERS.ABSENT_MS)) ||
  (f = WAG.LEASE.RESUME_S && 3600 < n f) ||
  (List.range 16).any (fun g => (f = HPT.Gg_CFG.FEC g || f = HPT.Gg_CFG.MODE g) &&
    n (HPT.Gg_CFG.FEC g) != 0 && n (HPT.Gg_CFG.MODE g) != 0) ||
  (List.range 64).any (fun p => f = HPT.Pp_VLAN.VID p && (n f = 4095 || n f = 0))

/-- What a write of port registers does beside its value: a group drops and retrains, a port turned off loses its link, a closed
port reopens, counters clear (R381, R402, R412, R417). -/
def WAG.onWrite (f : Fld) (v : Nat) (s : State) : State :=
  if f = WAG.VIEW.CLEAR then
    if v = 0 then s
    else s.modPort (s.rd WAG.VIEW.PORT) (fun q => { q with stats := List.replicate 16 0 })
  else match (List.range 16).find? (fun g => f.addr = (HPT.Gg_CFG.MODE g).addr) with
  | some g =>
    let s := (List.range 4).foldl (fun s i => s.setLink (4 * g + i) false) s
    (List.range 4).foldl (fun s i => s.goAbsent (4 * g + i)) s
  | none => match (List.range 64).find? (fun p => f.addr = (HPT.Pp_CTL.EN p).addr) with
    | some p =>
      if f = HPT.Pp_CTL.EN p then (if v = 0 then (s.goAbsent p).setLink p false else s)
      else if f = HPT.Pp_CTL.REOPEN p ∧ v = 1 then
        (s.put (HPT.Pp_STATUS.CLOSED p) false).modPort p (fun q => { q with hostile := [] })
      else s
    | none => s

end Sys2Proof.Machine
end

