-- ==== Sys2Proof/Machine/Sec.lean ====
section
/-! DEFINITION. Tokens, attestation, manifests and the audit log (15_roles_and_provenance.md). -/

namespace Sys2Proof.Machine

/-! ### Signing (R471, R476) -/

/-- The identity key's signature over `msg`: 17,088 bytes. -/
def identitySig (msg : List Nat) : List Nat := slice (Config.identitySign msg) 0 17088

/-- The security registers that show the state of the signing queue, the manifests, the ledger and the keys are read from
there (R487); what a start or a change of owner writes stands in the registers. -/
def State.showOwner (s : State) : State :=
  (s.put SEC.STATE.CLAIMED s.led.owner.isSome).put SEC.STATE.RELEASE_PENDING s.led.releasePending

/-! ### Tokens (R463 to R466, R469, R470) -/

/-- Bytes of a payload of a kind; none for an unknown kind. -/
def tokenPayload (kind : Nat) : Option Nat := match kind with
  | 1 => some 80
  | 2 => some 36
  | 3 => some 44
  | 4 => some 4
  | 5 => some 40
  | 8 => some 0
  | 9 => some 0
  | 10 => some 0
  | _ => none

/-- The token in the aperture, if layout, length, kind and reserved fields stand (R463). -/
def parseToken (bs : List Nat) (a : Att) : Option Token :=
  let kind := bs.getD 3 0
  let signer := bs.getD 0x14 0
  match tokenPayload kind with
  | none => none
  | some n =>
    let p := slice bs 0x18 n
    let enrolOk := kind != 3 || ((p.getD 4 0 == 1 || p.getD 4 0 == 2) && p.getD 5 0 < 4 && p.getD 6 0 < 2 && p.getD 7 0 == 0)
    if le bs 0 2 = 0xF5AC ∧ bs.getD 2 0 = 1 ∧ le bs 4 4 = bs.length ∧ bs.length = 0x18 + n + 7856 ∧ zeroAt bs 0x15 3 = true ∧
        signer = (if kind < 8 then 1 else 2) ∧ enrolOk = true then
      some ⟨kind, signer, le bs 0x10 4, p, a⟩
    else none

/-- A token's check ends with a result: event SEC_TOKEN (R464). -/
def State.tokenResult (s : State) (kind result : Nat) : State :=
  let s := { s with sec := { s.sec with token := none } }
  (((s.wr SEC.TOKEN_STATUS.RESULT result).put SEC.TOKEN_STATUS.BUSY false).wr SEC.TOKEN_STATUS.KIND (kind % 256)).event 0x0282
    [kind, result]

/-- SUBMIT of a token of `len` bytes: the first five checks, and the token waits for the rest (R464). -/
def State.tokenSubmit (s : State) (a : Att) (len : Nat) : State :=
  let bs := Memory.read 0 s.sec.aperture 0 len
  let kind := bs.getD 3 0
  match parseToken bs a with
  | none => s.tokenResult kind 1
  | some t =>
    let last := if t.signer = 1 then s.sec.lastInst else s.sec.lastMaker
    let cnt := if t.signer = 1 then s.led.instCnt else s.led.makerCnt
    let soon := match last with
      | some x => decide (s.now < x + ticksOfS 1)
      | none => false
    if le bs 8 8 ≠ s.led.serial then s.tokenResult kind 2
    else if t.signer = 1 ∧ s.led.owner.isNone then s.tokenResult kind 3
    else if soon = true then s.tokenResult kind 4
    else if t.counter ≤ cnt ∨ (t.counter = 0xFFFFFFFF ∧ kind ≠ 1) then s.tokenResult kind 5
    else ({ s with sec := { s.sec with token := some t } }.put SEC.TOKEN_STATUS.BUSY true).wr SEC.TOKEN_STATUS.KIND kind

/-- What refuses a token after its first five checks, 0 for nothing: signature, audit log, attachment, CLAIM_N, and the
condition of its kind. -/
def State.tokenVerdict (s : State) (t : Token) (sig : Bool) (kindOk : Bool) : Nat :=
  if ¬ sig then 6
  else if s.auditFull ∧ t.kind ≠ 5 then 7
  else if t.kind = 3 ∧ t.att ≠ .i3c then 8
  else if t.kind = 8 ∧ ¬ s.on SEC.STATE.CLAIM_PIN then 9
  else if ¬ kindOk then 10
  else 0

/-- An audit entry of a token: role of its signer, its attachment (R464, R481). -/
def State.auditToken (s : State) (t : Token) (kind p0 p1 p2 p3 : Nat) : State :=
  s.audit kind (t.signer + 1) (attNum t.att) (s.hostOf t.att) p0 p1 p2 p3

/-- The token whose check goes on: none in DARK and HALTED (R522). -/
def State.checking (s : State) : Option Token := if s.live && s.dev != devDark then s.sec.token else none

/-- A token of `kind` that waits is judged and, where accepted, acts: its audit entry, the signer's counter, then the
effect (R464, R465). -/
def State.tokenAct (s : State) (kind : Nat) (sig : Bool) (ok : Token → Bool) (entry : Token → State → State)
    (run : Token → State → State) : State := match s.checking with
  | none => s
  | some t =>
    if t.kind ≠ kind then s
    else match s.tokenVerdict t sig (ok t) with
      | 0 =>
        let s := entry t s
        let s := if t.signer = 1 then
            { s with led := { s.led with instRing := s.led.instRing.put t.counter }, sec := { s.sec with lastInst := some s.now } }
          else { s with led := { s.led with makerRing := s.led.makerRing.put t.counter }, sec := { s.sec with lastMaker := some s.now } }
        (run t s).tokenResult kind 0
      | r => s.tokenResult kind r

/-- KEY_PASS (R465, R466): the owner record takes both new keys; the installer counter restarts at 0. -/
def execTokKeyPass (sig : Bool) (s : State) : Host.Outcome State Fault Refusal :=
  .next (s.tokenAct 1 sig (fun _ => true)
    (fun t s =>
      let d := sha256 (slice t.payload 48 32)
      s.auditToken t 3 t.counter (le d 0 4) (le d 4 4) 0)
    (fun t s => { s with led := { s.led with
      instRing := s.led.instRing.put 0, fixedWrites := s.led.fixedWrites + 1
      owner := s.led.owner.map (fun o => { o with imageKey := slice t.payload 0 48, tokenKey := slice t.payload 48 32 }) } }))

/-- ENROL (R465): the key entry of a host is written or replaced. -/
def execTokEnrol (sig : Bool) (s : State) : Host.Outcome State Fault Refusal :=
  .next (s.tokenAct 3 sig
    (fun t => s.led.hosts.length < 256 || s.led.hosts.any (fun h => h.hostId == le t.payload 0 4))
    (fun t s => s.auditToken t 6 (le t.payload 0 4) (le t.payload 4 2) (le t.payload 8 4) t.counter)
    (fun t s =>
      let h : HostKey := ⟨le t.payload 0 4, t.payload.getD 4 0, t.payload.getD 5 0, t.payload.getD 6 0, le t.payload 8 4,
        slice t.payload 12 32⟩
      let known := s.led.hosts.any (fun x => x.hostId == h.hostId)
      { s with led := { s.led with fixedWrites := s.led.fixedWrites + 1, hosts :=
        if known then s.led.hosts.map (fun x => if x.hostId = h.hostId then h else x) else s.led.hosts ++ [h] } }))

/-- The I3C record changed. -/
def State.modI3c (s : State) (f : I3cSt → I3cSt) : State := { s with i3c := f s.i3c }

/-- The I3C attachment returns to operator (R556, R557); a pass-through session closes, after the operation that runs (R563). -/
def State.i3cLogout (s : State) : State :=
  let s := if s.i3c.flashOp.isSome then s.modI3c (fun x => { x with flashClose := true }) else s.wr I3C.FLASH_STATUS.STATE 0
  ((s.put I3C.STATUS.AUTH false).wr I3C.STATUS.ROLE 1).modI3c (fun x => { x with hostId := 0, rights := 3, nonceLive := false })

/-- REVOKE (R465): the entry is erased and the host's sessions end. -/
def execTokRevoke (sig : Bool) (s : State) : Host.Outcome State Fault Refusal :=
  .next (s.tokenAct 4 sig
    (fun t => s.led.hosts.any (fun h => h.hostId == le t.payload 0 4))
    (fun t s => s.auditToken t 7 (le t.payload 0 4) t.counter 0 0)
    (fun t s =>
      let id := le t.payload 0 4
      let s := { s with led := { s.led with hosts := s.led.hosts.filter (fun h => h.hostId != id), fixedWrites := s.led.fixedWrites + 1 } }
      let s := (List.range 64).foldl (fun (s : State) p =>
        if s.session p ≠ sesIdle ∧ s.rd (HPT.Pp_HOST.HOST_ID p) = id then s.endSession p else s) s
      if s.on I3C.STATUS.AUTH ∧ s.i3c.hostId = id then s.i3cLogout else s))

/-- Entries of the audit log up to a sequence. -/
def State.auditUpTo (s : State) (seq : Nat) : Nat := (s.led.audit.filter (fun e => e.seq ≤ seq)).length

/-- AUDIT_ACK (R480): the entries up to the newest export's last sequence are free. -/
def execTokAuditAck (sig : Bool) (s : State) : Host.Outcome State Fault Refusal :=
  .next (s.tokenAct 5 sig
    (fun t => !s.sec.export_.isEmpty && le t.payload 0 8 == s.sec.exportLast && slice t.payload 8 32 == sha256 s.sec.export_)
    (fun t s => s.auditToken t 11 (s.sec.exportLast % 2 ^ 32) (s.sec.exportLast / 2 ^ 32) (s.auditUpTo s.sec.exportLast) t.counter)
    (fun _ s => { s with led := { s.led with audit := s.led.audit.filter (fun e => s.sec.exportLast < e.seq) } }.wr
      LGR.EXPORT_STATUS.STATE 3))

/-- RELEASE (R465, R469): a release is pending until the next reset. -/
def execTokRelease (sig : Bool) (s : State) : Host.Outcome State Fault Refusal :=
  .next (s.tokenAct 8 sig (fun _ => true)
    (fun t s => s.auditToken t 4 0 t.counter 0 0)
    (fun _ s => { s with led := { s.led with releasePending := true } }.showOwner))

/-- Diagnostic service mode ends: event SEC_SERVICE (R470). -/
def State.serviceStop (s : State) : State :=
  if s.sec.service.isSome then ({ s with sec := { s.sec with service := none } }.put SEC.STATE.SERVICE false).event 0x0284 [] else s

/-- SERVICE (R470): diagnostic service mode begins, with the maker role of the attachment that brought the token. -/
def execTokService (sig : Bool) (s : State) : Host.Outcome State Fault Refusal :=
  .next (s.tokenAct 9 sig (fun _ => true)
    (fun t s => s.auditToken t 12 1 t.counter 0 0)
    (fun t s => ({ s with sec := { s.sec with service := some t.att } }.put SEC.STATE.SERVICE true).event 0x0284 []))

/-- SERVICE_END (R470). -/
def execTokServiceEnd (sig : Bool) (s : State) : Host.Outcome State Fault Refusal :=
  .next (s.tokenAct 10 sig (fun _ => true)
    (fun t s => s.auditToken t 12 0 t.counter 0 0)
    (fun _ s => s.serviceStop))

/-! ### Attestation (R472, R473) -/

/-- The next manifest number (R475): that of the open manifest or of the next one. -/
def State.manNext (s : State) : Nat :=
  if s.sec.nextManifest < s.sec.manLimit then s.sec.nextManifest else s.led.manBlock * 65536

/-- The image in force's digest and anti-rollback counter. -/
def State.imageDigest (s : State) : List Nat := match s.image with
  | some im => slice im.digest 0 32
  | none => List.replicate 32 0
@[inherit_doc State.imageDigest] def State.imageRollback (s : State) : Nat := match s.image with
  | some im => im.rollback
  | none => 0

/-- Bytes 0x000 to 0x10F of a statement (R472). -/
def State.attestBody (s : State) (nonce : List Nat) : List Nat :=
  let owner := match s.led.owner with
    | some o => sha256 o.tokenKey
    | none => List.replicate 32 0
  leBytes 2 0xF5AE ++ [1, b2n s.led.owner.isSome + 2 * b2n s.sec.service.isSome] ++ leBytes 4 17360 ++ leBytes 8 s.led.serial
    ++ leBytes 8 s.ticks ++ leBytes 2 (s.tb % 65536) ++ leBytes 2 (s.rd TB.STATE.TB_STATE) ++ leBytes 4 0
    ++ slice nonce 0 32 ++ s.imageDigest
    ++ leBytes 4 s.imageRollback ++ leBytes 4 s.led.instCnt ++ leBytes 4 s.led.makerCnt ++ leBytes 4 s.led.audit.length
    ++ leBytes 8 (match s.led.audit with | e :: _ => e.seq | [] => s.led.auditSeq - 1) ++ leBytes 8 s.manNext
    ++ ((List.range 8).map (fun n => leBytes 4 (s.rd (CAL.COUNT.COUNT n)))).flatten
    ++ ((List.range 8).map (fun n => leBytes 4 (s.rd (CAL.EPOCH.EPOCH (s.lead n))))).flatten
    ++ [s.rd SEC.STATE.CERT, 0, 0, 0] ++ leBytes 4 s.led.neyrelKeyId ++ [s.rd CAL.CERT_STATUS.INDEX % 256, 0, 0, 0, 0, 0, 0, 0]
    ++ slice (sha256 s.led.certificate) 0 32 ++ slice owner 0 32

/-- A statement of an attachment is being signed. -/
def State.attesting (s : State) (a : Att) : Bool := s.sec.attestQ.any (fun x => x.att == a)

/-- A statement queued for its signature; what it says is taken now. -/
def State.attestStart (s : State) (a : Att) (nonce req : List Nat) : State :=
  { s with sec := { s.sec with attestQ := s.sec.attestQ ++ [Attest.mk a (s.attestBody nonce) req] } }.signBegin

/-- WAG_ATTEST (R473): a statement is requested with the request's nonce. -/
def execWagAttest (p : Nat) (e : EthFrame) (s : State) : Host.Outcome State Fault Refusal :=
  .next (s.control p e (fun req => req.getD 0 0 == 7) (fun req s =>
    if req.length ≠ 40 then s.respond p req 5 0 0 []
    else if ¬ (s.port p).rights.testBit 1 then s.respond p req 1 0 0 []
    else if s.attesting (.port p) then s.respond p req 2 0 0 []
    else s.attestStart (.port p) (slice req 8 32) (slice req 0 4)))

/-- The engine has finished; it goes on with what comes next. -/
def State.signNext (s : State) : State := { s with sec := { s.sec with signing := 0 } }.signBegin

/-- ATTESTATION_SIGNED (R472, R473): the oldest statement is signed and in its attachment's view; a CONTROL request has its
response, and those that waited behind it follow. -/
def execAttestationSigned (s : State) : Host.Outcome State Fault Refusal :=
  .next (match s.sec.attestQ with
    | [] => s
    | x :: rest =>
      if s.live ∧ s.sec.signing = 2 then
        let doc := x.body ++ identitySig x.body
        let s := { s with sec := { s.sec with attestQ := rest } }
        let s := match x.att with
          | .i3c => { s with sec := { s.sec with i3cAttest := doc } }
          | .port p =>
            let s := s.modPort p (fun q => { q with attest := doc })
            if x.req.isEmpty then s
            else
              let s := s.respond p x.req 0 0 0 (leBytes 4 doc.length)
              let more := (s.port p).waitResp
              (s.modPort p (fun q => { q with waitResp := [] })).modStrm p 0 (fun t => { t with
                queue := t.queue ++ more.map (fun bs => Item.mk 3 0 (.bytes bs) 0) })
        s.signNext
      else s)

/-! ### Manifests (R474 to R478) -/

/-- MANIFEST_CLOSE (R475): the open manifest's period has passed. -/
def execManifestClose (s : State) : Host.Outcome State Fault Refusal :=
  .next (
    if s.live ∧ ¬ s.sec.leaves.isEmpty ∧ s.sec.openedAt + ticksOfMs s.sec.periodMs ≤ s.now then s.closeManifest else s)

/-- Input of a leaf: its kind and digest. -/
def Leaf.input (l : Leaf) : List Nat := l.kind :: slice l.digest 0 32

/-- Root of a manifest (R476): the Merkle tree hash over its leaf inputs. -/
def Manifest.root (m : Manifest) : List Nat := slice (merkle 32 (m.leaves.map Leaf.input)) 0 32

/-- The signed manifest over a run of closed ones, before its signature (R477). -/
def State.manifestBody (s : State) (ms : List Manifest) : List Nat :=
  let n := ms.length
  leBytes 2 0xF5AB ++ [1, b2n (1 < n)] ++ leBytes 4 (0x50 + 48 * n + 17088) ++ leBytes 8 s.led.serial
    ++ leBytes 8 ((ms.head?.map Manifest.number).getD 0) ++ leBytes 2 n ++ [0, 0] ++ leBytes 4 s.imageRollback ++ s.imageDigest
    ++ leBytes 8 s.sec.signTb ++ List.replicate 8 0
    ++ (ms.map (fun m => leBytes 4 m.leaves.length ++ leBytes 4 0 ++ leBytes 8 m.closedTb ++ m.root)).flatten

/-- MANIFEST_SIGNED (R476 to R478): the oldest queue entry is signed, held among the newest 256, and goes with its leaf
inputs to every MANIFESTS stream. -/
def execManifestSigned (s : State) : Host.Outcome State Fault Refusal :=
  .next (match s.sec.queue with
    | [] => s
    | ms :: rest =>
      if s.live ∧ s.sec.signing = 1 then
        let body := s.manifestBody ms
        let doc := body ++ identitySig body
        let first := (ms.head?.map Manifest.number).getD 0
        let item := doc ++ ((ms.map (fun m => (m.leaves.map Leaf.input).flatten)).flatten)
        let s := { s with sec := { s.sec with queue := rest, signed := (Signed.mk first ms.length doc :: s.sec.signed).take 256 } }
        let no := first % 2 ^ 32
        let s := (s.streamsOf kManifests).foldl (fun (s : State) pt =>
          (s.offer pt.1 pt.2.id ⟨8, no, .bytes (itemPrefix 7 0 no item.length ++ item), 0⟩ no ((no + ms.length - 1) % 2 ^ 32) 0).1) s
        s.leafSync.signNext
      else s)

/-- SIGN_TIMEOUT (R476): a signature has not ended within 100 ms of its start. -/
def execSignTimeout (s : State) : Host.Outcome State Fault Refusal :=
  .next (if s.live ∧ s.sec.signing ≠ 0 ∧ s.sec.signAt + ticksOfMs 100 ≤ s.now then s.halt 0x0650 0 0 else s)

/-- KNOWN_ANSWER_TEST (R479, R536): a round of tests, every 1 s; `failed` is the engine whose result was not the known one. -/
def execKnownAnswerTest (failed : Option Nat) (s : State) : Host.Outcome State Fault Refusal :=
  .next (
    if s.up ∧ s.sec.katAt + ticksOfS 1 ≤ s.now then
      let s := { s with sec := { s.sec with katAt := s.now } }
      match failed with
      | none => s.countPlain SEC.KAT.PASSES 1
      | some engine => s.halt 0x0651 engine 0
    else s)

/-! ### The export (R480, R482) -/

/-- One entry of the certified-value history (R90). -/
def CertEntry.bytes (e : CertEntry) : List Nat :=
  leBytes 4 e.index ++ leBytes 4 e.value ++ leBytes 4 e.unc ++ [e.k % 256] ++ leBytes 3 e.certId ++ leBytes 8 e.tb
    ++ (e.firstEpoch.map (leBytes 4)).flatten ++ List.replicate 8 0

/-- An export of every entry held, before its signature (R482). -/
def State.exportBody (s : State) (cal : Bool) : List Nat :=
  let es := s.led.audit.reverse
  let first := match es with | e :: _ => e.seq | [] => s.led.auditSeq
  let last := match s.led.audit with | e :: _ => e.seq | [] => s.led.auditSeq - 1
  let cert := (s.led.certs.reverse.map CertEntry.bytes).flatten
  let ring := if cal then (s.led.calRing.reverse).flatten else []
  let len := 64 + 64 * es.length + 16384 + (if cal then 2097152 else 0) + 17088
  leBytes 2 0xF5AF ++ [1, b2n cal] ++ leBytes 4 len ++ leBytes 8 s.led.serial ++ leBytes 8 first ++ leBytes 8 last
    ++ leBytes 4 es.length ++ leBytes 4 (if cal then 1024 else 0) ++ List.replicate 24 0
    ++ (es.map AuditEntry.bytes).flatten ++ slice cert 0 16384 ++ (if cal then slice ring 0 2097152 else [])

/-- An export is requested: the entries held now (R480). -/
def State.exportStart (s : State) (a : Att) (cal : Bool) : State :=
  let last := match s.led.audit with | e :: _ => e.seq | [] => s.led.auditSeq - 1
  let n := s.led.audit.length
  let s := { s with sec := { s.sec with building := some (last, s.exportBody cal) } }.wr LGR.EXPORT_STATUS.STATE 1
  (s.auditBy a 10 (last % 2 ^ 32) (last / 2 ^ 32) n 0).signBegin

/-- EXPORT_READY (R482): the export is signed and stands in the export view. -/
def execExportReady (s : State) : Host.Outcome State Fault Refusal :=
  .next (match s.sec.building with
    | none => s
    | some (last, body) =>
      if s.sec.signing = 3 then
        let doc := body ++ identitySig body
        let s := { s with sec := { s.sec with export_ := doc, exportLast := last, building := none } }
        ((s.wr LGR.EXPORT_STATUS.STATE 2).wr LGR.EXPORT_STATUS.LENGTH_KB (ceilDiv doc.length 1024)).signNext
      else s)

/-! ### Register rules of the blocks -/

/-- Values refused with VALUE (R488). -/
def SEC.valueBad (n : Fld → Nat) (f : Fld) : Bool :=
  (f = SEC.TOKEN_CTL.LENGTH && (n f = 0 || 16384 < n f)) ||
  (f = SEC.MANIFEST.PERIOD_MS && n f < 10)

/-- Writes a state refuses: a statement or an export already in the making (R473, R482). -/
def SEC.stateBad (s : State) (a : Att) (n : Fld → Nat) (f : Fld) : Bool :=
  (f = SEC.ATTEST_CTL.GO && n f != 0 && s.attesting a) ||
  (f = LGR.EXPORT_CTL.GO && n f != 0 && s.sec.building.isSome)

/-- What a write of control registers starts. `n` gives the values of the word written. -/
def SEC.onWrite (a : Att) (n : Fld → Nat) (f : Fld) (s : State) : State :=
  if f = SEC.TOKEN_CTL.SUBMIT ∧ n f = 1 then
    if s.sec.token.isSome then (s.wr SEC.TOKEN_STATUS.RESULT 11).event 0x0282 [s.rd SEC.TOKEN_STATUS.KIND, 11]
    else s.tokenSubmit a (n SEC.TOKEN_CTL.LENGTH)
  else if f = SEC.ATTEST_CTL.GO ∧ n f = 1 then
    s.attestStart a ((List.range 8).map (fun k => leBytes 4 (s.rd (SEC.NONCEk.WORD k)))).flatten []
  else if f = LGR.EXPORT_CTL.GO ∧ n f = 1 then s.exportStart a (n LGR.EXPORT_CTL.CAL == 1)
  else s

end Sys2Proof.Machine
end

