-- ==== Sys2Proof/Machine/Image.lean ====
section
/-! DEFINITION. The Waliq image (16_configuration_image_and_profiles.md): its layout, its verification, and how a verified
image is loaded. -/

namespace Sys2Proof.Machine

/-! ### Tables (R497 and the rules of their chapters) -/

/-- A run of u16 entries. -/
def u16s (bs : List Nat) (off n : Nat) : List Nat := (List.range n).map (fun i => le bs (off + 2 * i) 2)

/-- Values never fall. -/
def nonDecreasing : List Nat → Bool
  | a :: b :: l => decide (a ≤ b) && nonDecreasing (b :: l)
  | _ => true

/-- Format word and length word of a table. -/
def tableHead (bs : List Nat) (len : Nat) : Bool := le bs 0 2 == 1 && le bs 2 2 == len && bs.length == len

/-- A curve seed (R158, R202). -/
def seedOk (bs : List Nat) : Bool := tableHead bs 516 && nonDecreasing (u16s bs 4 256)

/-- A qualifier of a sequencer table (R190, R191, R193). -/
def qualifierOk (q : Nat) : Bool :=
  let kind := q % 256
  let arg := bits q 8 6
  kind ≤ 6 && !q.testBit 14 && arg < (match kind with | 0 => 64 | 1 => 4 | 2 => 4 | 3 => 2 | 4 => 8 | 5 => 24 | _ => 8)

/-- A sequencer table (R190, R193). -/
def sequencerOk (bs : List Nat) : Bool :=
  let n := bs.getD 4 0
  tableHead bs 1088 && 1 ≤ n && n ≤ 16 && bs.getD 5 0 < n && zeroAt bs 6 2
    && (List.range 4).all (fun i => let v := le bs (8 + 8 * i) 8; 1 ≤ v && v < 2 ^ 48)
    && (List.range 2).all (fun i => 1 ≤ le bs (0x28 + 4 * i) 4) && zeroAt bs 0x30 16
    && (List.range 64).all (fun e =>
      let o := 0x40 + 16 * e
      let valid := (bs.getD (o + 11) 0).testBit 0
      bits (le bs o 8) 49 15 == 0 && qualifierOk (le bs (o + 8) 2) && bs.getD (o + 11) 0 < 2
        && bits (le bs (o + 12) 4) 2 2 == 0 && bits (le bs (o + 12) 4) 16 16 == 0
        && (!valid || (e / 4 < n && bs.getD (o + 10) 0 < n)))

/-- One stage of a coefficient set: symmetric for phase 0; for phase 1 with a sum and a DC delay within the taps (R260). -/
def stageOk (phase : Nat) (h : List Int) : Bool :=
  if h.isEmpty then true
  else if phase = 0 then h == h.reverse
  else
    let sum := h.sum
    let d := ((List.zip (List.range h.length) h).map (fun x => (x.1 : Int) * x.2)).sum
    sum != 0 && (if 0 < sum then decide (0 ≤ d) && decide (d ≤ ((h.length : Int) - 1) * sum)
      else decide (d ≤ 0) && decide (((h.length : Int) - 1) * sum ≤ d))

/-- A coefficient set (R250, R259, R260). -/
def coefSetOk (bs : List Nat) : Bool :=
  let rA := bs.getD 5 0
  let rC := bs.getD 6 0
  let tA := le bs 8 2
  let tC := le bs 10 2
  let h := fun (off n : Nat) => (List.range n).map (fun i => toSigned 32 (le bs (off + 4 * i) 4))
  let a := h 16 tA
  let c := h (16 + 4 * tA) tC
  tableHead bs (16 + 4 * (tA + tC)) && bs.length ≤ 3088 && bs.getD 4 0 < 2 && 1 ≤ rA && rA ≤ 16 && 1 ≤ rC && rC ≤ 16
    && bs.getD 7 0 == 0 && tA ≤ 16 * rA && tA ≤ 256 && tC ≤ 512 && bs.getD 12 0 < 64 && bs.getD 13 0 < 64 && zeroAt bs 14 2
    && (tA != 0 || rA == 1) && (tC != 0 || rC == 1)
    && a.all (fitsS 18) && c.all (fitsS 24) && stageOk (bs.getD 4 0) a && stageOk (bs.getD 4 0) c

/-- A DCO band table (R126). -/
def bandsOk (bs : List Nat) : Bool :=
  let n := bs.length / 12
  let l := bandsOf bs
  bs.length == 12 * n && 1 ≤ n && n ≤ 32 && l.all (fun b => b.1 < b.2) && nonDecreasing (l.map (·.1))
    && (List.range n).all (fun i => le bs (12 * i + 8) 2 < 1024 && zeroAt bs (12 * i + 10) 2)

/-- Valid ranges of the limits from 0x08 on (R105). -/
def limitRanges : List (Int × Int) :=
  [(1, 32767), (1, 32767), (1, 32767), (1, 4096), (14680064, 18874368), (14680064, 18874368), (1, 1000000), (1, 1000000),
   (1, 100000), (1, 400), (1, 800), (1, 10000), (98304, 163840), (98304, 163840), (1, 131072)] ++
  [(1, 131072), (1, 131072), (1, 32767), (1, 65535), (1, 4096), (1, 32767), (1000, 50000), (1, 50000), (1, 4194304),
   (-800, -100), (-600, 0), (1, 4096), (1, 100000), (1, 10000), (1, 131072)]

/-- A plausibility limits table (R105). A mode mask with bits beyond the three named is refused (DESIGN CHOICE,
notes/assumptions/110.md). -/
def limitsOk (bs : List Nat) : Bool :=
  tableHead bs 128 && bs.getD 4 0 != 0 && bs.getD 4 0 < 8 && zeroAt bs 5 3
    && (List.zip (List.range 30) limitRanges).all (fun x =>
      let v := toSigned 32 (le bs (8 + 4 * x.1) 4)
      decide (x.2.1 ≤ v) && decide (v ≤ x.2.2))
    && le bs 0x18 4 < le bs 0x1C 4 && le bs 0x38 4 < le bs 0x3C 4

/-- One table of a kind (R497). -/
def tableOk (t : Table) : Bool :=
  let bs := t.bytes
  let high0 := (List.range 16).all (fun i => le bs (4 + 2 * (240 + i)) 2 == 0)
  match t.kind with
  | 1 => t.number < 32 && sequencerOk bs
  | 2 => t.number < 64 && coefSetOk bs
  | 3 => t.number < 3 && seedOk bs
  | 4 => t.number < 65 && seedOk bs
  | 5 => t.number < 16 && tableHead bs 516 && high0 && (u16s bs 4 256).all (fun v => decide (v < 1024))
  | 6 => t.number < 16 && tableHead bs 516 && high0
  | 7 => t.number < 16 && tableHead bs 36 && (u16s bs 4 16).all (fun v => decide (v < 1024))
  | 8 => t.number < 6 && bandsOk bs
  | 9 => t.number < 3 && limitsOk bs
  | 10 => t.number == 0 && tableHead bs 36 && (u16s bs 4 16).all (fun v => v / 2048 == 0)
  | _ => false

/-- Kind and number rise through the directory. -/
def tablesRise : List Table → Bool
  | a :: b :: l => (decide (a.kind < b.kind) || (a.kind == b.kind && decide (a.number < b.number))) && tablesRise (b :: l)
  | _ => true

/-- The tables of the TABLES section. -/
def parseTables (bs : List Nat) : List Table :=
  (List.range (le bs 2 2)).map (fun i =>
    let o := 4 + 12 * i
    ⟨bs.getD o 0, bs.getD (o + 1) 0, slice bs (le bs (o + 4) 4) (le bs (o + 8) 4)⟩)

/-- The TABLES section: directory, order, each table, and those required (R105, R259, R497). -/
def tablesOk (bs : List Nat) : Bool :=
  let n := le bs 2 2
  let ts := parseTables bs
  let nums := fun (k : Nat) => (ts.filter (fun t => t.kind == k)).map Table.number
  let masks := (ts.filter (fun t => t.kind == 9)).map (fun t => t.bytes.getD 4 0)
  le bs 0 2 == 1 && 4 + 12 * n ≤ bs.length
    && (List.range n).all (fun i => zeroAt bs (4 + 12 * i + 2) 2 && le bs (8 + 12 * i) 4 + le bs (12 + 12 * i) 4 ≤ bs.length)
    && tablesRise ts && ts.all tableOk
    && nums 2 == List.range (nums 2).length && nums 3 == List.range 3 && nums 4 == List.range 65 && nums 8 == List.range 6
    && nums 10 == [0] && (List.range 3).all (fun m => (masks.filter (fun k => k.testBit m)).length == 1)

/-! ### Programs (R336 to R338) -/

/-- Words of X and of Y that a binding's buffers take, as places. -/
def Binding.span (b : Binding) : Nat × Nat := (b.base, b.base + b.buffers * b.words)

/-- Two bindings' buffers share a word. -/
def Binding.overlaps (a b : Binding) : Bool :=
  let mem := fun (x : Binding) (y : Bool) => if y then x.memory != 0 else x.memory != 1
  (mem a false && mem b false || mem a true && mem b true) && a.span.1 < b.span.2 && b.span.1 < a.span.2

/-- One binding (R337, R338). -/
def bindingOk (b : Binding) : Bool :=
  b.port < 16 && b.memory < 4 &&
  (match b.kind with
    | 4 => b.buffers == 0 && b.param < 16
    | 1 => true
    | 2 => b.source < 8
    | 3 => b.source < 65 && 1 ≤ b.param && b.param ≤ 16777216
    | 5 => b.source < 8 && b.param < 2
    | _ => false) &&
  (b.kind == 4 || (1 ≤ b.buffers && b.buffers ≤ 16 && 49 ≤ b.words && b.words ≤ 16384 && b.span.2 ≤ 16384
    && (b.memory == 1 || 64 ≤ b.base)))

/-- Elements are pairwise unrelated by `r`. -/
def pairwiseNot {α : Type} (r : α → α → Bool) : List α → Bool
  | [] => true
  | a :: l => l.all (fun b => !r a b) && pairwiseNot r l

/-- A program object of `bs`, `reserved` in the MAKER section (R336 to R338). -/
def progOk (bs : List Nat) (reserved : Bool) : Bool :=
  let (b, p, x, y) := progCounts bs
  let binds := progBinds bs
  let raw := 32 + 16 * b + 6 * p + 3 * (x + y)
  le bs 0 2 == 1 && b ≤ 16 && le bs 4 4 == ceilDiv raw 4 * 4 && bs.length == le bs 4 4 && 1 ≤ p && p ≤ 8192 && le bs 0xE 2 < p
    && x ≤ 16384 && y ≤ 16384 && bs.getD 0x14 0 == b2n reserved && zeroAt bs 0x15 11
    && binds.all bindingOk && (List.range b).all (fun i => zeroAt bs (32 + 16 * i + 10) 2) && pairwiseNot (fun u v => u.port == v.port) binds
    && pairwiseNot Binding.overlaps (binds.filter (fun u => u.kind != 4)) && wordsOk p binds (progP bs)

/-- `n` program objects that stand one after another from byte `o` on; none where they do not fit. -/
def takeProgs (bs : List Nat) : Nat → Nat → Option (List (List Nat) × Nat)
  | 0, o => some ([], o)
  | n + 1, o =>
    let len := le bs (o + 4) 4
    if len < 32 ∨ bs.length < o + len then none
    else (takeProgs bs n (ceilDiv (o + len) 4 * 4)).map (fun r => (slice bs o len :: r.1, r.2))

/-! ### DEVICE, PROFILE, HOSTS (R494, R495, R499) -/

/-- A DCS command list: entries of type, n, delay and n bytes. -/
def listOk : Nat → List Nat → Bool
  | 0, bs => bs.isEmpty
  | f + 1, bs =>
    if bs.isEmpty then true
    else
      let n := bs.getD 1 0
      (bs.getD 0 0 == 0x05 || bs.getD 0 0 == 0x15 || bs.getD 0 0 == 0x39) && 4 + n ≤ bs.length && listOk f (bs.drop (4 + n))

/-- The DEVICE section's contents. -/
def parseDevice (bs : List Nat) : DeviceSec := {
  refinSel := bs.getD 4 0, i3cStatic := bs.getD 5 0, prfSource := bs.getD 6 0
  ddrRate := bs.getD 8 0, ddrRanks := bs.getD 9 0, ddrDensity := bs.getD 10 0, ddrAttach := bs.getD 11 0
  ddrTiming := u16s bs 0xC 16, mac := slice bs 0x2C 6, group := slice bs 0x34 16
  lanes := bs.getD 0x44 0, dsiMode := bs.getD 0x45 0, pixel := bs.getD 0x46 0
  width := le bs 0x48 2, height := le bs 0x4A 2, hTotal := le bs 0x4C 2, vTotal := le bs 0x4E 2
  laneKbps := le bs 0x50 4, minPeriod := le bs 0x54 2
  lists := (List.range 3).map (fun i => slice bs (le bs (0x58 + 2 * i) 2) (le bs (0x5E + 2 * i) 2)) }

/-- Frequency of PLL3 in kHz for a rate code (R125). -/
def pll3Khz (rate : Nat) : Nat := match rate with
  | 0 => 2400000
  | 1 => 2600000
  | 2 => 2800000
  | 3 => 3000000
  | _ => 3200000

/-- The DEVICE section's layout, its DDR5 timings and its panel (R443, R494). Cycles at the rate's clock: tREFI ≤ 3.9 µs,
tRFC + tRP ≤ 425 ns. -/
def deviceOk (bs : List Nat) : Bool :=
  let d := parseDevice bs
  let khz := pll3Khz d.ddrRate
  let t := fun (i : Nat) => d.ddrTiming.getD i 0
  let bpp := if d.pixel = 0 then 24 else 30
  le bs 0 2 == 1 && le bs 2 2 == bs.length && 0x64 ≤ bs.length && d.refinSel < 2 && 0x08 ≤ d.i3cStatic && d.i3cStatic ≤ 0x77
    && d.prfSource < 2 && bs.getD 7 0 == 0 && d.ddrRate < 5 && 1 ≤ d.ddrRanks && d.ddrRanks ≤ 2 && d.ddrDensity < 3 && d.ddrAttach < 2
    && t 5 * 10000 ≤ 39 * khz && (t 4 + t 2) * 1000000 ≤ 425 * khz
    && !(d.mac.getD 0 0).testBit 0 && (d.mac.getD 3 0 * 65536 + d.mac.getD 4 0 * 256 + d.mac.getD 5 0) + 63 < 2 ^ 24
    && zeroAt bs 0x32 2 && d.group.all (fun g => g < 8 && !(g.testBit 0 && g.testBit 2))
    && (d.lanes == 1 || d.lanes == 2 || d.lanes == 4) && d.dsiMode < 2 && d.pixel < 2 && bs.getD 0x47 0 == 0
    && 64 ≤ d.width && d.width ≤ 4096 && 64 ≤ d.height && d.height ≤ 4096 && d.width ≤ d.hTotal && d.height ≤ d.vTotal
    && 160000 ≤ d.laneKbps && d.laneKbps ≤ 2500000 && 1 ≤ d.minPeriod && zeroAt bs 0x56 2
    && d.hTotal * d.vTotal * bpp * 10000 ≤ 950 * d.lanes * d.laneKbps * d.minPeriod
    && 160 * d.vTotal ≤ 25600 * d.minPeriod
    && (List.range 3).all (fun i => le bs (0x5E + 2 * i) 2 ≤ 512 && le bs (0x58 + 2 * i) 2 + le bs (0x5E + 2 * i) 2 ≤ bs.length)
    && d.lists.all (fun l => listOk 128 l)

/-- A PROFILE section's contents. -/
def parseProfile (bs : List Nat) : Profile :=
  let w := le bs 0xA 2
  let b := le bs 0xC 2
  let c := le bs 0xE 2
  let ob := 0x20 + 8 * w
  let oc := ob + 16 * b
  { number := bs.getD 4 0, flags := bs.getD 5 0, acqMode := bs.getD 6 0, startMask := bs.getD 7 0, allowed := bs.getD 8 0
    pll1Khz := le bs 0x10 4, idleDarkMs := le bs 0x14 4
    writes := (List.range w).map (fun i => (le bs (0x20 + 8 * i) 2, le bs (0x24 + 8 * i) 4))
    bounds := (List.range b).map (fun i =>
      let o := ob + 16 * i
      let fl := le bs (o + 2) 2
      ⟨le bs o 2, fl.testBit 0, fl.testBit 1, le bs (o + 4) 4, le bs (o + 8) 4, le bs (o + 12) 4⟩)
    cells := (List.range c).map (fun i => let o := oc + 4 * i; (bs.getD o 0, bs.getD (o + 1) 0, bs.getD (o + 2) 0)) }

/-- Every register of the device (R565). -/
def allRegs : List Reg :=
  ID.regs ++ SYS.regs ++ FLT.regs ++ PRF.regs ++ ADC.regs ++ CAL.regs ++ CLK.regs ++ TB.regs ++ TDC.regs ++ TRG.regs ++ CAP.regs
    ++ FIL.regs ++ ACC.regs ++ CMB.regs ++ DRM.regs ++ WAG.regs ++ HPT.regs ++ WIN.regs ++ MCV.regs ++ PRO.regs ++ SEC.regs
    ++ LGR.regs ++ I3C.regs

/-- The fields of the register at `a`; none where no register stands there. -/
def regFields (a : Nat) : Option (List Fld) := fieldsIn a allRegs

/-- A profile may write the register: it has no RO, WO, RWI or RWM field (R496). -/
def profileMay (a : Nat) : Bool := match regFields a with
  | none => false
  | some fs => fs.all (fun f => f.access == .rw || f.access == .w1c || f.access == .rws || f.access == .rwl)

/-- The value `v` that `f` would hold, with `n` for the fields of its register, lies outside a range that the field's chapter gives
by itself (R496; R154, R155, R175, R186, R214, R220, R248, R354, R374, R445, R460 beside the ranges of the chain, accumulation and
monitor fields). What depends on other registers is judged when the profile is applied. -/
def profileRangeBad (n : Fld → Nat) (f : Fld) : Bool :=
  let lat := [(1, 100), (1, 1000), (5, 1000), (1, 1000)]
  let out := fun (r : Fld) (lo hi : Nat) => f = r && (n f < lo || hi < n f)
  FIL.valueBad n f || ACC.rangeBad n f || MON.valueBad n f
    || out TB.SCLK_LIMIT.DEV_PPB 10 65535 || out TB.SCLK_LIMIT.RESID 50 65535
    || out TDC.SPILL_LIMIT.PAGES 0 4096
    || (List.range 16).any (fun m => out (TDC.MEASm_CTL.START m) 0 63 || out (TDC.MEASm_CTL.STOP m) 0 63)
    || (List.range 4).any (fun k => out (TRG.OUTk_CTL.SOURCE k) 0 4 || out (TRG.OUTk_CTL.INDEX k) 0 7 || out (TRG.OUTk_CTL.WIDTH k) 1 255
      || out (DRM.PORTk_TARGET.US k) (lat.getD k (0, 0)).1 (lat.getD k (0, 0)).2)
    || out CAP.ROLL_CFG.FRAMES 0 1048576
    || (List.range 8).any (fun c => out (CAP.CHn_CFG.FORMAT c) 1 2 || out (CAP.CHn_LEN.SAMPLES c) 256 (2 ^ 31)
      || (f = CAP.CHn_LEN.SAMPLES c && n f % 32 != 0) || out (TRG.CHn_SEQ.TABLE c) 0 31)
    || out DRM.WM.LOW 4 56 || (f = DRM.WM.HIGH && (n f < n DRM.WM.LOW + 4 || 62 < n f))
    || out DRM.SR_CTL.IDLE_US 10 65535 || out DRM.ARCH_CFG.IDX_PAGES 1 4096
    || out PRO.CFG.SUBSAMPLE 0 2 || out PRO.PERIOD.MIN 40 65535 || (f = PRO.PERIOD.MAX && (n f < n PRO.PERIOD.MIN || 10000 < n f))
    || out PRO.STATIC.FRAMES 1 65535 || out PRO.STATIC.FLOOR 0 10000

/-- A profile's write names a register it may write, with every field of it in its range (R496). -/
def profileWriteOk (a v : Nat) : Bool :=
  profileMay a && !((regFields a).getD []).any (profileRangeBad (fun f => if f.addr = a then v / 2 ^ f.lo % 2 ^ f.width else 0))

/-- A PROFILE section's layout (R495, R496). -/
def profileOk (bs : List Nat) (index : Nat) (bands : Option (List Nat)) (progs : Nat) : Bool :=
  let p := parseProfile bs
  let band := fun (khz : Nat) => match bands with
    | some t => (bandIndex (bandsOf t) khz).isSome
    | none => false
  le bs 0 2 == 1 && le bs 2 2 == bs.length && bs.length == 0x20 + 8 * p.writes.length + 16 * p.bounds.length + 4 * p.cells.length
    && p.number == index && p.flags < 8 && p.acqMode < 3 && bs.getD 9 0 == 0 && band p.pll1Khz
    && p.writes.all (fun w => profileWriteOk w.1 w.2 && (w.1 != (CLK.PLLn_FREQ.FREQ_KHZ 1).addr || band (w.2 % 2 ^ 24)))
    && (List.range p.writes.length).all (fun i => zeroAt bs (0x22 + 8 * i) 2)
    && (List.range p.bounds.length).all (fun i => le bs (0x20 + 8 * p.writes.length + 16 * i + 2) 2 < 4)
    && p.cells.all (fun c => c.1 < 192 && c.1 % 24 != 23 && c.2.1 < progs && c.2.2 < 2)
    && (List.range p.cells.length).all (fun i => bs.getD (0x23 + 8 * p.writes.length + 16 * p.bounds.length + 4 * i) 0 == 0)

/-- The port policies and grants of HOSTS. -/
def parseHosts (bs : List Nat) : List Policy × List Grant :=
  ((List.range 64).map (fun p =>
      let o := 8 + 16 * p
      ⟨le bs o 4, le bs (o + 4) 2, le bs (o + 6) 2, bs.getD (o + 8) 0, bs.getD (o + 9) 0, le bs (o + 10) 2⟩),
    (List.range (le bs 2 2)).map (fun i =>
      let o := 0x408 + 16 * i
      ⟨le bs o 4, bs.getD (o + 4) 0, bs.getD (o + 5) 0, bs.getD (o + 6) 0, le bs (o + 8) 4⟩))

/-- The HOSTS section's layout (R499). -/
def hostsOk (bs : List Nat) : Bool :=
  let (ps, gs) := parseHosts bs
  le bs 0 2 == 1 && gs.length ≤ 256 && le bs 4 4 == bs.length && bs.length == 0x408 + 16 * gs.length
    && ps.all (fun p => p.flags < 8 && p.pcp < 8 && p.vid < 4095 && (!p.flags.testBit 2 || p.vid != 0))
    && (List.range 64).all (fun p => zeroAt bs (8 + 16 * p + 12) 4)
    && gs.all (fun g => (g.role == 1 || g.role == 2) && g.rights < 4 && g.flags < 2)
    && (List.range gs.length).all (fun i => bs.getD (0x408 + 16 * i + 7) 0 == 0 && zeroAt bs (0x408 + 16 * i + 12) 4)

/-! ### Header, section table, signature block (R491 to R493, R502) -/

/-- One entry of the section table: type, index, offset, length, digest. -/
structure Section where
  typ : Nat
  index : Nat
  off : Nat
  len : Nat
  digest : List Nat
  deriving DecidableEq, Repr

/-- The section table. -/
def parseSections (bs : List Nat) : List Section :=
  (List.range (le bs 0x10 2)).map (fun i =>
    let o := 0x80 + 48 * i
    ⟨bs.getD o 0, bs.getD (o + 1) 0, le bs (o + 4) 4, le bs (o + 8) 4, slice bs (o + 16) 32⟩)

/-- Sections stand in ascending order from `lo`, aligned, without overlap, and end by `hi`. -/
def sectionsRise (hi : Nat) : Nat → List Section → Bool
  | _, [] => true
  | lo, x :: l => x.off % 64 == 0 && decide (lo ≤ x.off) && decide (x.off + x.len ≤ hi) && sectionsRise hi (x.off + x.len) l

/-- FORMAT of R502: magics, format, length, alignment, counts, order, overlap, reserved fields. -/
def formatOk (bs : List Nat) : Bool :=
  let n := le bs 0x10 2
  let ss := parseSections bs
  let cnt := fun (t : Nat) => (ss.filter (fun x => x.typ == t)).length
  let prof := (ss.filter (fun x => x.typ == 2)).map Section.index
  let blk := bs.length - 16232
  le bs 0 2 == 0xF5B0 && le bs 2 2 == 1 && le bs 4 4 == bs.length && 6 ≤ n && n ≤ 32 && zeroAt bs 0x12 2 && zeroAt bs 0x18 8
    && zeroAt bs 0x70 16 && 16232 ≤ bs.length && blk % 64 == 0 && le bs blk 2 == 0xF5B1 && zeroAt bs (blk + 2) 2
    && le bs (blk + 4) 4 == 16224
    && sectionsRise blk (0x80 + 48 * n) ss
    && (List.range n).all (fun i => zeroAt bs (0x80 + 48 * i + 2) 2 && zeroAt bs (0x80 + 48 * i + 12) 4)
    && ss.all (fun x => 1 ≤ x.typ && x.typ ≤ 7 && (x.typ == 2 || x.index == 0))
    && cnt 1 == 1 && 1 ≤ cnt 2 && cnt 2 ≤ 8 && prof.contains 0 && prof.all (· < 8) && prof.eraseDups.length == prof.length
    && cnt 3 == 1 && cnt 4 ≤ 1 && cnt 5 == 1 && cnt 6 == 1 && cnt 7 == 1

/-- The bytes of the section of a type, empty where the image has none. -/
def sectionBytes (bs : List Nat) (typ : Nat) : List Nat :=
  match (parseSections bs).find? (fun x => x.typ == typ) with
  | some x => slice bs x.off x.len
  | none => []

/-- The program objects of CELLPROG (R498). -/
def cellProgs (bs : List Nat) : Option (List (List Nat)) :=
  let c := sectionBytes bs 4
  if c.isEmpty then some []
  else if le c 0 2 = 1 ∧ le c 2 2 ≤ 255 ∧ zeroAt c 4 4 = true ∧ c.length ≤ 4194304 then
    ((takeProgs c (le c 2 2) 8).map (·.1)).filter (fun l => l.all (fun b => progOk b false))
  else none

/-- The program objects of MAKER, which its signature ends (R501). -/
def makerProgs (bs : List Nat) : Option (List (List Nat)) :=
  let m := sectionBytes bs 7
  if le m 0 2 = 1 ∧ le m 2 2 = 8 ∧ zeroAt m 10 6 = true then match takeProgs m 8 16 with
    | some (l, e) => if l.all (fun b => progOk b true) = true ∧ m.length = e + 16224 then some l else none
    | none => none
  else none

/-- The image its bytes hold. -/
def parseImage (bs : List Nat) (addr : Nat) : Image :=
  let h := parseHosts (sectionBytes bs 5)
  let c := sectionBytes bs 6
  let m := sectionBytes bs 7
  { addr := addr, length := bs.length, rollback := le bs 0xC 4, imageKey := slice bs 0x20 48, tokenKey := slice bs 0x50 32
    digest := sha256 bs, device := parseDevice (sectionBytes bs 1)
    profiles := ((parseSections bs).filter (fun x => x.typ == 2)).map (fun x => parseProfile (slice bs x.off x.len))
    tables := parseTables (sectionBytes bs 3), progs := (cellProgs bs).getD []
    policies := h.1, grants := h.2
    certified := (le c 4 4, le c 8 4, c.getD 12 0, le c 13 3)
    maker := { keyId := le m 4 4, version := le m 8 2, progs := (makerProgs bs).getD [] } }

/-- CONTENT of R502. -/
def contentOk (bs : List Nat) : Bool :=
  let ts := sectionBytes bs 3
  let c := sectionBytes bs 6
  let band := fun (k : Nat) => ((parseTables ts).find? (fun t => t.kind == 8 && t.number == k)).map Table.bytes
  let within := fun (k khz : Nat) => match band k with
    | some t => (bandIndex (bandsOf t) khz).isSome
    | none => false
  let d := parseDevice (sectionBytes bs 1)
  deviceOk (sectionBytes bs 1) && tablesOk ts && hostsOk (sectionBytes bs 5) && within 3 (pll3Khz d.ddrRate) && within 4 (d.laneKbps / 2)
    && (cellProgs bs).isSome && (makerProgs bs).isSome
    && ((parseSections bs).filter (fun x => x.typ == 2)).all (fun x =>
      profileOk (slice bs x.off x.len) x.index (band 1) ((cellProgs bs).getD []).length)
    && le c 0 2 == 1 && le c 2 2 == 24 && c.length == 24 && 100000000 ≤ le c 4 4 && le c 4 4 ≤ 450000000 && zeroAt c 16 8

/-- Byte `a` of the flash: 0xFF where nothing was programmed. -/
def State.flashBytes (s : State) (a n : Nat) : List Nat := Memory.read 0xFF s.flash a n

/-- Bytes of flash. -/
def State.flashSize (s : State) : Nat := s.rd PRF.FLASH.SIZE_MB * 1048576

/-- An image read at `addr` and verified (R502): the cause of the first check that fails, 0 and the image otherwise. The two
signatures' verdicts are given. `staging` says that the range must not overlap the image in force. -/
def State.verify (s : State) (addr : Nat) (sig maker staging : Bool) : Nat × Option Image :=
  let len := le (s.flashBytes addr 8) 4 4
  let lenOk := 16232 + 128 ≤ len && len ≤ 62914560 && addr + len ≤ s.flashSize
  let overlap := match s.image with
    | some im => staging && addr < im.addr + im.length && im.addr < addr + len
    | none => false
  if s.flashSize = 0 ∨ s.flashSize < addr + 128 then (1, none)
  else if le (s.flashBytes addr 2) 0 2 ≠ 0xF5B0 then (2, none)
  else if ¬ lenOk then (if addr + len ≤ s.flashSize then (2, none) else (1, none))
  else
    let bs := s.flashBytes addr len
    let keysBad := match s.led.owner with
      | some o => o.imageKey != slice bs 0x20 48 || o.tokenKey != slice bs 0x50 32
      | none => false
    if ¬ formatOk bs then (2, none)
    else if le bs 8 2 ≠ s.rd ID.PART.FAMILY ∨ le bs 0xA 2 ≠ s.rd ID.PART.NUMBER then (3, none)
    else if ¬ (parseSections bs).all (fun x => sha256 (slice bs x.off x.len) == x.digest) then (4, none)
    else if ¬ sig then (5, none)
    else if keysBad then (6, none)
    else if le bs 0xC 4 < s.led.rollback then (7, none)
    else if ¬ contentOk bs then (8, none)
    else if ¬ (maker ∧ le (sectionBytes bs 7) 4 4 = s.led.neyrelKeyId) then (9, none)
    else if overlap then (10, none)
    else (0, some (parseImage bs addr))

/-! ### Loading (R519 step 5, R499, R500, R504, R510) -/

/-- The four bytes from `4 k` on of a digest, for word registers. -/
def digestWord (d : List Nat) (k : Nat) : Nat := le d (4 * k) 4

/-- PLL4 takes the frequency of the DEVICE section: where the loops run and it changes, PLL4 relocks towards it (R131, R510), with REFIN
absent as otherwise (DESIGN CHOICE, notes/assumptions/111.md). -/
def State.pll4Take (s : State) (khz : Nat) : State :=
  let old := s.clk.freq.getD 4 0
  let s := (s.wr (CLK.PLLn_FREQ.FREQ_KHZ 4) khz).modClk (fun c => { c with freq := c.freq.set 4 khz })
  if s.clk.pllOn = true ∧ old ≠ khz then (s.wr (CLK.PLLn_STATUS.BAND 4) ((s.band 4 khz).getD 0)).relock 4 else s

/-- What the DEVICE section sets in registers. -/
def State.loadDevice (s : State) (d : DeviceSec) : State :=
  let s := (s.put CLK.REF.FREQ_SEL (d.refinSel == 1)).wr PRF.SOURCE.SOURCE d.prfSource
  let s := ((s.wr DRM.CFG.RATE d.ddrRate).wr DRM.CFG.RANKS (d.ddrRanks - 1)).wr DRM.CFG.DENSITY d.ddrDensity
  let s := s.wr DRM.CFG.CAPACITY_GB (d.ddrRanks * (32 + 16 * d.ddrDensity))
  let mac := (d.mac.foldl (fun a b => a * 256 + b) 0)
  let s := (s.wr WAG.MAC_LO.ADDR (mac % 2 ^ 32)).wr WAG.MAC_HI.ADDR (mac / 2 ^ 32)
  let s := s.put PRO.STATUS.COMMAND (d.dsiMode == 1)
  let s := s.modI3c (fun x => { x with staticAddr := d.i3cStatic })
  let s := (s.wr (CLK.PLLn_FREQ.FREQ_KHZ 3) (pll3Khz d.ddrRate)).modClk (fun c => { c with freq := c.freq.set 3 (pll3Khz d.ddrRate) })
  s.pll4Take (d.laneKbps / 2)

/-- The lane groups as the DEVICE section sets them; a changed group drops and retrains (R381, R510). -/
def State.loadGroups (s : State) (d : DeviceSec) : State :=
  (List.range 16).foldl (fun s g =>
    let v := d.group.getD g 0
    let same := s.rd (HPT.Gg_CFG.MODE g) == v % 2 && s.rd (HPT.Gg_CFG.MEDIUM g) == v / 2 % 2 && s.rd (HPT.Gg_CFG.FEC g) == v / 4 % 2
    if same then s
    else WAG.onWrite (HPT.Gg_CFG.MODE g) (v % 2)
      (((s.wr (HPT.Gg_CFG.MODE g) (v % 2)).wr (HPT.Gg_CFG.MEDIUM g) (v / 2 % 2)).wr (HPT.Gg_CFG.FEC g) (v / 4 % 2))) s

/-- The initial port fields from the policies (R499). -/
def State.loadPorts (s : State) (ps : List Policy) : State :=
  (List.range 64).foldl (fun s p =>
    let q := ps.getD p {}
    let s := ((s.wr (HPT.Pp_CTL.EN p) (q.flags % 2)).wr (HPT.Pp_CTL.JUMBO p) (q.flags / 2 % 2)).wr (HPT.Pp_VLAN.TAGGED p) (q.flags / 4 % 2)
    (s.wr (HPT.Pp_VLAN.PCP p) q.pcp).wr (HPT.Pp_VLAN.VID p) q.vid) s

/-- The image's certified value, committed where it differs from the newest entry (R87, R500). -/
def State.loadCertified (s : State) (im : Image) : State :=
  let (v, u, k, c) := im.certified
  let s := (((s.wr CAL.CERT_VALUE.NV v).wr CAL.CERT_UNC.NV u).wr CAL.CERT_META.K k).wr CAL.CERT_META.CERT_ID c
  let same := match s.led.certs with
    | e :: _ => e.value == v && e.unc == u && e.k == k && e.certId == c
    | [] => false
  if same then s else s.certCommit v u k c 2 255 0

/-- The image becomes the image in force: registers, tables, programs, certified value, firmware (R519 step 5). -/
def State.loadImage (s : State) (im : Image) : State :=
  let s := { s with image := some im }
  let s := ((s.loadDevice im.device).loadGroups im.device).loadPorts im.policies
  let s := ((s.wr PRF.IMAGE.ROLLBACK im.rollback).wr PRF.IMAGE_ADDR.ADDR (im.addr / 65536)).wr PRF.PRESENT.MASK
    ((im.profiles.map (fun p => 2 ^ p.number)).sum)
  let s := (List.range 8).foldl (fun s k => s.wr (PRF.DIGESTk.WORD k) (digestWord im.digest k)) s
  let s := { s with cmb := { s.cmb with progs := im.progs, maker := im.maker.progs } }
  let s := (s.wr CMB.STORE.PROGRAMS im.progs.length).wr CMB.STORE.BYTES ((im.progs.map List.length).sum)
  let s := (List.range 8).foldl (fun s n => s.wr (CMB.SUPn_EST.VERSION n) (im.maker.version % 256)) s
  let s := if s.led.rollback < im.rollback then { s with led := { s.led with rollbackRing := s.led.rollbackRing.put im.rollback } } else s
  let s := s.wr PRF.ROLLBACK.COUNTER s.led.rollback
  (List.range 8).foldl State.filRefresh (s.loadCertified im)

/-- The reserved cells load and run their firmware: RESERVED (R344). -/
def State.loadReserved (s : State) : State :=
  (List.range 8).foldl (fun s n => match s.cmb.maker[n]? with
    | some bs => (s.finishLoad (24 * n + 23) n bs).cellRun (24 * n + 23)
    | none => s) s

/-- The first image of an unclaimed device claims it (R467). -/
def State.claim (s : State) (im : Image) : State :=
  if s.led.owner.isSome then s
  else
    let s := { s with led := { s.led with owner := some ⟨im.imageKey, im.tokenKey, im.addr⟩, instRing := s.led.instRing.put 0,
                                           fixedWrites := s.led.fixedWrites + 1 } }
    (s.auditDevice 2 im.rollback 0 0 0).showOwner

/-- Settings that name a table of the image in force are judged anew (R512). -/
def State.judgeTables (s : State) : State := s.showTables

end Sys2Proof.Machine
end

