-- ==== Sys2Proof/Machine/View.lean ====
section
/-! DEFINITION. What a register read returns (R9, R11, R589): stored fields, the fields derived from other state, the
lead's values in a member's registers (R51, R181, R218, R274, R284), the copies local to an attachment (R565), the reads
that latch (R139, R452), and the regions of the windowed region (R565, R566). -/

namespace Sys2Proof.Machine

/-! ### Registers of channels -/

/-- The channel register at an address: stride of its block, channel, offset in the channel's registers. -/
def chanReg (a : Nat) : Option (Nat × Nat × Nat) :=
  let at_ := fun (base stride : Nat) => some (stride, (a - base) / stride, (a - base) % stride)
  if 0x1000 ≤ a ∧ a < 0x1800 then (if (a - 0x1000) % 256 < 0xE0 then at_ 0x1000 256 else none)
  else if 0x1880 ≤ a ∧ a < 0x1A80 then at_ 0x1880 64
  else if 0x2880 ≤ a ∧ a < 0x2A80 then at_ 0x2880 64
  else if 0x3100 ≤ a ∧ a < 0x3300 then at_ 0x3100 64
  else if 0x3480 ≤ a ∧ a < 0x3680 then at_ 0x3480 64
  else if 0x3880 ≤ a ∧ a < 0x3A80 then at_ 0x3880 64
  else if 0x5840 ≤ a ∧ a < 0x5880 then at_ 0x5840 8
  else none

/-- A register whose value in a member channel is the lead's, and that refuses writes there: `ADC.RANGE` (R51), the trigger
settings (R181), the capture settings (R218), the filter registers (R274), the accumulation registers (R284). -/
def leadGoverns (a off : Nat) : Bool :=
  if a < 0x1800 then off == 0 else if a < 0x1A80 then false else if a < 0x2A80 then off < 0x28
  else if a < 0x3300 then off < 0xC else if a < 0x3680 then off != 0x28 else a < 0x3A80

/-- A write of the register is refused in a member channel: where the lead governs, and in every filter register (R274). -/
def State.memberReg (s : State) (a : Nat) : Bool := match chanReg a with
  | some (_, n, off) => s.lead n != n && (leadGoverns a off || 0x3400 ≤ a && a < 0x3680)
  | none => false

/-- The field that a read of `f` returns: the lead's where the lead governs; the state of a channel, its invalid window and its epoch are
its lead's (R25, R79, R83). -/
def State.aliased (s : State) (f : Fld) : Fld := match chanReg f.addr with
  | some (stride, n, off) =>
    if s.lead n ≠ n ∧ (leadGoverns f.addr off = true ∨ f = CAP.CHn_STATUS.STATE n ∨ f = ADC.STATUS.INVALID n ∨ f = CAL.EPOCH.EPOCH n) then
      { f with addr := f.addr - (n - s.lead n) * stride }
    else f
  | none => f

/-! ### Derived fields -/

/-- Endurance used of the ledger: the highest write count of a word, in parts per million of 10^8. Counted are the counter rings, the audit
log, the calibration ring, and the directory with the fixed regions it digests (R483, R484, R488; notes/assumptions/46.md). -/
def State.ledgerWear (s : State) : Nat :=
  let l := s.led
  let rings := [l.instRing, l.makerRing, l.rollbackRing, l.rollRing, l.manRing].map (fun r => ceilDiv r.updates 64)
  let most := (rings ++ [ceilDiv l.auditSeq 16384, ceilDiv s.cal.recordSeq 1024, l.fixedWrites]).foldl max 0
  min 65535 (most / 100)

/-- Every replica of a register: its fields that clear counters, with what they clear. -/
def Reg.counters (r : Reg) : List (Fld × List Fld) :=
  ((List.range r.count).map (fun n => ((List.range r.count2).map (fun k => r.clears n k)).flatten)).flatten

/-- A counter of the registers has saturated: its SAT is set (R542). -/
def State.saturated (s : State) (rs : List Reg) : Bool :=
  rs.any (fun r => r.counters.any (fun p => !p.2.isEmpty && s.on p.1))

/-- Bits of `FLT.SAT_SUMMARY` (R542, R549). -/
def State.satSummary (s : State) (bit : Nat) : Bool := match bit with
  | 0 => s.saturated ADC.regs
  | 1 => s.saturated CAL.regs || (List.range 8).any (fun n => s.rd (CAL.COUNT.COUNT n) == 2 ^ 32 - 1)
  | 2 => s.saturated (CLK.regs ++ TB.regs) || s.on TB.HOLDOVER.SAT
  | 3 => s.saturated TDC.regs
  | 4 => s.saturated TRG.regs
  | 5 => s.saturated CAP.regs
  | 6 => s.saturated FIL.regs
  | 7 => s.saturated ACC.regs
  | 8 => s.saturated (MCV.regs ++ WIN.regs)
  | 9 => s.saturated CMB.regs
  | 10 => s.saturated DRM.regs
  | 11 => s.saturated (HPT.regs ++ WAG.regs) || s.ports.any (fun q => q.stats.any (fun v => v == 2 ^ 32 - 1))
  | 12 => s.saturated PRO.regs
  | 13 => s.saturated (SEC.regs ++ LGR.regs)
  | 14 => s.saturated (SYS.regs ++ PRF.regs)
  | _ => s.saturated FLT.regs

/-- Bits of `FLT.PARTNER` (R549). -/
def State.partner (s : State) (bit : Nat) : Bool := match bit with
  | 0 => !s.on ADC.SCLK.OK
  | 1 => !s.on CLK.REF.OK
  | 2 => !s.warm
  | 3 => s.tbCoast
  | 4 => s.on TB.SCLK_FIT.INCOHERENT
  | 5 => (List.range 8).any (fun n => s.rd (CAL.STATE.PASS n) == 3)
  | 6 => (List.range 8).any (fun n => s.on (CAL.STATE.OVERDUE n))
  | 7 => s.proCommand && !s.on PRO.STATUS.TE_OK
  | 8 => (List.range 64).any (fun p => s.session p == sesAbsent)
  | 9 => (List.range 64).any (fun p => s.on (HPT.Pp_STATUS.CLOSED p))
  | _ => false

/-- Whole seconds from `t` to now, at most 65,535. -/
def State.ageS (s : State) (t : Nat) : Nat := min 65535 ((s.now - t) / 1250000000)

/-- What `PRO.LATENCY.US` states (R454): from now to the next read deadline in µs, saturating where the lanes idle with no start in sight; 0
with the display off. -/
def State.proDeadline (s : State) : Nat :=
  if !s.proOn then 0 else (s.readDeadline.map (· / 1250)).getD (2 ^ 32 - 1)

/-- Bits of `ATTN_N` (R560): low while a window drives it, while `I3C.ATTN.EVENT` is set, and in HALTED; high in START. -/
def State.attnWindow (s : State) : Bool :=
  (List.range 24).any (fun w => (s.rd WIN.PENDING.WINDOWS).testBit w && s.on (WIN.Ww_CFG.ATTN w))

/-- ATTN_N is low. -/
def State.attnLow (s : State) : Bool := s.dev != devStart && (s.attnWindow || s.on I3C.ATTN.EVENT || s.dev == devHalted)

/-- FAULT_N is low (R533). -/
def State.faultLow (s : State) : Bool := s.on FLT.STATE.FAULT_N

/-- What a DARK entry waits for (R523): passes, PLLs, signing, archive buffers, user cells, the display's frame. -/
def State.darkWaits (s : State) : Nat :=
  b2n ((List.range 8).any (fun m => s.rd (CAL.STATE.PASS m) == 2))
    + 2 * b2n (s.on TB.STATE.REPHASE || (List.range 6).any (fun n =>
        s.on (CLK.PLLn_STATUS.COAST n) || s.on (CLK.PLLn_STATUS.RELOCK n)))
    + 4 * b2n (!s.sec.queue.isEmpty || !s.sec.leaves.isEmpty)
    + 8 * b2n (!s.arc.fifo.isEmpty || !s.arc.outside.isEmpty || s.arc.job.isSome || s.arc.subs.any (fun b => !b.writes.isEmpty))
    + 16 * b2n (!s.cellsStill) + 32 * b2n s.pro.frame

/-- The source that slice `k` of channel `m` in CALIBRATING selects (R42, R95, R111): GROUND, then BANDGAP, then CALREF, each for a third of
the measurement, of whose 2,162,688 SC in a pass, or 39,518,208 SC at start-up, the slice clocks since it began at SCLK's measured
frequency are counted. The count goes on where the slice does not measure (DESIGN CHOICE, notes/assumptions/96.md). -/
def State.calMux (s : State) (m k : Nat) : Nat :=
  let sc := (s.now - ((s.calCh m).slices.getD k {}).since) * s.rd ADC.SCLK.FREQ_KHZ / 10000000
  let third := if s.rd (CAL.STATE.PASS m) = 4 then 13172736 else 720896
  if sc < third then 4 else if sc < 2 * third then 2 else 1

/-- Value of a field that is derived when read, for attachment `a`; none of a stored one. -/
def State.derived (s : State) (a : Att) (f : Fld) : Option Nat :=
  let holders := fun (first : Nat) => (List.range 4).foldl (fun v i => v + s.holderByte (if first < 8 then s.lead (first + i) else first) * 256 ^ i) 0
  let states := fun (st : Nat) => ((List.range 64).filter (fun p => s.session p == st)).length
  if f = CAP.POOL.FREE then some (if s.boot.poolSet then s.freePages else 0)
  else if f = CAP.Q0.DEMAND then some s.settingsDemand
  else if f = SYS.DARK.WAIT then some (if s.on SYS.STATE.ENTERING ∧ s.boot.entryStep = 0 then s.darkWaits else 0)
  else if f = CAP.POOL.SIZE then some (if s.boot.poolSet then s.poolSize else 0)
  else if f = FIL.SETS.COUNT then some (match s.image with
    | some im => (im.tables.filter (fun t => t.kind == 2)).length
    | none => 0)
  else if f = ACC.REGION_USE.NEED then some (s.accNeed s.rd)
  else if f = ACC.MERGE.TILES then some (min 4095 s.tilesWaiting)
  else if f = ACC.MERGE.FRAMES then some s.framesWaiting
  else if f.addr < 0x3A80 ∧ f = ACC.CHn_STK_STATUS.STATE ((f.addr - 0x3880) / 64) then some (s.stkState (s.lead ((f.addr - 0x3880) / 64)))
  else if f = TB.KEEPER_LO.COUNT then some (s.keeper % 2 ^ 32)
  else if f = TB.KEEPER_HI.COUNT then some (s.keeper / 2 ^ 32)
  else if f = TDC.SPILL.FULL then some (b2n s.spillFull)
  else if f = WAG.HOLD_LO.PORTS then some (holders 0)
  else if f = WAG.HOLD_HI.PORTS then some (holders 4)
  else if f = WAG.HOLD_DEV.PORT then some (s.holderByte 8)
  else if 0x5400 ≤ f.addr ∧ f = HPT.Pp_STATUS.ABSENT_PORT ((f.addr - 0x5400) / 16) then
    some (b2n (!s.portPresent ((f.addr - 0x5400) / 16)))
  else if f = WAG.SESSIONS.OPEN then some (states sesOpen)
  else if f = WAG.SESSIONS.ABSENT then some (states sesAbsent)
  else if f = PRO.LATENCY.US then some (min s.proDeadline (2 ^ 32 - 1))
  else if f.addr = FLT.SAT_SUMMARY.ADC.addr then some (b2n (s.satSummary f.lo))
  else if f.addr = FLT.PARTNER.SCLK.addr then some (b2n (s.partner f.lo))
  else if f = SEC.SERIAL_LO.SERIAL then some (s.led.serial % 2 ^ 32)
  else if f = SEC.SERIAL_HI.SERIAL then some (s.led.serial / 2 ^ 32)
  else if f = SEC.STATE.CLAIMED then some (b2n s.led.owner.isSome)
  else if f = SEC.STATE.ROLE then some (s.role a).code
  else if f = SEC.INST_CNT.COUNT then some s.led.instCnt
  else if f = SEC.MAKER_CNT.COUNT then some s.led.makerCnt
  else if f = SEC.MAN_NEXT_LO.NUMBER then some (s.manNext % 2 ^ 32)
  else if f = SEC.MAN_NEXT_HI.NUMBER then some (s.manNext / 2 ^ 32)
  else if f = SEC.SIGN.QUEUE then some s.sec.queue.length
  else if f = SEC.ATTEST_CTL.BUSY then some (b2n (s.attesting .i3c))
  else if f = LGR.AUDIT.HELD then some s.led.audit.length
  else if f = LGR.AUDIT.WARN then some (b2n (14746 ≤ s.led.audit.length))
  else if f = LGR.AUDIT.FULL then some (b2n s.auditFull)
  else if f = LGR.AUDIT_SEQ_LO.SEQ then some ((match s.led.audit with | e :: _ => e.seq | [] => s.led.auditSeq - 1) % 2 ^ 32)
  else if f = LGR.AUDIT_SEQ_HI.SEQ then some ((match s.led.audit with | e :: _ => e.seq | [] => s.led.auditSeq - 1) / 2 ^ 32)
  else if f = LGR.WEAR.PPM then some s.ledgerWear
  else if f = LGR.HOSTS.COUNT then some s.led.hosts.length
  else if f = I3C.STATUS.ROLE then some (s.role .i3c).code
  else if f = I3C.AUTH_CTL.BACKOFF_S then
    some (if s.rd I3C.AUTH_CTL.RESULT = 3 ∨ s.now < s.i3c.backoffUntil then min 65535 (ceilDiv (s.i3c.backoffUntil - s.now) 1250000000) else 0)
  else if f = I3C.ATTN.WINDOW then some (b2n s.attnWindow)
  else if f = I3C.ATTN.HALTED then some (b2n (s.dev == devHalted))
  else
    let n := (f.addr - 0x1880) / 64
    let m := (f.addr - 0x3100) / 64
    let j := (f.addr - 0x1000) / 256
    let k := (f.addr - 0x1040) % 256 / 4
    if 0x1040 ≤ f.addr ∧ f.addr < 0x1800 ∧ k < 17 ∧ f = ADC.SLICEk.MUX j k ∧ s.rd (ADC.SLICEk.ROLE j k) = 2 then some (s.calMux j k)
    else if n < 8 ∧ f = CAL.AGE.PASS_AGE_S n then some (if (s.calCh n).passed then s.ageS (s.calCh n).endNow else 0)
    else if n < 8 ∧ f = CAL.AGE.BG_AGE_S n then some (if (s.calCh n).passed then s.ageS (((s.calCh n).bgAt.min?).getD s.now) else 0)
    else if m < 8 ∧ f = CAP.CHn_STATUS.HELD m then some (s.heldPages m).eraseDups.length
    else none

/-! ### Local copies and the words a read returns -/

/-- The region, index and page that an attachment has selected (R565). -/
def State.window (s : State) (a : Att) : Nat × Nat × Nat := match a with
  | .i3c => (s.rd I3C.WIN_SEL.REGION, s.rd I3C.WIN_SEL.INDEX, s.rd I3C.WIN_BASE.PAGE)
  | .port p => ((s.port p).winRegion, (s.port p).winIndex, (s.port p).winPage)

/-- A selected region is being rewritten and reads 0: a snapshot area being copied, the image while a pass-through operation
runs (R565). -/
def State.unavailable (s : State) (a : Att) : Bool := match (s.window a).1 with
  | 7 => ((s.ach (s.lead ((s.window a).2.1 % 8))).stkSnap).copying
  | 8 => ((s.ach (s.lead ((s.window a).2.1 % 8))).mapSnap).copying
  | 19 => s.i3c.flashOp.isSome
  | _ => false

/-- What a read of field `f` through attachment `a` returns. -/
def State.view (s : State) (a : Att) (f : Fld) : Nat :=
  if f.access = .wo then 0
  else if f = I3C.WIN_SEL.REGION then (s.window a).1
  else if f = I3C.WIN_SEL.INDEX then (s.window a).2.1
  else if f = I3C.WIN_BASE.PAGE then (s.window a).2.2
  else if f = I3C.WIN_SEL.UNAVAILABLE then b2n (s.unavailable a)
  else
    let g := s.aliased f
    match s.derived a g with
    | some v => v % 2 ^ f.width
    | none => s.rd g

/-- The word that the fields of a register make. -/
def State.wordOf (s : State) (a : Att) (fs : List Fld) : Nat := fs.foldl (fun v f => v + s.view a f * 2 ^ f.lo) 0

/-! ### The windowed region (R565, R566) -/

/-- A descriptor as the region shows it (R234). -/
def State.descriptor (s : State) (t i : Nat) : List Nat := match (s.table t)[i]? with
  | none => leBytes 4 0xFFFFFFFF ++ leBytes 4 0xFFFFFFFF ++ List.replicate 8 0
  | some f =>
    let o := (s.cch f.channel).openF
    let live := decide (f.state = 1) && (match o with
      | some x => x.numbered && x.number == i && x.roll % 2 == t
      | none => false)
    let x := o.getD {}
    let first := if live then x.first else f.first
    let data := match f.blocks.find? (fun b => b.index ≤ first && first < b.index + 32) with
      | some b => if live && x.waits then 0xFFFFFFFF else b.addr / 16 + 2 ^ 25 * (first - b.index)
      | none => 0xFFFFFFFF
    leBytes 4 (if f.state = 4 ∨ f.state = 5 ∨ f.state = 0 then 0xFFFFFFFF else data)
      ++ leBytes 4 (if f.state = 2 ∨ f.state = 3 then f.headerSlot else 0xFFFFFFFF)
      ++ [f.channel, f.state] ++ leBytes 2 f.holders.length ++ leBytes 4 (if live then x.got else f.samples)

/-- An operator log slot (R462). -/
def OpEntry.bytes (e : OpEntry) : List Nat :=
  leBytes 8 e.tb ++ leBytes 4 e.hostId ++ leBytes 2 e.addr ++ [e.att % 256, e.result % 256] ++ leBytes 4 e.value
    ++ leBytes 4 e.seq ++ leBytes 8 0

/-- An event log slot (R546). -/
def Event.slot (e : Event) : List Nat :=
  leBytes 2 e.code ++ [min 6 e.params.length, b2n e.inHalted] ++ leBytes 4 e.seq ++ leBytes 8 e.tb
    ++ slice ((e.params.take 6).map (leBytes 4)).flatten 0 24 ++ leBytes 8 0

/-- The register part of a cell's view: 8 bytes each (R566). -/
def Cell.regWords (c : Cell) : List Nat :=
  c.d ++ c.a ++ c.cur ++ [c.sh, b2n c.fN + 2 * b2n c.fZ + 4 * b2n c.fV + 8 * b2n c.fL, c.pc, c.trapCode, c.loops.length, c.calls.length]

/-- Four bytes of a cell's view from offset `off` on (R566). -/
def Cell.viewAt (c : Cell) (off : Nat) : List Nat :=
  let w := fun (m : SMap Nat) (o : Nat) => leBytes 4 (SMap.get 0 m (o / 4) % 2 ^ 24)
  if off < 0x10000 then w c.x off else if off < 0x20000 then w c.y (off - 0x10000)
  else if off < 0x30000 then slice (leBytes 8 (c.p.getD ((off - 0x20000) / 8) 0)) (off % 8) 4
  else slice (leBytes 8 (c.regWords.getD ((off - 0x30000) / 8) 0)) (off % 8) 4

/-- Interpolation curve in force of a mode: the newest learned one, or the seed (R204). -/
def State.modeCurve (s : State) (m : Nat) : List Nat := match s.led.curves.find? (fun e => e.1 = m) with
  | some e => e.2
  | none => s.seed 3 m

/-- The counters of the statistics view of a port (R417). -/
def State.portStats (s : State) (p : Nat) : List Nat :=
  let q := s.port p
  let l := (q.stats.set 12 (ceilDiv q.held 65536)).set 13 (q.quotaMb * 16)
  (l.map (leBytes 4)).flatten

/-- Four bytes of the ledger from offset `off` on (R483): the audit log, the calibration ring, the certified-value history and the
learned curves as their records lie, and the identity's three parts one after the other, the private key as 64 bytes of 0 (R566; its
length is PRESUMED, notes/assumptions/84.md); reserved bytes read 0; places whose layout the spec does not state read a free value
(notes/assumptions/8.md). -/
def State.ledgerAt (s : State) (off : Nat) : List Nat :=
  let ring := fun (base size slots : Nat) (find : Nat → Option (List Nat)) =>
    let i := (off - base) / size
    slice ((find (i % slots)).getD []) ((off - base) % size) 4
  if 0x200000 ≤ off ∧ off < 0x400000 then
    ring 0x200000 2048 1024 (fun i => s.led.calRing.find? (fun r => le r 4 4 % 1024 = i))
  else if 0x100000 ≤ off ∧ off < 0x200000 then
    ring 0x100000 64 16384 (fun i => (s.led.audit.find? (fun e => e.seq % 16384 = i)).map AuditEntry.bytes)
  else if 0x20000 ≤ off then [0, 0, 0, 0]
  else if 0x14000 ≤ off then
    let i := (off - 0x14000) / 512
    let l := (s.led.curves.filter (fun e => e.1 = i / 32)).map Prod.snd
    slice ((l.getD (i % 32) []).map (leBytes 2)).flatten (off % 512) 4
  else if 0x10000 ≤ off then
    ring 0x10000 64 256 (fun i => (s.led.certs.find? (fun e => e.index % 256 = i)).map CertEntry.bytes)
  else if 0x1000 ≤ off ∧ off < 0x1000 + 64 then [0, 0, 0, 0]
  else if 0x1040 ≤ off ∧ off < 0x1040 + 16320 then slice s.led.certificate (off - 0x1040) 4
  else if 0x1040 + 16320 ≤ off ∧ off < 0x1040 + 16368 then slice s.led.neyrelKey (off - 0x1040 - 16320) 4
  else leBytes 4 (Config.freeValue 30 (s.now * 65536 + off))

/-- Four bytes of a region from byte offset `off` on, `off` a multiple of 4 (R566); bytes beyond a region read 0. -/
def State.regionAt (s : State) (a : Att) (region index off : Nat) : List Nat :=
  let cut := fun (bs : List Nat) => slice bs off 4
  let ch := s.lead (index % 8)
  match region with
  | 1 =>
    let c := s.rd CAL.VIEW.CHANNEL
    if 2048 ≤ off then cut []
    else if s.rd CAL.VIEW.SOURCE = 0 then cut (s.calLive c)
    else cut ((s.led.calRing.find? (fun r => le r 4 4 % 1024 = s.rd CAL.VIEW.SLOT)).getD [])
  | 2 => if off < 33280 then slice ((s.tdcCurve (off / 512)).map (leBytes 2)).flatten (off % 512) 4 else cut []
  | 3 => match s.image with
    | some im => slice ((im.table 1 (off / 1088)).getD []) (off % 1088) 4
    | none => cut []
  | 4 => if off < 1536 then slice ((s.modeCurve (off / 512)).map (leBytes 2)).flatten (off % 512) 4 else cut []
  | 5 =>
    if off < 2 ^ 24 then slice (s.descriptor 0 (off / 16)) (off % 16) 4
    else if off < 2 ^ 25 then slice (s.descriptor 1 ((off - 2 ^ 24) / 16)) (off % 16) 4 else cut []
  | 6 => match s.image with
    | some im => cut ((im.table 2 (s.rd FIL.VIEW.SET)).getD [])
    | none => cut []
  | 7 => if s.unavailable a then cut [] else cut (((s.ach ch).stkSnap.area.map SnapArea.bytes).getD [])
  | 8 => if s.unavailable a then cut [] else cut (((s.ach ch).mapSnap.area.map SnapArea.bytes).getD [])
  | 9 => (s.cell (s.rd CMB.VIEW.CELL)).viewAt off
  | 10 => cut s.cmb.progs.flatten
  | 11 => if off < s.overlayBytes then Memory.read 0 (s.overlay (s.rd PRO.OVL.WRITE)) off 4 else cut []
  | 12 =>
    let slot := off / 32
    slice (((s.oplog.find? (fun e => e.seq % 4096 = slot)).map OpEntry.bytes).getD []) (off % 32) 4
  | 13 =>
    let slot := off / 48
    let i := (s.rd FLT.LOG.NEWEST + 1024 - slot) % 1024
    if slot < 1024 then slice (((s.events[i]?).map Event.slot).getD []) (off % 48) 4 else cut []
  | 14 => if off < 16384 then Memory.read 0 s.sec.aperture off 4 else cut []
  | 15 => cut (match a with | .i3c => s.sec.i3cAttest | .port p => (s.port p).attest)
  | 16 => if off < 16320 then cut s.led.certificate else slice s.led.neyrelKey (off - 16320) 4
  | 17 => cut s.sec.export_
  | 18 =>
    let slot := off / 81920
    if slot < 256 then slice (((s.sec.signed.find? (fun m => m.first % 256 = slot)).map Signed.bytes).getD []) (off % 81920) 4 else cut []
  | 19 => match s.image with
    | some im => if off < im.length ∧ ¬ s.unavailable a then s.flashBytes (im.addr + off) 4 else cut []
    | none => cut []
  | 20 => if off < 536870912 then Memory.read 0 s.cap.mem off 4 else cut []
  | 21 => if off < 64 then slice (s.portStats (s.rd WAG.VIEW.PORT)) off 4 else cut []
  | 22 => s.ledgerAt off
  | 23 => if off < 4096 then Memory.read 0 s.i3c.flashBuf off 4 else cut []
  | 24 => if off < s.dramBytes ∧ ¬ s.arc.bad.contains (off / 256) then Memory.read 0 s.arc.mem off 4 else cut []
  | _ => cut []

/-- The word at `addr` as attachment `a` reads it: a register, an empty offset (0), or the windowed region. -/
def State.readWord (s : State) (a : Att) (addr : Nat) : Nat :=
  if addr < 0x8000 then match regFields addr with
    | some fs => s.wordOf a fs
    | none => 0
  else
    let (r, i, page) := s.window a
    ofLe (s.regionAt a r i (page * 32768 + (addr - 0x8000)))

/-- What a read of a register sets: the latched TB time (R139), the latched flip time (R452); a read of the ARCHIVE region goes through the
HOST port of the DRAM, in HALTED out of self-refresh (R355, R366, R377); one of the CAPTURE region takes a slot of class Q4 (R566). -/
def State.readEffect (s : State) (a : Att) (addr : Nat) : State :=
  if addr = TB.NOW_LO.TICKS.addr then
    ((s.wr TB.NOW_LO.TICKS (s.ticks % 2 ^ 32)).wr TB.NOW_HI.TICKS (s.ticks / 2 ^ 32)).wr TB.NOW_FRAC.FRAC (s.tb % 65536)
  else if addr = PRO.FLIP_COUNT.COUNT.addr then s.flipLatch
  else if 0x8000 ≤ addr ∧ (s.window a).1 = 24 then
    let at_ := (s.window a).2.2 * 32768 + (addr - 0x8000)
    if s.live then (if at_ + 4 ≤ s.dramBytes then s.askBytes 1 at_ 4 0 else s) else s.haltRead at_ 4
  else if 0x8000 ≤ addr ∧ (s.window a).1 = 20 ∧ s.up = true then
    let at_ := (s.window a).2.2 * 32768 + (addr - 0x8000)
    if at_ < 2 ^ 29 then s.request 5 1 at_ true else s
  else s

/-- A read through attachment `a`: the state after it and the word. -/
def State.readAccess (s : State) (a : Att) (addr : Nat) : State × Nat :=
  let s := s.readEffect a addr
  (s, s.readWord a addr)

end Sys2Proof.Machine
end

