-- ==== Sys2Proof/Machine/Writes.lean ====
section
/-! DEFINITION. What writes start in the blocks whose commands share registers: trigger (R181, R196, R200, R208), capture
(R227, R229, R244), filters (R258), accumulation (R298, R303), the Comb (R340, R350), profiles and staging (R505, R509),
DARK requests (R523), I3C authentication (R556) and flash pass-through (R561, R562). -/

namespace Sys2Proof.Machine

/-- Status codes of R406. -/
def stRole : Nat := 1
@[inherit_doc stRole] def stState : Nat := 2
@[inherit_doc stRole] def stBound : Nat := 3
@[inherit_doc stRole] def stLease : Nat := 4
@[inherit_doc stRole] def stMalformed : Nat := 5
@[inherit_doc stRole] def stResource : Nat := 6
@[inherit_doc stRole] def stValue : Nat := 8

/-! ### Trigger -/

/-- A commit of the trigger fields of lead channel `n`: the requested values wait for their boundary (R186, R196). -/
def State.trgCommit (s : State) (n : Nat) : State :=
  (s.modTrg n (fun c => { c with committed := some (s.trgRequested n) })).put (TRG.CHn_STATUS.PENDING n) true

/-- A REARM holdoff of lead channel `n` ends at the start of this tick; another kind does not. The write is kept while a trigger before it
may still be on its way (R189, R196). -/
def State.trgRearm (s : State) (n : Nat) : State :=
  let late := fun (q : List TEvent) (r : Nat) => decide (s.tb < r + 128 * 65536) || q.any (fun e => decide (e.time ≤ r))
  let s := s.modTrg n (fun c => { c with rearms := s.ticks * 65536 :: c.rearms.filter (late c.queue) })
  if (s.tch n).hold.kind = 3 ∧ s.on (TRG.CHn_STATUS.HOLDOFF n) then
    (s.modTrg n (fun c => { c with hold := { c.hold with until_ := some (s.ticks * 65536) } })).put (TRG.CHn_STATUS.HOLDOFF n) false
  else s

/-- A command event for lead channel `n`, at the start of this tick: source 45 through I3C, 46 through Waggle (R187, R188, R200). -/
def State.trgCommand (s : State) (a : Att) (n : Nat) (force : Bool) : State :=
  s.present n { time := s.ticks * 65536, src := match a with | .i3c => 45 | .port _ => 46, force := force }

/-- TRGOUT `k` takes a new setting: a pulse in progress ends and the output is low for at least one tick (R208, R541). -/
def State.trgoutSet (s : State) (k : Nat) : State :=
  { s with trg := { s.trg with pulse := s.trg.pulse.set k [], lowUntil := s.trg.lowUntil.set k (s.ticks + 2) } }

/-- What a write of a trigger field starts; a member's command bits act on its group (R181). -/
def TRG.onWrite (a : Att) (f : Fld) (v : Nat) (s : State) : State :=
  let c := (f.addr - 0x2880) / 64
  let n := s.lead c
  if f.addr < 0x2810 then s.trgoutSet ((f.addr - 0x2800) / 4)
  else if f = TRG.CURVE_CTL.LEARN then (if v = 1 then s.learnStart else s.put TRG.CURVE_CTL.LEARN true)
  else if f = TRG.CHn_CTL.COMMIT c then s.trgCommit n
  else if f = TRG.CHn_CTL.REARM c then s.trgRearm n
  else if f = TRG.CHn_CTL.FORCE c then s.trgCommand a n true
  else if f = TRG.CHn_CTL.CMD c then s.trgCommand a n false
  else s

/-! ### Capture -/

/-- The lead channels whose group a mask names (R227). -/
def State.leadsOf (s : State) (mask : Nat) : List Nat := s.leads.filter (fun n => (s.members n).any (fun m => mask.testBit m))

/-- Status that a refused start carries, by the block's cause (R589): a block, its cause, a channel. -/
def startStatus (r : Nat × Nat × Nat) : Nat :=
  if r.1 = 0 ∧ (r.2.1 = 6 ∨ r.2.1 = 2) then stState else if r.1 = 0 ∧ r.2.1 = 1 then stResource else stValue

/-- Why a start of the channels of `mask` is refused now: status, block, cause, channel. A start needs IDLE or ACTIVE, and none is
taken from step 1 of a DARK entry on (R523). -/
def State.startCheck (s : State) (mask : Nat) : Option (Nat × Nat × Nat × Nat) :=
  let chs := (s.leadsOf mask).filter s.startable
  if chs.isEmpty then none
  else if !s.up || s.boot.entryStep != 0 then some (stState, 3, 0, 0)
  else (s.startRefusal chs).map (fun r => (startStatus r, r))

/-- START and STOP bits of one channel in one word (R227). -/
def State.startStop (s : State) (start stop : Nat) : Bool := (s.leadsOf start).any (fun n => (s.leadsOf stop).contains n)

/-- Why a word written to `CAP.CTL` is refused: status, block, cause, channel. -/
def State.capCtlCheck (s : State) (start stop : Nat) : Option (Nat × Nat × Nat × Nat) :=
  match s.startCheck start with
  | some r => if r.1 = stState ∨ ¬ s.startStop start stop then some r else some (stValue, 0, 9, 0)
  | none => if s.startStop start stop then some (stValue, 0, 9, 0) else none

/-- ABORT, STOP and START of one word (R227, R229). -/
def State.capCtl (s : State) (start stop : Nat) (abort : Bool) : State :=
  let s := if abort then s.markEnd 5 else s
  let s := if (s.leadsOf stop).isEmpty then s else s.stopChannels (s.leadsOf stop)
  if start = 0 then s else s.startChannels start

/-- What a write of a capture field starts. -/
def CAP.onWrite (n : Fld → Nat) (f : Fld) (s : State) : State :=
  if f = CAP.CTL.START then s.capCtl (n CAP.CTL.START) (n CAP.CTL.STOP) (n CAP.CTL.ABORT == 1)
  else if f = CAP.RELEASE.FRAME then s.release (n CAP.RELEASE.FRAME) (n CAP.RELEASE.OTHER == 1) (n CAP.RELEASE.ALL == 1)
  else if f = CAP.POOL_WARN.LOW_RESET then s.wr CAP.POOL_WARN.LOW_WATER s.freePages
  else if f = CAP.POOL_WARN.LEVEL then s.poolCheck
  else if 0x3100 ≤ f.addr then s.demandRefresh
  else s

/-! ### Filters and accumulation -/

/-- The combination is judged after every write of a chain register (R258). -/
def FIL.onWrite (f : Fld) (s : State) : State :=
  if 0x3480 ≤ f.addr then (s.filRefresh ((f.addr - 0x3480) / 64)).demandRefresh else s

/-- Snapshots and clears by command (R298, R303). -/
def ACC.onWrite (f : Fld) (s : State) : State :=
  let n := (f.addr - 0x3880) / 64
  if f = ACC.CHn_CTL.SNAP_STK n then s.snapRequest n 0 false
  else if f = ACC.CHn_CTL.SNAP_MAP n then s.snapRequest n 1 false
  else if f = ACC.CHn_CTL.CLEAR_STK n then s.clearRequest n 0
  else if f = ACC.CHn_CTL.CLEAR_MAP n then s.clearRequest n 1
  else if f = ACC.REGION.PAGES then { s.wr CAP.REGIONS.ACC (s.rd ACC.REGION.PAGES) with cap := { s.cap with allocPtr := 0 } }.poolCheck
  else s

/-! ### The Comb -/

/-- Cells and command that a word to a Comb command register names: command codes of `CMB.CELLc.CMD`. -/
def cmbNamed (n : Fld → Nat) (addr : Nat) : List Nat × Nat :=
  if addr = CMB.CTL.CMD.addr then
    (groupCells (n CMB.CTL.CELLS) (n CMB.CTL.SUPER), match n CMB.CTL.CMD with | 1 => 2 | 2 => 3 | _ => 7)
  else let c := (addr - 0x4500) / 4; ([c], n (CMB.CELLc.CMD c))

/-- Why a Comb command is refused: status, cause (15 where no cause is stated), cell (R340, R344, R350). -/
def State.cmbCheck (s : State) (a : Att) (n : Fld → Nat) (addr : Nat) : Option (Nat × Nat × Nat) :=
  let (cells, cmd) := cmbNamed n addr
  let prog := n (CMB.CELLc.PROGRAM ((addr - 0x4500) / 4))
  if cmd = 0 then none
  else match cells.find? (fun c => c % 24 == 23 && s.role a != .maker) with
  | some c => some (stRole, 1, c)
  | none =>
    if !s.up then some (stState, 7, cells.headD 0)
    else match cells.find? (fun c => cmd ≤ 4 && s.cellRefusal c cmd != 0) with
    | some c => some (stState, s.cellRefusal c cmd, c)
    | none =>
      if 4 < cmd then some (stValue, 15, cells.headD 0)
      else if cmd = 1 ∧ cells.any (fun c => (s.cellProg? c prog).isNone) then some (stValue, 2, cells.headD 0) else none

/-- The command carried out. -/
def CMB.onWrite (n : Fld → Nat) (f : Fld) (s : State) : State :=
  if f = CMB.CTL.CMD ∨ f = CMB.CELLc.CMD ((f.addr - 0x4500) / 4) then
    let (cells, cmd) := cmbNamed n f.addr
    cells.foldl (fun s c => s.cellCommand c cmd (n (CMB.CELLc.PROGRAM c))) s
  else s

/-! ### Profiles and staging (R505, R509, R513) -/

/-- The profile in force. -/
def State.profile (s : State) : Option Profile := match s.image with
  | some im => if s.dev = devStart then none else im.profiles.find? (fun p => p.number = s.rd PRF.STATUS.ACTIVE)
  | none => none

/-- A profile present in the image. -/
def State.profileOf (s : State) (k : Nat) : Option Profile := s.image.bind (fun im => im.profiles.find? (fun p => p.number = k))

/-- An adoption is in progress. -/
def State.adopting (s : State) : Bool := s.prf.adopting != 0

/-- A switch requested: during an adoption it is held; it replaces one that waits; with ABORT the open roll ends at once (R505,
R506, R513). -/
def State.switchRequest (s : State) (k : Nat) (by_ : Option Att) (abort : Bool) : State :=
  if s.adopting then { s with prf := { s.prf with heldSwitch := some (k, by_) } }
  else
    let s := s.wr PRF.STATUS.RESULT (if s.on PRF.STATUS.PENDING_VALID then 5 else s.rd PRF.STATUS.RESULT)
    let s := { s with prf := { s.prf with byAtt := by_, abort := abort } }
    let s := (s.wr PRF.STATUS.PENDING k).put PRF.STATUS.PENDING_VALID true
    let s := if s.prf.resumeAt.isNone then s.wr PRF.STATUS.STATE 1 else s
    if abort then s.markEnd 5 else s

/-- A switch that waits is dropped and reads SUPERSEDED (R513). -/
def State.switchDrop (s : State) : State :=
  if s.on PRF.STATUS.PENDING_VALID then ((s.put PRF.STATUS.PENDING_VALID false).wr PRF.STATUS.STATE 0).wr PRF.STATUS.RESULT 5 else s

/-- A check of the staged image starts (R509). -/
def State.stageCheck (s : State) : State :=
  ({ s with prf := { s.prf with stageAddr := s.rd PRF.STAGE.ADDR * 65536, staged := none } }.wr PRF.STAGE_STATUS.STATE 1).wr
    PRF.STAGE_STATUS.CAUSE 0

/-- What a write of a profile field starts. -/
def PRF.onWrite (a : Att) (n : Fld → Nat) (f : Fld) (s : State) : State :=
  if f = PRF.CTL.SWITCH then s.switchRequest (n PRF.CTL.PROFILE) (some a) (n PRF.CTL.ABORT == 1)
  else if f = PRF.STAGE.CHECK then s.stageCheck
  else if f = PRF.SOURCE.SOURCE then
    let s := if s.prf.heldSwitch.any (fun x => x.2.isNone) then { s with prf := { s.prf with heldSwitch := none } }.wr PRF.STATUS.RESULT 5 else s
    if s.prf.byAtt.isNone then s.switchDrop else s
  else s

/-- Writes a state refuses: a COMMAND switch under PINS or outside IDLE and ACTIVE; a CHECK while a check or an adoption runs. -/
def PRF.stateBad (s : State) (n : Fld → Nat) (f : Fld) : Bool :=
  (f = PRF.CTL.SWITCH && n f = 1 && (!s.on PRF.SOURCE.SOURCE || !s.up)) ||
  (f = PRF.STAGE.CHECK && n f = 1 && (s.rd PRF.STAGE_STATUS.STATE = 1 || s.rd PRF.STAGE_STATUS.STATE = 4))

/-- A switch to a profile that is absent (R505). -/
def PRF.valueBad (s : State) (n : Fld → Nat) (f : Fld) : Bool :=
  f = PRF.CTL.SWITCH && n f = 1 && !s.adopting && (s.profileOf (n PRF.CTL.PROFILE)).isNone

/-- A switch by the operator to a profile outside the allowed mask (R505, R461). -/
def PRF.roleBad (s : State) (a : Att) (n : Fld → Nat) (f : Fld) : Bool :=
  f = PRF.CTL.SWITCH && n f = 1 && s.role a = .operator && (match s.profile with
    | some p => !p.allowed.testBit (n PRF.CTL.PROFILE)
    | none => false)

/-! ### DARK requests (R523, R525) -/

/-- Why a request for DARK is refused: 1 not IDLE, 2 an entry in progress; 0 where it stands. -/
def State.darkCause (s : State) : Nat := if s.on SYS.STATE.ENTERING then 2 else if s.dev ≠ devIdle then 1 else 0

/-- A refused request: cause and event (R523, R529). -/
def State.darkRefused (s : State) : State := (s.wr SYS.REFUSED.CAUSE s.darkCause).event 0x0122 [s.darkCause]

/-- A request accepted: entry begins to wait; the open manifest closes and user cells halt (R346, R475, R523). -/
def State.darkRequest (s : State) : State :=
  ({ s with boot := { s.boot with entryStep := 0, heldWake := none } }.put SYS.STATE.ENTERING true).closeManifest.haltCells

/-- What a write of a system field starts; WAKE acts through I3C only, in DARK or during its entry (R525). -/
def SYS.onWrite (a : Att) (f : Fld) (s : State) : State :=
  if f = SYS.CTL.DARK then s.darkRequest
  else if f = SYS.CTL.WAKE ∧ a = .i3c ∧ s.on SYS.WAKE_CFG.I3C then s.wakeSource 4 0
  else s

/-! ### Authentication through I3C (R556) -/

/-- A nonce drawn into its registers. -/
def State.authNonce (s : State) : State :=
  let (r, s) := s.draw 256
  let s := (List.range 8).foldl (fun s k => s.wr (I3C.AUTH_NONCEk.WORD k) (r / 2 ^ (32 * k) % 2 ^ 32)) s
  s.modI3c (fun x => { x with nonceLive := true })

/-- Words of a run of eight registers, as bytes. -/
def State.words8 (s : State) (r : Nat → Fld) : List Nat := ((List.range 8).map (fun k => leBytes 4 (s.rd (r k)))).flatten

/-- A rejection doubles the backoff, from 1 s to 64 s (R411). -/
def State.authReject (s : State) : State :=
  let b := if s.i3c.backoffS = 0 then 1 else min 64 (2 * s.i3c.backoffS)
  (s.wr I3C.AUTH_CTL.RESULT 2).modI3c (fun x => { x with backoffS := b, backoffUntil := s.now + ticksOfS b })

/-- The mac is checked: role and rights of the key entry, or a rejection with the backoff of R411. -/
def State.authGo (s : State) : State :=
  if s.now < s.i3c.backoffUntil then s.wr I3C.AUTH_CTL.RESULT 3
  else
    let id := s.rd I3C.AUTH_HOST.HOST_ID
    let m := ascii "WAGGLE-I" ++ leBytes 8 s.led.serial ++ leBytes 4 id ++ s.words8 I3C.AUTH_NONCEk.WORD
    match s.keyEntry id with
    | some h =>
      if s.i3c.nonceLive ∧ hmac h.key m = s.words8 I3C.AUTH_MACk.WORD then
        ((((s.wr I3C.AUTH_CTL.RESULT 1).put I3C.STATUS.AUTH true).wr I3C.STATUS.ROLE h.role).modI3c (fun x => { x with
          nonceLive := false, hostId := id, rights := h.rights, backoffS := 0, lastTransfer := s.now }))
      else s.authReject
    | none => s.authReject

/-! ### Flash pass-through (R561, R562) -/

/-- The attachment may use pass-through (R561). -/
def State.flashMay (s : State) (a : Att) : Bool := s.role a == .installer || s.led.owner.isNone || s.on SEC.STATE.CLAIM_PIN

/-- The result of an operation that is not carried out, 0 where it is (R562). -/
def State.flashBad (s : State) (a : Att) (op : Nat) : Nat :=
  let first := s.rd I3C.FLASH_RANGE.FIRST
  let last := s.rd I3C.FLASH_RANGE.LAST
  let addr := s.rd I3C.FLASH_ADDR.ADDR
  let len := match op with | 5 => 4096 | 6 => 65536 | _ => s.rd I3C.FLASH_LEN.BYTES
  let reading := s.rd PRF.STAGE_STATUS.STATE = 1 || s.prf.adopting = 2
  let ovr := match s.image with
    | some im => first * 65536 < im.addr + im.length && im.addr < (last + 1) * 65536
    | none => false
  if !s.flashMay a then 1
  else if s.i3c.flashOp.isSome || s.dev = devDark || (s.dev = devStart && s.rd SYS.STATE.STEP < 5) || reading then 2
  else if op = 1 then
    if last < first ∨ s.flashSize < (last + 1) * 65536 ∨ (ovr = true ∧ s.led.owner.isSome ∧ s.dev ≠ devHalted) then 3
    else if s.auditFull ∧ s.dev ≠ devHalted then 6 else 0
  else if s.rd I3C.FLASH_STATUS.STATE = 0 then 2
  else if op = 2 then 0
  else if (op = 5 ∧ addr % 4096 ≠ 0) ∨ (op = 6 ∧ addr % 65536 ≠ 0) ∨ len < 1 ∨ (op < 5 ∧ 4096 < len) then 4
  else if addr < s.i3c.flashRange.1 * 65536 ∨ (s.i3c.flashRange.2 + 1) * 65536 < addr + len then 3 else 0

/-- The audit entry of an OPEN or CLOSE: range and operations. The spec gives it no kind code: a free value
(notes/assumptions/8.md). None when the log is full or the ledger is the fault in HALTED. -/
def State.flashAudit (s : State) (a : Att) : State :=
  if s.auditFull ∨ (s.dev = devHalted ∧ 0x0700 ≤ s.rd FLT.REASON.CODE ∧ s.rd FLT.REASON.CODE < 0x0706) then s
  else
    let (k, s) := s.free 31 16
    s.auditBy a k s.i3c.flashRange.1 s.i3c.flashRange.2 (s.rd I3C.FLASH_STATUS.OPS) 0

/-- An operation ends with a result and its interrupt (R558, R562). -/
def State.flashDone (s : State) (result : Nat) : State := (s.wr I3C.FLASH_STATUS.RESULT result).raiseIbi ⟨5, [result]⟩

/-- GO: the operation is refused with its result, done (OPEN, CLOSE), or runs until the flash has carried it out. -/
def State.flashGo (s : State) (a : Att) (op : Nat) : State :=
  let bad := s.flashBad a op
  if bad ≠ 0 then s.flashDone bad
  else match op with
  | 1 =>
    let s := s.modI3c (fun x => { x with flashRange := (s.rd I3C.FLASH_RANGE.FIRST, s.rd I3C.FLASH_RANGE.LAST), flashClose := false })
    (((s.wr I3C.FLASH_STATUS.STATE 1).wr I3C.FLASH_STATUS.OPS 0).flashAudit a).flashDone 0
  | 2 => ((s.flashAudit a).wr I3C.FLASH_STATUS.STATE 0).flashDone 0
  | _ =>
    let len := match op with | 5 => 4096 | 6 => 65536 | _ => s.rd I3C.FLASH_LEN.BYTES
    (s.modI3c (fun x => { x with flashOp := some (op, s.rd I3C.FLASH_ADDR.ADDR, len) })).wr I3C.FLASH_STATUS.STATE 2

/-- What a write of an I3C field starts; window selections are the attachment's own (R565). -/
def I3C.onWrite (a : Att) (n : Fld → Nat) (f : Fld) (s : State) : State :=
  if f = I3C.AUTH_CTL.NONCE then s.authNonce
  else if f = I3C.AUTH_CTL.GO then s.authGo
  else if f = I3C.AUTH_CTL.LOGOUT then s.i3cLogout
  else if f = I3C.FLASH_CTL.GO then s.flashGo a (n I3C.FLASH_CTL.OP)
  else s

/-- Values refused with VALUE (R561, R568). -/
def I3C.valueBad (n : Fld → Nat) (f : Fld) : Bool :=
  (f = I3C.AUTH_IDLE.SECONDS && (n f < 10 || 3600 < n f)) ||
  (f = I3C.FLASH_LEN.BYTES && (n f < 1 || 4096 < n f)) ||
  ((f = I3C.FLASH_RANGE.FIRST || f = I3C.FLASH_RANGE.LAST) && n I3C.FLASH_RANGE.LAST < n I3C.FLASH_RANGE.FIRST) ||
  (f = I3C.FLASH_CTL.GO && (n I3C.FLASH_CTL.OP < 1 || 6 < n I3C.FLASH_CTL.OP))

end Sys2Proof.Machine
end

