-- ==== Sys2Proof/Machine/Regio.lean ====
section
/-! DEFINITION. A write access (R588 to R590): which fields it writes, the tests in their order, what a refusal records, the
logs, and the effects. Registers and the windowed region go the same way. -/

namespace Sys2Proof.Machine

/-! ### What a write access writes (R588) -/

/-- The word `v` at `addr` as values of fields: those of its register from the word, others as a read returns them. -/
def State.given (s : State) (a : Att) (addr v : Nat) (f : Fld) : Nat :=
  if f.addr = addr then v / 2 ^ f.lo % 2 ^ f.width else s.view a f

/-- The field counts as written. -/
def State.counts (s : State) (a : Att) (n : Fld → Nat) (f : Fld) : Bool := match f.access with
  | .ro => fixedGate f && n f == 1
  | .wo => if f.width = 1 then n f == 1 else true
  | .w1c => n f != 0
  | _ => n f != s.view a f

/-- The fields that a write access counts as written. -/
def State.written (s : State) (a : Att) (addr v : Nat) : List Fld :=
  ((regFields addr).getD []).filter (s.counts a (s.given a addr v))

/-! ### Refusals -/

/-- A refusal: its status (R406), the block that records its cause (0 CAP, 1 FIL, 2 ACC, 3 none, 4 CMB, 5 TB_SET, 6 SYS, 7 PRF,
8 flash pass-through), the cause, the unit concerned. -/
structure Refuse where
  status : Nat
  block : Nat := 3
  cause : Nat := 0
  unit : Nat := 0
  deriving DecidableEq, Repr

/-- What the block records of a refusal. -/
def State.noteRefuse (s : State) (r : Refuse) : State := match r.block with
  | 0 => s.wr CAP.REFUSED.CAUSE r.cause
  | 1 => if r.cause = 0 then s else (s.wr FIL.REFUSED.CAUSE r.cause).wr FIL.REFUSED.CHANNEL r.unit
  | 2 => if r.cause = 0 then s else (s.wr ACC.REFUSED.CAUSE r.cause).wr ACC.REFUSED.CHANNEL r.unit
  | 4 => s.cmbRefused r.cause r.unit
  | 5 => s.wr TB.SET_CTL.REFUSED r.cause
  | 6 => s.darkRefused
  | 7 => s.wr PRF.STATUS.RESULT r.cause
  | 8 => s.flashDone 1
  | _ => s

/-- The detail a response gives: the recorded cause (R406). -/
def State.refuseDetail (s : State) (r : Refuse) : Nat := match r.block with
  | 3 => 0
  | 4 => s.rd CMB.REFUSED.CAUSE
  | 8 => 1
  | _ => r.cause

/-! ### Commands that are judged as a whole -/

/-- A word to `CAP.RELEASE` (R222, R244): a frame that is open, and one that is unknown or not retained. -/
def State.releaseCheck (s : State) (n : Fld → Nat) : Option Refuse :=
  let t := if n CAP.RELEASE.OTHER = 1 then 1 - s.curTable else s.curTable
  if n CAP.RELEASE.ALL = 1 then none
  else match (s.table t)[n CAP.RELEASE.FRAME]? with
    | some f => if f.state = 1 then some ⟨stState, 0, 4, 0⟩ else if f.state = 2 ∧ f.retain = true then none else some ⟨stValue, 0, 5, 0⟩
    | none => some ⟨stValue, 0, 5, 0⟩

/-- A register of Comb commands: `CMB.CTL` and those of the cells (R350). -/
def cmbCommand (addr : Nat) : Bool := addr == CMB.CTL.CMD.addr || (0x4500 ≤ addr && addr < 0x4800)

/-- Why the command that a word carries is refused, with the block's cause. -/
def State.commandCheck (s : State) (a : Att) (addr : Nat) (fs : List Fld) (n : Fld → Nat) : Option Refuse :=
  if addr = CAP.CTL.START.addr then
    (s.capCtlCheck (n CAP.CTL.START) (n CAP.CTL.STOP)).map (fun r => ⟨r.1, r.2.1, r.2.2.1, r.2.2.2⟩)
  else if addr = CAP.RELEASE.FRAME.addr then s.releaseCheck n
  else if cmbCommand addr then
    (s.cmbCheck a n addr).map (fun r => ⟨r.1, 4, r.2.1, r.2.2⟩)
  else if fs.contains SYS.CTL.DARK && s.darkCause != 0 then some ⟨stState, 6, s.darkCause, 0⟩
  else if fs.contains PRF.CTL.SWITCH then
    (if PRF.roleBad s a n PRF.CTL.SWITCH then some ⟨stRole, 7, 2, 0⟩
     else if PRF.stateBad s n PRF.CTL.SWITCH then some ⟨stState, 3, 0, 0⟩
     else if PRF.valueBad s n PRF.CTL.SWITCH then some ⟨stValue, 7, 1, 0⟩ else none)
  else if fs.contains TB.SET_CTL.ARM && n TB.SET_CTL.ARM == 1 && s.armCause != 0 then
    some ⟨if s.armCause = 1 then stValue else stState, 5, s.armCause, 0⟩
  else if addr = I3C.FLASH_CTL.OP.addr ∧ ¬ s.flashMay a then some ⟨stRole, 8, 1, 0⟩
  else none

/-! ### The tests in their order (R589) -/

/-- Fields of flash pass-through: registers an attachment allowed under R561 may write. -/
def isFlash (addr : Nat) : Bool := 0x7080 ≤ addr && addr < 0x7090

/-- Fields marked installer only (R12). -/
def installerOnly (f : Fld) : Bool :=
  f == PRF.STAGE.CHECK || (0x5400 ≤ f.addr && f.addr < 0x5800 && f == HPT.Pp_CTL.REOPEN ((f.addr - 0x5400) / 16))

/-- The role does not allow the field (R11, R12, R461, R561). -/
def State.fieldRole (s : State) (a : Att) (f : Fld) : Bool :=
  if isFlash f.addr then !s.flashMay a
  else match f.access with
    | .rwi => s.role a != .installer
    | .rwm => s.role a != .maker
    | _ => installerOnly f && s.role a != .installer

/-- The lease items a write needs (R408): the lead's item of a channel register or bit, else the device (8). Installer writes
to RWI fields need none, but through I3C, where no role passes a session's hold. -/
def State.itemsFor (s : State) (a : Att) (addr : Nat) (fs : List Fld) (n : Fld → Nat) : List Nat :=
  let leads := fun (mask : Nat) => ((List.range 8).filter (fun c => mask.testBit c)).map s.lead
  if a ≠ .i3c ∧ s.role a = .installer ∧ fs.all (fun f => f.access == .rwi) = true then []
  else match chanReg addr with
  | some (_, c, _) => [s.lead c]
  | none =>
    if addr = CAP.CTL.START.addr then
      let l := leads (n CAP.CTL.START ||| n CAP.CTL.STOP)
      if l.isEmpty ∨ n CAP.CTL.ABORT = 1 then l ++ [8] else l
    else if addr = CAL.CTL.PASS_REQ.addr then
      let l := leads (n CAL.CTL.PASS_REQ ||| n CAL.CTL.RANGE_CHECK)
      if l.isEmpty then [8] else l
    else [8]

/-- A lease the write needs is missing: a port must hold every item; through I3C no session may hold one. -/
def State.leaseBad (s : State) (a : Att) (items : List Nat) : Bool := items.any (fun i =>
  match a, (s.leases.getD i {}).holder with
  | .port p, some q => p != q
  | .port _, none => true
  | .i3c, some _ => true
  | .i3c, none => false)

/-- HALTED refuses the write (R590). -/
def State.haltedBad (s : State) (addr : Nat) (fs : List Fld) : Bool :=
  if 0x0800 ≤ addr ∧ addr < 0x0C00 then !fs.all (fun f => f.access == .w1c)
  else if addr = LGR.EXPORT_CTL.GO.addr then
    [0x0650, 0x0651, 0x0701, 0x0704, 0x0705].contains (s.rd FLT.REASON.CODE) || !s.boot.selfTestDone
  else !(0x7000 ≤ addr && addr < 0x8000)

/-- DARK refuses the write: only SYS, WIN, MCV and I3C registers are written (R524). -/
def darkBad (addr : Nat) : Bool :=
  !((0x0400 ≤ addr && addr < 0x0800) || (0x3C00 ≤ addr && addr < 0x4400) || (0x7000 ≤ addr && addr < 0x8000))

/-- The control registers of tokens, attestation and export, which any role may write (R487). -/
def isControl (x : Nat) : Bool := x == 0x600C || x == 0x602C || x == 0x610C || (0x6040 ≤ x && x < 0x6060)

/-- A full audit log refuses the actions of installer and maker, short of the way to an AUDIT_ACK (R480, R487); pass-through goes on
unrecorded (R561). -/
def State.auditBad (s : State) (a : Att) (fs : List Fld) : Bool :=
  s.auditFull && ((s.role a == .maker && !fs.any (fun f => isControl f.addr)) || fs.any (fun f => !isFlash f.addr && (f.access == .rwi || f.access == .rwm || installerOnly f)))

/-- The RWL lock holds the field: its channel is not STOPPED and the device is not IDLE (R11). -/
def State.locked (s : State) (f : Fld) : Bool :=
  f.access == .rwl && s.dev != devIdle && (match chanReg f.addr with
    | some (_, c, _) => s.chState (s.lead c) != chStopped
    | none => true)

/-- A state of the block does not allow the field's value. -/
def State.blockState (s : State) (a : Att) (n : Fld → Nat) (f : Fld) : Bool :=
  let x := f.addr
  if x < 0x0C00 then false
  else if x < 0x1000 then f != PRF.CTL.SWITCH && PRF.stateBad s n f
  else if x < 0x2000 then ADC.stateBad s n f
  else if x < 0x2480 then false
  else if x < 0x2800 then TDC.stateBad s n f
  else if x < 0x3000 then TRG.stateBad s f
  else if x < 0x3C00 then false
  else if x < 0x4400 then MON.stateBad s n f
  else if x < 0x4800 then false
  else if x < 0x5000 then DRM.stateBad s f
  else if 0x6000 ≤ x ∧ x < 0x7000 then SEC.stateBad s a n f
  else false

/-- The value of a field is refused as such. -/
def State.blockValue (s : State) (n : Fld → Nat) (f : Fld) : Bool :=
  let x := f.addr
  if x < 0x1000 then false
  else if x < 0x2000 then ADC.valueBad s n f
  else if x < 0x2480 then f != TB.SET_CTL.ARM && CLK.valueBad s n f
  else if x < 0x2800 then TDC.valueBad n f
  else if x < 0x3000 then TRG.valueBad s n f
  else if x < 0x3400 then CAP.valueBad s n f
  else if x < 0x3800 then FIL.valueBad n f
  else if x < 0x3C00 then ACC.valueBad s n f
  else if x < 0x4400 then MON.valueBad n f
  else if x < 0x4800 then f = CMB.VIEW.CELL && 191 < n f
  else if x < 0x5000 then DRM.valueBad s n f
  else if x < 0x5800 then WAG.valueBad s n f
  else if x < 0x6000 then PRO.valueBad s n f
  else if x < 0x7000 then SEC.valueBad n f
  else I3C.valueBad n f

/-- A refusal by a field, with the block's cause where it records one. -/
def State.fieldRefuse (s : State) (n : Fld → Nat) (status : Nat) (lock : Bool) (f : Fld) : Refuse :=
  let unit := match chanReg f.addr with
    | some (_, c, _) => c
    | none => 0
  if 0x3000 ≤ f.addr ∧ f.addr < 0x3400 ∧ lock = false ∧ (chanReg f.addr).isSome then ⟨status, 0, 7, unit⟩
  else if 0x3400 ≤ f.addr ∧ f.addr < 0x3800 then ⟨status, 1, FIL.causeOf unit lock f, unit⟩
  else if 0x3800 ≤ f.addr ∧ f.addr < 0x3C00 then ⟨status, 2, ACC.causeOf s n lock f, unit⟩
  else ⟨status, 3, 0, 0⟩

/-- The mask of bits a field takes in its register. -/
def Fld.mask (f : Fld) : Nat := (2 ^ f.width - 1) * 2 ^ f.lo

/-- A bound of the profile refuses a word (R496): a LOCKED bit changes, or the masked field, of which a bit changes, leaves its range;
masked bits given the value they hold are not judged. `fields` masks what counts as written, `changed` the bits that change. -/
def boundBad (b : Bound) (old v fields changed : Nat) : Bool :=
  b.mask &&& changed != 0 && (b.locked ||
    (let sh := ((List.range 32).find? (fun i => b.mask.testBit i)).getD 0
     let w := ((List.range 32).filter (fun i => b.mask.testBit i)).length
     let x := ((v &&& fields ||| old &&& (2 ^ 32 - 1 - fields)) &&& b.mask) / 2 ^ sh
     if b.signed then toSigned w x < toSigned 32 b.lo || toSigned 32 b.hi < toSigned w x
     else x < b.lo || b.hi < x))

/-- The bits that counted fields change: those that differ from what the field reads as; a command's and those a write of ones clears,
as they are written (R588). -/
def changedBits (old v : Nat) (fs : List Fld) : Nat := fs.foldl (fun m f => m ||| (match f.access with
  | .wo => f.mask
  | .w1c => f.mask &&& v
  | _ => f.mask &&& (v ^^^ old))) 0

/-- The profile in force refuses an operator's word (R496). `fields` is the mask of what counts as written, `changed` of what changes. -/
def State.boundsBad (s : State) (a : Att) (addr old v fields changed : Nat) : Bool :=
  s.role a == .operator && (match s.profile with
    | none => false
    | some p =>
      (p.flags.testBit 2 && addr < 0x8000 && !p.bounds.any (fun b => b.addr == addr)) ||
      p.bounds.any (fun b => b.addr == addr && boundBad b old v fields changed))

/-- The first test that a write of a register fails; none where it may go (R589). -/
def State.judge (s : State) (a : Att) (addr v : Nat) (fs : List Fld) : Option Refuse :=
  let n := s.given a addr v
  let cmd := s.commandCheck a addr fs n
  let cmdAt := fun (st : Nat) => cmd.filter (fun r => r.status = st)
  let old := s.wordOf a ((regFields addr).getD [])
  let counted := fs.foldl (fun m f => m ||| f.mask) 0
  let lock := fs.find? (fun f => s.locked f || s.memberReg addr)
  let value := fs.find? (fun f => s.blockValue n f)
  if (s.rights a).testBit 0 = false ∨ fs.any (s.fieldRole a) = true then some ((cmdAt stRole).getD ⟨stRole, 3, 0, 0⟩)
  else if (cmdAt stRole).isSome then cmdAt stRole
  else if s.leaseBad a (s.itemsFor a addr fs n) then some ⟨stLease, 3, 0, 0⟩
  else if (s.dev = devHalted ∧ s.haltedBad addr fs = true) ∨ (s.dev = devDark ∧ darkBad addr = true) ∨ s.auditBad a fs = true then
    some (((cmdAt stState).filter (fun r => [4, 5, 6].contains r.block)).getD ⟨stState, 3, 0, 0⟩)
  else if (cmdAt stState).isSome then cmdAt stState
  else match lock with
  | some f => some (s.fieldRefuse n stState true f)
  | none =>
    if fs.any (s.blockState a n) then some ⟨stState, 3, 0, 0⟩
    else if s.boundsBad a addr old v counted (changedBits old v fs) then
      some (if cmbCommand addr then ⟨stBound, 4, 6, (cmbNamed n addr).1.headD 0⟩ else ⟨stBound, 3, 0, 0⟩)
    else if (cmdAt stValue).isSome then cmdAt stValue
    else match value with
    | some f => some (s.fieldRefuse n stValue false f)
    | none => cmdAt stResource

/-! ### Effects -/

/-- What a written field stores: a W1C bit clears, with the counters that clear with it (R542); the values of commands are not
held, but for the mac (R556); window selections are the attachment's own (R565). -/
def State.store (s : State) (a : Att) (n : Fld → Nat) (f : Fld) : State := match f.access with
  | .w1c =>
    let s := s.wr f (s.rd f - (s.rd f &&& n f))
    let l := (allRegs.find? (fun r => (r.at f.addr).isSome)).elim [] (fun r => (r.counters.filter (fun p => p.1 == f)).map Prod.snd)
    l.flatten.foldl (fun s g => s.wr g 0) s
  | .wo => if 0x7030 ≤ f.addr ∧ f.addr < 0x7050 then s.wr f (n f) else s
  | _ => match a with
    | .i3c => s.wr f (n f)
    | .port p =>
      if f = I3C.WIN_SEL.REGION then s.modPort p (fun q => { q with winRegion := n f })
      else if f = I3C.WIN_SEL.INDEX then s.modPort p (fun q => { q with winIndex := n f })
      else if f = I3C.WIN_BASE.PAGE then s.modPort p (fun q => { q with winPage := n f })
      else s.wr f (n f)

/-- What a written field starts, by its block. -/
def State.effect (s : State) (a : Att) (n : Fld → Nat) (f : Fld) : State :=
  let x := f.addr
  if x < 0x0400 then s
  else if x < 0x0800 then SYS.onWrite a f s
  else if x < 0x0C00 then s
  else if x < 0x1000 then PRF.onWrite a n f s
  else if x < 0x2000 then ADC.onWrite a f (n f) s
  else if x < 0x2480 then CLK.onWrite a f (n f) s
  else if x < 0x2800 then TDC.onWrite f (n f) s
  else if x < 0x3000 then TRG.onWrite a f (n f) s
  else if x < 0x3400 then CAP.onWrite n f s
  else if x < 0x3800 then FIL.onWrite f s
  else if x < 0x3C00 then ACC.onWrite f s
  else if x < 0x4400 then MON.onWrite f (n f) s
  else if x < 0x4800 then CMB.onWrite n f s
  else if x < 0x5000 then DRM.onWrite f (n f) s
  else if x < 0x5800 then WAG.onWrite f (n f) s
  else if x < 0x6000 then PRO.onWrite f (n f) s
  else if x < 0x7000 then SEC.onWrite a n f s
  else I3C.onWrite a n f s

/-- The record of a write access (R12, R461, R462): the operator's in the volatile log, with its result; the installer's and the
maker's accepted register writes in the audit log, while that takes actions. -/
def State.logWrite (s : State) (a : Att) (addr old v status : Nat) : State :=
  if s.role a = .operator then s.opLog a addr v status
  else if status ≠ 0 ∨ s.auditFull ∨ 0x8000 ≤ addr then s
  else s.auditBy a 1 addr old v 0

/-! ### Writes into the windowed region (R565, R566) -/

/-- Why a write into the region selected is refused, 0 for nothing: status. -/
def State.regionStatus (s : State) (a : Att) (off v : Nat) : Nat :=
  let (r, _, _) := s.window a
  let cell := s.rd CMB.VIEW.CELL
  let halted := s.dev = devHalted
  if (s.rights a).testBit 0 = false then stRole
  else if r = 9 ∧ off < 256 ∧ cell % 24 ≠ 23 ∧ cell < 192 then
    (if s.leaseBad a [8] then stLease else if halted ∨ s.dev = devDark ∨ s.auditBad a [] = true then stState
     else
       let old := s.readWord a (0x8000 + off)
       if s.boundsBad a (0x8000 + off) old v (2 ^ 32 - 1) (v ^^^ old) then stBound else 0)
  else if r = 11 ∧ off < s.overlayBytes then
    (if s.leaseBad a [8] then stLease
     else if halted ∨ s.dev = devDark ∨ s.auditBad a [] = true ∨ s.proF PRO.OVL.SHOW = s.rd PRO.OVL.WRITE then stState else 0)
  else if r = 14 ∧ off < 16384 then
    (if s.leaseBad a [8] then stLease
     else if halted ∨ s.dev = devDark ∨ s.on SEC.TOKEN_STATUS.BUSY = true then stState else 0)
  else if r = 23 ∧ off < 4096 then
    (if ¬ s.flashMay a then stRole else if s.leaseBad a [8] then stLease else if s.dev = devDark then stState else 0)
  else stRole

/-- A word stored in the region selected. -/
def State.regionStore (s : State) (a : Att) (off v : Nat) : State := match (s.window a).1 with
  | 9 => s.paramWrite (s.rd CMB.VIEW.CELL) (off / 4) v
  | 11 => (List.range 4).foldl (fun s i => if off + i < s.overlayBytes then s.overlaySet (off + i) (v / 256 ^ i % 256) else s) s.displayAsks
  | 14 => { s with sec := { s.sec with aperture := Memory.write 0 s.sec.aperture off (leBytes 4 v) } }
  | 23 => s.modI3c (fun x => { x with flashBuf := Memory.write 0 x.flashBuf off (leBytes 4 v) })
  | _ => s

/-! ### One write access -/

/-- The answer to a write access: the status of R406, 0 where it was written, and the block's cause. -/
structure Answer where
  status : Nat
  detail : Nat
  deriving DecidableEq, Repr

/-- A write of the word `v` to `addr` through attachment `a`: refused whole, or applied whole; an offset that holds no register
takes it without effect (R9). -/
def State.access (s : State) (a : Att) (addr v : Nat) : State × Answer :=
  let v := v % 2 ^ 32
  if 0x8000 ≤ addr then
    let off := (s.window a).2.2 * 32768 + (addr - 0x8000)
    let st := s.regionStatus a off v
    let s := s.logWrite a addr 0 v st
    (if st = 0 then s.regionStore a off v else s, ⟨st, 0⟩)
  else
    let fs := s.written a addr v
    let old := s.wordOf a ((regFields addr).getD [])
    match if fs.isEmpty then none else s.judge a addr v fs with
    | some r =>
      let s := (s.logWrite a addr old v r.status).noteRefuse r
      (s, ⟨r.status, s.refuseDetail r⟩)
    | none =>
      let n := s.given a addr v
      let s := s.logWrite a addr old v 0
      let s := fs.foldl (fun s f => s.store a n f) s
      (fs.foldl (fun s f => s.effect a n f) s, ⟨0, 0⟩)

/-- A refusal as I3C reports it (R554, R568). -/
def State.i3cRefused (s : State) (addr status : Nat) : State :=
  ((s.wr I3C.REFUSED.ADDRESS addr).wr I3C.REFUSED.STATUS status).count I3C.REFUSED.COUNT I3C.REFUSED.SAT 1

/-- Requests on port `p` reach the registers: its session is OPEN, and the device is not HALTED, where received packets are dropped
(R389, R413). -/
def State.hears (s : State) (p : Nat) : Bool := s.session p == sesOpen && s.live

/-- A write access as it arrives at the register fabric, its refusal reported through its attachment (R13): through I3C it is recorded;
on a port, which has an open session, it is answered as the refused WRITE that held it, whose request_id this row does not carry
(free, notes/assumptions/16.md). -/
def State.arrives (s : State) (a : Att) (addr v : Nat) : State := match a with
  | .i3c =>
    let (s, r) := s.access .i3c addr v
    if r.status = 0 then s else s.i3cRefused addr r.status
  | .port p =>
    if s.hears p then
      let (s, r) := s.access a addr v
      if r.status = 0 then s
      else
        let (id, s) := s.free 35 16
        s.respond p ([2, 0] ++ leBytes 2 id) r.status 0 r.detail []
    else s

end Sys2Proof.Machine
end

