-- ==== Sys2Proof/Machine/Rows.lean ====
section
/-! DEFINITION. The commands that are accesses to a register of their own: each goes the one way of a write access (R588,
R589), where the word has the bits that make it this command. CONTROL READ and WRITE (R405, R406). -/

namespace Sys2Proof.Machine

/-- A word arrives at a register's address, where it is the command meant. -/
def State.cmdWord (s : State) (a : Att) (addr v : Nat) (is : Bool) : Host.Outcome State Fault Refusal :=
  .next (if is then s.arrives a addr v else s)

/-- A read of a register arrives: a port has an open session and WATCH (R407, R413). -/
def State.cmdRead (s : State) (a : Att) (addr : Nat) : Host.Outcome State Fault Refusal :=
  .next (match a with
    | .i3c => s.readEffect a addr
    | .port p => if s.hears p ∧ (s.port p).rights.testBit 1 then s.readEffect a addr else s)

/-- REGISTER_WRITE (R588). -/
def execRegisterWrite (a : Att) (addr v : Nat) (s : State) : Host.Outcome State Fault Refusal :=
  s.cmdWord a addr v (addr % 4 == 0 && addr < 0x10000)

/-! ### Converters, calibration, clocks -/

/-- ADC_COMMIT (R68). -/
def execAdcCommit (a : Att) (n v : Nat) (s : State) : Host.Outcome State Fault Refusal :=
  s.cmdWord a (ADC.CTL.COMMIT n).addr v (n < 8 && v.testBit 0)

/-- MODE_WRITE (R97). -/
def execModeWrite (a : Att) (v : Nat) (s : State) : Host.Outcome State Fault Refusal :=
  s.cmdWord a ADC.MODE.MODE.addr v true

/-- CAL_PASS_REQ (R92). -/
def execCalPassReq (a : Att) (v : Nat) (s : State) : Host.Outcome State Fault Refusal :=
  s.cmdWord a CAL.CTL.PASS_REQ.addr v (v % 256 != 0)

/-- RANGE_CHECK_REQ (R113). -/
def execRangeCheckReq (a : Att) (v : Nat) (s : State) : Host.Outcome State Fault Refusal :=
  s.cmdWord a CAL.CTL.RANGE_CHECK.addr v (v / 256 % 256 != 0)

/-- CERT_COMMIT (R87). -/
def execCertCommit (a : Att) (v : Nat) (s : State) : Host.Outcome State Fault Refusal :=
  s.cmdWord a CAL.CERT_CTL.COMMIT.addr v (v.testBit 0)

/-- CLK_COMMIT (R133). -/
def execClkCommit (a : Att) (v : Nat) (s : State) : Host.Outcome State Fault Refusal :=
  s.cmdWord a CLK.CTL.COMMIT.addr v (v.testBit 0)

/-- TB_SET_ARM (R140). -/
def execTbSetArm (a : Att) (v : Nat) (s : State) : Host.Outcome State Fault Refusal :=
  s.cmdWord a TB.SET_CTL.ARM.addr v (v.testBit 0)

/-- TB_SET_DISARM (R154). -/
def execTbSetDisarm (a : Att) (v : Nat) (s : State) : Host.Outcome State Fault Refusal :=
  s.cmdWord a TB.SET_CTL.ARM.addr v (!v.testBit 0)

/-- TB_NOW_READ (R139). -/
def execTbNowRead (a : Att) (s : State) : Host.Outcome State Fault Refusal := s.cmdRead a TB.NOW_LO.TICKS.addr

/-- EDGE_SELECT (R157). -/
def execEdgeSelect (a : Att) (i v : Nat) (s : State) : Host.Outcome State Fault Refusal :=
  s.cmdWord a (TDC.INi_CTL.EDGE i).addr v (i < 64)

/-- CURVE_TEST_GO (R168). -/
def execCurveTestGo (a : Att) (v : Nat) (s : State) : Host.Outcome State Fault Refusal :=
  s.cmdWord a TDC.TEST.GO.addr v (v.testBit 8)

/-! ### Trigger -/

/-- TRG_COMMIT (R186). -/
def execTrgCommit (a : Att) (n v : Nat) (s : State) : Host.Outcome State Fault Refusal :=
  s.cmdWord a (TRG.CHn_CTL.COMMIT n).addr v (n < 8 && v.testBit 0)

/-- TRG_REARM (R196). -/
def execTrgRearm (a : Att) (n v : Nat) (s : State) : Host.Outcome State Fault Refusal :=
  s.cmdWord a (TRG.CHn_CTL.REARM n).addr v (n < 8 && v.testBit 1)

/-- TRG_FORCE (R200). -/
def execTrgForce (a : Att) (n v : Nat) (s : State) : Host.Outcome State Fault Refusal :=
  s.cmdWord a (TRG.CHn_CTL.FORCE n).addr v (n < 8 && v.testBit 2)

/-- TRG_CMD (R200). -/
def execTrgCmd (a : Att) (n v : Nat) (s : State) : Host.Outcome State Fault Refusal :=
  s.cmdWord a (TRG.CHn_CTL.CMD n).addr v (n < 8 && v.testBit 3)

/-- TRGOUT_CTL_WRITE (R208). -/
def execTrgoutCtlWrite (a : Att) (k v : Nat) (s : State) : Host.Outcome State Fault Refusal :=
  s.cmdWord a (0x2800 + 4 * k) v (k < 4)

/-- TRG_CURVE_LEARN (R204). -/
def execTrgCurveLearn (a : Att) (v : Nat) (s : State) : Host.Outcome State Fault Refusal :=
  s.cmdWord a TRG.CURVE_CTL.LEARN.addr v (v.testBit 0)

/-! ### Capture and accumulation -/

/-- CAP_START (R227). -/
def execCapStart (a : Att) (v : Nat) (s : State) : Host.Outcome State Fault Refusal :=
  s.cmdWord a CAP.CTL.START.addr v (v % 256 != 0)

/-- CAP_STOP (R227). -/
def execCapStop (a : Att) (v : Nat) (s : State) : Host.Outcome State Fault Refusal :=
  s.cmdWord a CAP.CTL.STOP.addr v (v / 256 % 256 != 0)

/-- CAP_ABORT (R229). -/
def execCapAbort (a : Att) (v : Nat) (s : State) : Host.Outcome State Fault Refusal :=
  s.cmdWord a CAP.CTL.ABORT.addr v (v.testBit 16)

/-- CAP_RELEASE (R222): every write is a release command (R588). -/
def execCapRelease (a : Att) (v : Nat) (s : State) : Host.Outcome State Fault Refusal :=
  s.cmdWord a CAP.RELEASE.FRAME.addr v true

/-- POOL_LOW_RESET (R246). -/
def execPoolLowReset (a : Att) (v : Nat) (s : State) : Host.Outcome State Fault Refusal :=
  s.cmdWord a CAP.POOL_WARN.LOW_RESET.addr v (v.testBit 31)

/-- ACC_SNAP_STK (R298). -/
def execAccSnapStk (a : Att) (n v : Nat) (s : State) : Host.Outcome State Fault Refusal :=
  s.cmdWord a (ACC.CHn_CTL.SNAP_STK n).addr v (n < 8 && v.testBit 0)

/-- ACC_SNAP_MAP (R298). -/
def execAccSnapMap (a : Att) (n v : Nat) (s : State) : Host.Outcome State Fault Refusal :=
  s.cmdWord a (ACC.CHn_CTL.SNAP_MAP n).addr v (n < 8 && v.testBit 1)

/-- ACC_CLEAR_STK (R303). -/
def execAccClearStk (a : Att) (n v : Nat) (s : State) : Host.Outcome State Fault Refusal :=
  s.cmdWord a (ACC.CHn_CTL.CLEAR_STK n).addr v (n < 8 && v.testBit 2)

/-- ACC_CLEAR_MAP (R303). -/
def execAccClearMap (a : Att) (n v : Nat) (s : State) : Host.Outcome State Fault Refusal :=
  s.cmdWord a (ACC.CHn_CTL.CLEAR_MAP n).addr v (n < 8 && v.testBit 3)

/-! ### The Comb -/

/-- The command code in a word for a cell's command register. -/
def cellCmd (v : Nat) : Nat := v / 2 ^ (CMB.CELLc.CMD 0).lo % 2 ^ (CMB.CELLc.CMD 0).width

/-- CMB_LOAD (R340). -/
def execCmbLoad (a : Att) (c v : Nat) (s : State) : Host.Outcome State Fault Refusal :=
  s.cmdWord a (CMB.CELLc.CMD c).addr v (c < 192 && cellCmd v == 1)

/-- CMB_RUN (R340). -/
def execCmbRun (a : Att) (c v : Nat) (s : State) : Host.Outcome State Fault Refusal :=
  s.cmdWord a (CMB.CELLc.CMD c).addr v (c < 192 && cellCmd v == 2)

/-- CMB_HALT (R340). -/
def execCmbHalt (a : Att) (c v : Nat) (s : State) : Host.Outcome State Fault Refusal :=
  s.cmdWord a (CMB.CELLc.CMD c).addr v (c < 192 && cellCmd v == 3)

/-- CMB_UNLOAD (R340). -/
def execCmbUnload (a : Att) (c v : Nat) (s : State) : Host.Outcome State Fault Refusal :=
  s.cmdWord a (CMB.CELLc.CMD c).addr v (c < 192 && cellCmd v == 4)

/-- CMB_GROUP_RUN (R340). -/
def execCmbGroupRun (a : Att) (v : Nat) (s : State) : Host.Outcome State Fault Refusal :=
  s.cmdWord a CMB.CTL.CMD.addr v (v / 2 ^ 28 % 4 == 1)

/-- CMB_GROUP_HALT (R340). -/
def execCmbGroupHalt (a : Att) (v : Nat) (s : State) : Host.Outcome State Fault Refusal :=
  s.cmdWord a CMB.CTL.CMD.addr v (v / 2 ^ 28 % 4 == 2)

/-- PARAMETER_WRITE (R341): the attachment has selected the view of the cell. -/
def execParameterWrite (a : Att) (w v : Nat) (s : State) : Host.Outcome State Fault Refusal :=
  s.cmdWord a (0x8000 + 4 * w) v (w < 64 && (s.window a).1 == 9 && (s.window a).2.2 == 0)

/-! ### Archive, ports -/

/-- ARCH_TRIM (R374). -/
def execArchTrim (a : Att) (v : Nat) (s : State) : Host.Outcome State Fault Refusal :=
  s.cmdWord a DRM.ARCH_TRIM.RECORD.addr v true

/-- GRAIN_WRITE (R354). -/
def execGrainWrite (a : Att) (v : Nat) (s : State) : Host.Outcome State Fault Refusal :=
  s.cmdWord a DRM.MAP.GRAIN.addr v true

/-- ARCH_REGION_WRITE (R375): `k` is the register, 0 `DRM.ARCH_CFG`, 1 `DRM.ARCH_BASE`, 2 `DRM.ARCH_SIZE`. -/
def execArchRegionWrite (a : Att) (k v : Nat) (s : State) : Host.Outcome State Fault Refusal :=
  s.cmdWord a ([DRM.ARCH_CFG.IDX_PAGES.addr, DRM.ARCH_BASE.PAGES.addr, DRM.ARCH_SIZE.PAGES.addr].getD k 0) v (k < 3)

/-- PORT_EN_WRITE (R402). -/
def execPortEnWrite (a : Att) (p v : Nat) (s : State) : Host.Outcome State Fault Refusal :=
  s.cmdWord a (HPT.Pp_CTL.EN p).addr v (p < 64)

/-- PORT_REOPEN (R412). -/
def execPortReopen (a : Att) (p v : Nat) (s : State) : Host.Outcome State Fault Refusal :=
  s.cmdWord a (HPT.Pp_CTL.REOPEN p).addr v (p < 64 && v.testBit 2)

/-- GROUP_CFG_WRITE (R381). -/
def execGroupCfgWrite (a : Att) (g v : Nat) (s : State) : Host.Outcome State Fault Refusal :=
  s.cmdWord a (HPT.Gg_CFG.MODE g).addr v (g < 16)

/-- VIEW_CLEAR (R417). -/
def execViewClear (a : Att) (v : Nat) (s : State) : Host.Outcome State Fault Refusal :=
  s.cmdWord a WAG.VIEW.CLEAR.addr v (v.testBit 8)

/-! ### Windows, monitor converter, display -/

/-- WIN_CFG_WRITE (R422): `thr` names `WIN.Ww_THR`. -/
def execWinCfgWrite (a : Att) (w : Nat) (thr : Bool) (v : Nat) (s : State) : Host.Outcome State Fault Refusal :=
  s.cmdWord a (if thr then (WIN.Ww_THR.U w).addr else (WIN.Ww_CFG.ATTN w).addr) v (w < 24)

/-- RB_GO (R427). -/
def execRbGo (a : Att) (v : Nat) (s : State) : Host.Outcome State Fault Refusal :=
  s.cmdWord a WIN.RB_CTL.GO.addr v (v.testBit 24)

/-- MCV_INJECT (R431). -/
def execMcvInject (a : Att) (v : Nat) (s : State) : Host.Outcome State Fault Refusal :=
  s.cmdWord a MCV.CTL.INJECT.addr v (v.testBit 1)

/-- MCV_POP (R431). -/
def execMcvPop (a : Att) (v : Nat) (s : State) : Host.Outcome State Fault Refusal :=
  s.cmdWord a MCV.CTL.POP.addr v (v.testBit 2)

/-- MCV_CAL (R432). -/
def execMcvCal (a : Att) (v : Nat) (s : State) : Host.Outcome State Fault Refusal :=
  s.cmdWord a MCV.CTL.CAL.addr v (v.testBit 0)

/-- INJ_DISABLE (R434). -/
def execInjDisable (a : Att) (v : Nat) (s : State) : Host.Outcome State Fault Refusal :=
  s.cmdWord a MCV.CFG.INJ_EN.addr v (v / 2 ^ MCV.CFG.INJ_EN.lo % 2 == 0)

/-- PRO_COMMIT (R455). -/
def execProCommit (a : Att) (v : Nat) (s : State) : Host.Outcome State Fault Refusal :=
  s.cmdWord a PRO.CTL.COMMIT.addr v (v.testBit 0)

/-- FLIP_COUNT_READ (R452). -/
def execFlipCountRead (a : Att) (s : State) : Host.Outcome State Fault Refusal := s.cmdRead a PRO.FLIP_COUNT.COUNT.addr

/-- OVERLAY_WRITE (R447): a word of the aperture, where the attachment has selected the overlay. -/
def execOverlayWrite (a : Att) (addr v : Nat) (s : State) : Host.Outcome State Fault Refusal :=
  s.cmdWord a addr v (addr % 4 == 0 && 0x8000 ≤ addr && addr < 0x10000 && (s.window a).1 == 11)

/-! ### Security, profiles, power -/

/-- TOKEN_SUBMIT (R464). -/
def execTokenSubmit (a : Att) (v : Nat) (s : State) : Host.Outcome State Fault Refusal :=
  s.cmdWord a SEC.TOKEN_CTL.SUBMIT.addr v (v.testBit 16)

/-- ATTEST_GO (R473). -/
def execAttestGo (a : Att) (v : Nat) (s : State) : Host.Outcome State Fault Refusal :=
  s.cmdWord a SEC.ATTEST_CTL.GO.addr v (v.testBit 0)

/-- EXPORT (R480). -/
def execExportGo (a : Att) (v : Nat) (s : State) : Host.Outcome State Fault Refusal :=
  s.cmdWord a LGR.EXPORT_CTL.GO.addr v (v.testBit 0)

/-- PROFILE_SWITCH_REQUEST (R505). -/
def execProfileSwitchRequest (a : Att) (v : Nat) (s : State) : Host.Outcome State Fault Refusal :=
  s.cmdWord a PRF.CTL.SWITCH.addr v (v.testBit 8)

/-- STAGE_CHECK (R509). -/
def execStageCheck (a : Att) (v : Nat) (s : State) : Host.Outcome State Fault Refusal :=
  s.cmdWord a PRF.STAGE.CHECK.addr v (v.testBit 16)

/-- DARK_REQUEST (R523). -/
def execDarkRequest (a : Att) (v : Nat) (s : State) : Host.Outcome State Fault Refusal :=
  s.cmdWord a SYS.CTL.DARK.addr v (v.testBit 0)

/-- SYS_WAKE_WRITE (R525): through I3C. -/
def execSysWakeWrite (v : Nat) (s : State) : Host.Outcome State Fault Refusal :=
  s.cmdWord .i3c SYS.CTL.WAKE.addr v (v.testBit 1)

/-! ### I3C authentication and flash pass-through -/

/-- AUTH_NONCE (R556). -/
def execAuthNonce (a : Att) (v : Nat) (s : State) : Host.Outcome State Fault Refusal :=
  s.cmdWord a I3C.AUTH_CTL.NONCE.addr v (v.testBit 0)

/-- AUTH_GO (R556). -/
def execAuthGo (a : Att) (v : Nat) (s : State) : Host.Outcome State Fault Refusal :=
  s.cmdWord a I3C.AUTH_CTL.GO.addr v (v.testBit 1)

/-- AUTH_LOGOUT (R557). -/
def execAuthLogout (a : Att) (v : Nat) (s : State) : Host.Outcome State Fault Refusal :=
  s.cmdWord a I3C.AUTH_CTL.LOGOUT.addr v (v.testBit 2)

/-- The word starts flash operation `op`. -/
def flashWord (v op : Nat) : Bool := v % 8 == op && v.testBit 8

/-- FLASH_OPEN (R561). -/
def execFlashOpen (a : Att) (v : Nat) (s : State) : Host.Outcome State Fault Refusal :=
  s.cmdWord a I3C.FLASH_CTL.GO.addr v (flashWord v 1)

/-- FLASH_CLOSE (R561). -/
def execFlashClose (a : Att) (v : Nat) (s : State) : Host.Outcome State Fault Refusal :=
  s.cmdWord a I3C.FLASH_CTL.GO.addr v (flashWord v 2)

/-- FLASH_READ (R561). -/
def execFlashRead (a : Att) (v : Nat) (s : State) : Host.Outcome State Fault Refusal :=
  s.cmdWord a I3C.FLASH_CTL.GO.addr v (flashWord v 3)

/-- FLASH_PROGRAM (R561). -/
def execFlashProgram (a : Att) (v : Nat) (s : State) : Host.Outcome State Fault Refusal :=
  s.cmdWord a I3C.FLASH_CTL.GO.addr v (flashWord v 4)

/-- FLASH_ERASE_4K (R561). -/
def execFlashErase4k (a : Att) (v : Nat) (s : State) : Host.Outcome State Fault Refusal :=
  s.cmdWord a I3C.FLASH_CTL.GO.addr v (flashWord v 5)

/-- FLASH_ERASE_64K (R561). -/
def execFlashErase64k (a : Att) (v : Nat) (s : State) : Host.Outcome State Fault Refusal :=
  s.cmdWord a I3C.FLASH_CTL.GO.addr v (flashWord v 6)

/-! ### CONTROL READ and WRITE (R405 to R407) -/

/-- Address and word count of a request, where they are well formed. -/
def controlRange (req : List Nat) : Option (Nat × Nat) :=
  let addr := le req 4 2
  let n := le req 6 2
  if 8 ≤ req.length ∧ addr % 4 = 0 ∧ 1 ≤ n ∧ n ≤ 256 ∧ addr + 4 * (n - 1) ≤ 0xFFFC then some (addr, n) else none

/-- Reads of `n` words from `addr` on, in order. -/
def State.readWords (s : State) (a : Att) (addr : Nat) : Nat → State × List Nat
  | 0 => (s, [])
  | n + 1 =>
    let (s1, w) := s.readAccess a addr
    let (s2, l) := State.readWords s1 a (addr + 4) n
    (s2, w :: l)

/-- Writes of words from `addr` on, in order, up to the first refused: the count written, and the refusal. -/
def State.writeWords (s : State) (a : Att) (addr : Nat) : List Nat → State × Nat × Answer
  | [] => (s, 0, ⟨0, 0⟩)
  | v :: vs =>
    let (s1, r) := s.access a addr v
    if r.status ≠ 0 then (s1, 0, r)
    else
      let (s2, d, r2) := State.writeWords s1 a (addr + 4) vs
      (s2, d + 1, r2)

/-- WAG_READ (R405, R407). -/
def execWagRead (p : Nat) (e : EthFrame) (s : State) : Host.Outcome State Fault Refusal :=
  .next (s.control p e (fun req => req.getD 0 0 == 1) (fun req s => match controlRange req with
    | none => s.respond p req 5 0 0 []
    | some (addr, n) =>
      if req.length ≠ 8 then s.respond p req 5 0 0 []
      else if ¬ (s.port p).rights.testBit 1 then s.respond p req 1 0 0 []
      else
        let (s, ws) := s.readWords (.port p) addr n
        s.respond p req 0 n 0 ((ws.map (leBytes 4)).flatten)))

/-- WAG_WRITE (R405 to R407). -/
def execWagWrite (p : Nat) (e : EthFrame) (s : State) : Host.Outcome State Fault Refusal :=
  .next (s.control p e (fun req => req.getD 0 0 == 2) (fun req s => match controlRange req with
    | none => s.respond p req 5 0 0 []
    | some (addr, n) =>
      if req.length ≠ 8 + 4 * n then s.respond p req 5 0 0 []
      else
        let (s, done, r) := s.writeWords (.port p) addr ((List.range n).map (fun i => le req (8 + 4 * i) 4))
        s.respond p req r.status done r.detail []))

end Sys2Proof.Machine
end

