-- ==== Sys2Proof/Machine/Profile.lean ====
section
/-! DEFINITION. Profiles, staging and adoption (R505 to R514). -/

namespace Sys2Proof.Machine

/-! ### A profile's writes (R496, R506) -/

/-- Why a profile's write is refused: a state or a value does not allow it. Role, lease and bounds do not concern it. -/
def State.deviceRefusal (s : State) (addr v : Nat) (fs : List Fld) : Option Refuse :=
  let n := s.given .i3c addr v
  match fs.find? (fun f => s.locked f || s.memberReg addr) with
  | some f => some (s.fieldRefuse n stState true f)
  | none =>
    if fs.any (s.blockState .i3c n) then some ⟨stState, 3, 0, 0⟩
    else (fs.find? (s.blockValue n)).map (s.fieldRefuse n stValue false)

/-- A profile's write; the flag says that it was skipped. A refusal is noted in its block (R13, R274). -/
def State.deviceWrite (s : State) (addr v : Nat) : State × Bool :=
  let fs := s.written .i3c addr v
  match s.deviceRefusal addr v fs with
  | some r => (s.noteRefuse r, true)
  | none =>
    let n := s.given .i3c addr v
    let s := fs.foldl (fun s f => s.store .i3c n f) s
    (fs.foldl (fun s f => s.effect .i3c n f) s, false)

/-- The writes of a profile in order, from index `i` on; `seen` says that one was skipped before. The first skipped one is noted
(R506). -/
def State.profileWrites (s : State) (seen : Bool) : Nat → List (Nat × Nat) → State
  | _, [] => s
  | i, (addr, v) :: ws =>
    let (s, skipped) := s.deviceWrite addr v
    let s := if skipped && !seen then
        ({ s with prf := { s.prf with outcome := if s.prf.outcome = 0 then 3 else s.prf.outcome } }).wr PRF.STATUS.WRITE_INDEX (min 255 i)
      else s
    s.profileWrites (seen || skipped) (i + 1) ws

/-- The shadowed fields that a profile writes take effect with the switch: their blocks commit (R14, R507). -/
def State.profileCommits (s : State) (ws : List (Nat × Nat)) : State :=
  let named := fun (lo hi : Nat) => ws.any (fun w => lo ≤ w.1 && w.1 < hi)
  let s := s.leads.foldl (fun s n =>
    let s := if named (0x2880 + 64 * n) (0x28A8 + 64 * n) then s.trgCommit n else s
    if named (0x1000 + 256 * n) (0x1004 + 256 * n) then s.adcCommit n else s) s
  let s := if named 0x2054 0x2058 then s.clkCommit else s
  if named 0x5804 0x5880 then PRO.onWrite PRO.CTL.COMMIT 1 s else s

/-! ### The switch (R505 to R507) -/

/-- Steps 1 and 2 of a switch to `p`: every channel is STOPPED, cells that get a program halt, and a change of mode waits for its
pass and calibration. The chains of channels in a continuous gap run on, until the new profile is found to change them (R261, R270). -/
def State.switchBegin (s : State) (p : Profile) : State :=
  let s := { s with prf := { s.prf with
    oldProfile := s.rd PRF.STATUS.ACTIVE, resumeAt := some p.number, cont := s.prf.cont ||| s.cap.nextChannels } }
  let s := (s.wr PRF.STATUS.STATE 2).wr PRF.STATUS.WRITE_INDEX 0
  let gap := s.leads.filter (fun n => s.cap.nextChannels.testBit n && s.chState n != chStopped)
  let chains := gap.map (fun n => (n, s.chain n, s.on (FIL.CHn_STATUS.RUNNING n), s.on (FIL.CHn_STATUS.SETTLING n)))
  let s := s.stopChannels (List.range 8)
  let s := if p.acqMode = s.rd ADC.MODE.MODE then chains.foldl (fun s x =>
      ((s.setChain x.1 { x.2.1 with kept := s.chainSet x.1 }).put (FIL.CHn_STATUS.RUNNING x.1) x.2.2.1).put
        (FIL.CHn_STATUS.SETTLING x.1) x.2.2.2) s else s
  let s := p.cells.foldl (fun s c => if s.cellExecutes c.1 && (s.cell c.1).stop.isNone then s.stopCell c.1 0 else s) s
  if p.acqMode = s.rd ADC.MODE.MODE then s
  else { s.wr ADC.MODE.MODE p.acqMode with cal := { s.cal with modeNext := some p.acqMode } }

/-- The rest of a switch may run: no change of mode waits, no calibration runs, and the cells have halted. -/
def State.switchReady (s : State) (p : Profile) : Bool :=
  !s.modeBusy && p.cells.all (fun c => !s.cellExecutes c.1 && s.cellState c.1 != cellLoading)

/-- The cell entries (R340): load, and run. -/
def State.profileCells (s : State) (cs : List (Nat × Nat × Nat)) : State := cs.foldl (fun s c =>
  match s.prog? c.2.1 with
  | some bs =>
    let s := s.finishLoad c.1 c.2.1 bs
    if c.2.2 = 1 then s.cellRun c.1 else s
  | none => s) s

/-- Step 6: the channels of the start mask, and those of the gap, start; a refused start is reported. -/
def State.profileStart (s : State) (mask : Nat) : State :=
  if mask = 0 then s
  else match s.startCheck mask with
  | some r =>
    let s := s.noteRefuse ⟨r.1, r.2.1, r.2.2.1, r.2.2.2⟩
    { s with prf := { s.prf with outcome := if s.prf.outcome = 0 then 4 else s.prf.outcome } }
  | none => s.startChannels mask

/-- Steps 3 to 6, event PRF_SWITCH and the count (R506, R507). -/
def State.switchEnd (s : State) (p : Profile) : State :=
  let s := (s.wr (CLK.PLLn_FREQ.FREQ_KHZ 1) p.pll1Khz).clkCommit
  let settings := fun (s : State) (n : Nat) => s.chainSet n ++
    (accFields n ++ [ACC.CHn_SNAP_CFG.PERIOD_MS n, ACC.CHn_SNAP_CFG.DECAY_MS n]).map s.rd
  let old := s.leads.map (settings s)
  let s := s.profileWrites false 0 p.writes
  let s := s.profileCommits p.writes
  let s := (s.leads.zip old).foldl (fun s x => if settings s x.1 = x.2 then s else s.accFlush x.1) s
  let s := s.profileCells p.cells
  let s := s.wr PRF.STATUS.ACTIVE p.number
  let cont := s.prf.cont
  let s := { s with prf := { s.prf with resumeAt := none } }
  let s := s.profileStart ((if p.flags.testBit 0 then p.startMask else 0) ||| cont)
  let s := s.leads.foldl (fun s n =>
    if cont.testBit n ∧ s.chState n = chPriming then s.modCap n (fun c => { c with gap := true, gapLive := true }) else s) s
  let s := s.leads.foldl (fun s n =>
    if s.chState n = chStopped ∧ ¬ s.cap.heldStart.testBit n ∧ (s.chain n).kept ≠ [] then s.chainStop n else s) s
  let s := ((s.wr PRF.STATUS.RESULT s.prf.outcome).wr PRF.STATUS.STATE (if s.prf.adopting = 1 then 4
    else if s.on PRF.STATUS.PENDING_VALID then 1 else 0)).event 0x0290
    [s.prf.oldProfile, p.number, s.prf.outcome]
  let s := if s.prf.startUp then s else s.count PRF.SWITCHES.COUNT PRF.SWITCHES.SAT 1
  let s := if s.prf.startUp || s.prf.byAtt.isSome then s
    else s.opEntry 255 0 PRF.CTL.PROFILE.addr (256 + p.number) 0
  { s with prf := { s.prf with outcome := 0, cont := 0, startUp := false } }

/-- A switch that was requested during the adoption is evaluated against the image now in force (R513). -/
def State.heldSwitchRun (s : State) : State := match s.prf.heldSwitch with
  | none => s
  | some (k, by_) =>
    let s := { s with prf := { s.prf with heldSwitch := none } }
    if (s.profileOf k).isNone then s.wr PRF.STATUS.RESULT 1
    else if by_.any (fun a => PRF.roleBad s a (fun f => if f = PRF.CTL.SWITCH then 1 else k) PRF.CTL.SWITCH) then s.wr PRF.STATUS.RESULT 2
    else s.switchRequest k by_ false

/-- Adoption completes once the profile has come into force: what it names is judged, and a switch that was held is evaluated
(R510, R512, R513). -/
def State.adoptEnd (s : State) : State :=
  if s.prf.adopting = 3 ∧ s.prf.resumeAt.isNone then
    let s := { s with prf := { s.prf with adopting := 0 } }
    ((((s.wr PRF.STAGE_STATUS.STATE 5).wr PRF.STAGE_STATUS.CAUSE 0).judgeTables).event 0x0292 [s.rd PRF.IMAGE.ROLLBACK]).heldSwitchRun
  else s

/-- A switch that takes effect goes on as far as it can. -/
def State.switchRun (s : State) : State := match s.prf.resumeAt.bind s.profileOf with
  | some p => if s.switchReady p then (s.switchEnd p).adoptEnd else s
  | none => s

/-- The switch to profile `k` takes effect (R506). -/
def State.switchTo (s : State) (k : Nat) : State := match s.profileOf k with
  | some p => (s.switchBegin p).switchRun
  | none => s

/-- The roll boundary, or no open roll: where a switch takes effect and an adoption begins (R232, R506). -/
def State.atBoundary (s : State) : Bool := !s.on CAP.ROLL_STATUS.OPEN

/-- PRF_SWITCH (R505, R506): a requested switch takes effect, or one that waited for its calibration or its cells goes on. -/
def execPrfSwitch (s : State) : Host.Outcome State Fault Refusal :=
  .next (
    if ¬ s.up then s
    else if s.prf.resumeAt.isSome then s.switchRun
    else if s.on PRF.STATUS.PENDING_VALID ∧ s.atBoundary ∧ s.prf.adopting = 0 then
      let k := s.rd PRF.STATUS.PENDING
      ((s.put PRF.STATUS.PENDING_VALID false).wr PRF.STATUS.RESULT 0).switchTo k
    else s)

/-- PSEL_CHANGE (R505, R513): the pins have held `v` for 10 ms. They show in `PRF.STATUS.PSEL` always; with SOURCE = PINS a value other
than the profile in force requests the switch in IDLE and ACTIVE. -/
def execPselChange (v : Nat) (s : State) : Host.Outcome State Fault Refusal :=
  .next (
    if 8 ≤ v then s
    else
      let s := s.wr PRF.STATUS.PSEL v
      if ¬ s.up ∨ s.on PRF.SOURCE.SOURCE ∨ v = s.rd PRF.STATUS.ACTIVE then s
      else if ¬ s.adopting ∧ (s.profileOf v).isNone then s.wr PRF.STATUS.RESULT 1
      else s.switchRequest v none false)

/-- IDLE_DARK_TIMEOUT (R508): IDLE for the profile's time, and nothing stands against DARK (R523). -/
def execIdleDarkTimeout (s : State) : Host.Outcome State Fault Refusal :=
  .next (match s.profile with
    | some p =>
      if s.darkCause = 0 ∧ p.idleDarkMs ≠ 0 ∧ s.boot.idleSince + ticksOfMs p.idleDarkMs ≤ s.now then s.darkRequest else s
    | none => s)

/-! ### Staging (R509) -/

/-- The length word of an image at `addr`, where the image lies within the flash. -/
def State.stagedLength (s : State) (addr : Nat) : Option Nat :=
  let len := le (s.flashBytes addr 8) 4 4
  if 128 ≤ len ∧ addr + len ≤ s.flashSize then some len else none

/-- What the check of the image at `addr` found, shown and reported (R509): its cause, 0 for none, and the image. Counter and
digest are shown where the image's length lies within the flash, else 0. -/
def State.stagedAs (s : State) (addr : Nat) (found : Nat × Option Image) : State :=
  let bs := ((s.stagedLength addr).map (s.flashBytes addr)).getD []
  let digest := if bs.isEmpty then [] else sha256 bs
  let st := if found.1 = 0 then 2 else 3
  let s := (List.range 8).foldl (fun s k => s.wr (PRF.STAGE_DIGESTk.WORD k) (digestWord digest k)) s
  let s := { s with prf := { s.prf with staged := found.2 } }
  (((s.wr PRF.STAGE_CNT.ROLLBACK (le bs 0xC 4)).wr PRF.STAGE_STATUS.STATE st).wr PRF.STAGE_STATUS.CAUSE found.1).event 0x0291 [st, found.1]

/-- PRF_STAGED (R509): the check of the staged image completes. `sig` and `maker` are the verdicts on its two signatures. -/
def execPrfStaged (sig maker : Bool) (s : State) : Host.Outcome State Fault Refusal :=
  .next (
    if s.rd PRF.STAGE_STATUS.STATE = 1 ∧ s.live ∧ s.i3c.flashOp.isNone then
      s.stagedAs s.prf.stageAddr (s.verify s.prf.stageAddr sig maker true)
    else s)

/-! ### Adoption (R510, R511, R513) -/

/-- ADOPT (R465, R510): a token that names the staged image begins its adoption; a switch that waits is dropped. -/
def execTokAdopt (sig : Bool) (s : State) : Host.Outcome State Fault Refusal :=
  .next (s.tokenAct 2 sig
    (fun t => s.rd PRF.STAGE_STATUS.STATE == 2 && (match s.prf.staged with
      | some im => slice t.payload 0 32 == im.digest && le t.payload 32 4 == im.rollback
      | none => false))
    (fun t s => s.auditToken t 5 (le t.payload 32 4) (le t.payload 0 4) (le t.payload 4 4) (le t.payload 8 4))
    (fun _ s =>
      let s := s.switchDrop
      let s := { s with prf := { s.prf with adopting := 1 } }
      (s.wr PRF.STAGE_STATUS.STATE 4).wr PRF.STATUS.STATE 4))

/-- ADOPTION_START (R510 step 1): at the boundary acquisition pauses and user cells halt; the re-read begins. -/
def execAdoptionStart (s : State) : Host.Outcome State Fault Refusal :=
  .next (
    if s.prf.adopting = 1 ∧ s.up ∧ s.atBoundary ∧ s.prf.resumeAt.isNone then
      let cont := s.cap.nextChannels
      let s := (s.stopChannels (List.range 8)).haltCells
      { s with prf := { s.prf with adopting := 2, cont := cont } }
    else s)

/-- The image is committed and loaded, and the profile comes into force (R510 steps 3 to 5). -/
def State.adoptCommit (s : State) (im : Image) : State :=
  let old := s.keyEntry
  let panel := s.panel
  let s := { s with led := { s.led with owner := s.led.owner.map (fun (o : Owner) => { o with addr := im.addr }), fixedWrites := s.led.fixedWrites + 1 } }
  let s := ((s.closeManifest.loadImage im).loadReserved).portsAdopt old
  let s : State := (List.range 64).foldl (fun (s : State) p => if s.on (HPT.Pp_CTL.EN p) then s else (s.goAbsent p).setLink p false) s
  let s : State := if decide (s.panel ≠ panel) && s.proOn then
      (s.proInit 0).modPro (fun p => { p with composing := none, frame := false })
    else s
  let k := if (s.profileOf (s.rd PRF.STATUS.ACTIVE)).isSome then s.rd PRF.STATUS.ACTIVE else 0
  let s := { s with prf := { s.prf with adopting := 3, staged := none, byAtt := some Att.i3c } }
  ((s.wr PRF.STATUS.RESULT 0).switchTo k).adoptEnd

/-- The re-read failed: acquisition resumes under the old profile (R511). -/
def State.adoptFail (s : State) (cause : Nat) : State :=
  let cont := s.prf.cont
  let s := { s with prf := { s.prf with adopting := 0, cont := 0, outcome := 0 } }
  let s := ((s.wr PRF.STAGE_STATUS.STATE 3).wr PRF.STAGE_STATUS.CAUSE cause).wr PRF.STATUS.STATE 0
  let s := s.event 0x0293 [cause]
  let s := s.profileStart cont
  ({ s with prf := { s.prf with outcome := 0 } }).heldSwitchRun

/-- What the second reading gives (R510, R511): adopted where it is verified in full and matches the staged digest, and the DDR5
description is unchanged. A reading that verifies under another digest fails as DIGEST. -/
def State.reread (s : State) (found : Nat × Option Image) : State := match found, s.prf.staged with
  | (0, some im), some st =>
    let d := im.device
    let e := ((s.image.map Image.device).getD {})
    let ddr := d.ddrRate = e.ddrRate ∧ d.ddrRanks = e.ddrRanks ∧ d.ddrDensity = e.ddrDensity ∧ d.ddrAttach = e.ddrAttach ∧
      d.ddrTiming = e.ddrTiming
    if im.digest ≠ st.digest then s.adoptFail 4 else if ¬ ddr then s.adoptFail 8 else s.adoptCommit im
  | (c, _), _ => s.adoptFail (if c = 0 then 4 else c)

/-- ADOPTION_REREAD_DONE (R510, R511): the second reading of the staged image, and the verdicts on its two signatures. -/
def execAdoptionRereadDone (sig maker : Bool) (s : State) : Host.Outcome State Fault Refusal :=
  .next (
    if s.prf.adopting = 2 ∧ s.up ∧ s.cellsStill ∧ s.i3c.flashOp.isNone then s.reread (s.verify s.prf.stageAddr sig maker true)
    else s)

end Sys2Proof.Machine
end

