-- ==== Sys2Proof/Machine/Boot.lean ====
section
/-! DEFINITION. Reset, start-up, DARK and wake, internal faults (17_startup_sleep_and_wake.md, R517 to R528; R532, R576). -/

namespace Sys2Proof.Machine

/-- The boot record changed. -/
def State.modBoot (s : State) (f : Boot → Boot) : State := { s with boot := f s.boot }

/-! ### Reset and power-on (R517, R469) -/

/-- The flash as a reset leaves it: the range of a program or erase that is cut off is undefined, a free value
(R563, notes/assumptions/8.md). -/
def State.flashCut (s : State) : Memory := match s.i3c.flashOp with
  | some (op, addr, len) =>
    if op = 3 then s.flash
    else Memory.write 0xFF s.flash addr ((List.range len).map (fun i => Config.freeValue 34 (s.frees * 65536 + i) % 256))
  | none => s.flash

/-- Everything in progress ends: what survives is the ledger with the fuses' serial, the flash, the TAP's instruction (R586), the
commands that wait and the model's own counters (R517). -/
def State.restart (s : State) : State :=
  { State.reset with
    pending := s.pending, now := s.now, draws := s.draws, frees := s.frees + 1, led := s.led, flash := s.flashCut
    boot := { tap := s.boot.tap, tdo := s.boot.tdo } }

/-- A pending release acts, or is cancelled where CLAIM_N is not asserted (R469, R481). -/
def State.releaseAct (s : State) : State :=
  if ¬ s.led.releasePending then s
  else if s.on SEC.STATE.CLAIM_PIN then
    ({ s with led := { s.led with releasePending := false, owner := none, hosts := [], fixedWrites := s.led.fixedWrites + 1 } }).auditDevice 4 1 s.led.makerCnt 0 0
  else ({ s with led := { s.led with releasePending := false } }).auditDevice 4 2 s.led.makerCnt 0 0

/-- START begins: the pins are sampled, the provisional ID is drawn (R505, R517, R551). -/
def State.startBegin (s : State) (psel : Nat) (claim release : Bool) : State :=
  let s := s.modBoot (fun b => { b with inReset := false, resetLow := false, held := false, startAt := s.now, psel := psel % 8 })
  let s := ((s.put SYS.STATE.RESET_SRC (!s.boot.powerOn)).put SEC.STATE.CLAIM_PIN claim).wr PRF.STATUS.PSEL (psel % 8)
  let s := if release then s.releaseAct else s
  let (r, s) := s.draw 32
  (s.modI3c (fun x => { x with pid := (0x3A5 * 2 + 1) * 2 ^ 32 + r })).showOwner

/-- POWER_ON (R517, R575): the power-on detector releases, with RESET_N high or low, PSEL and CLAIM_N at their levels. -/
def execPowerOn (high : Bool) (psel : Nat) (claim : Bool) (s : State) : Host.Outcome State Fault Refusal :=
  .next (
    let s := (s.restart.modBoot (fun b => { b with tap := 1, powerOn := true }))
    if high then s.startBegin psel claim false
    else s.modBoot (fun b => { b with inReset := true, resetLow := true, lowSince := s.now }))

/-- RESET_RECOGNISED (R517): a low of 1 µs, in every state. -/
def execResetRecognised (s : State) : Host.Outcome State Fault Refusal :=
  .next (
    if s.boot.inReset then s
    else s.restart.modBoot (fun b => { b with inReset := true, resetLow := true, powerOn := false, lowSince := s.now - 1250 }))

/-- BROWN_OUT (R576): more than 5 µs below 85 % acts as RESET_N low. -/
def execBrownOut (s : State) : Host.Outcome State Fault Refusal :=
  .next (
    if s.boot.inReset then s
    else s.restart.modBoot (fun b => { b with inReset := true, powerOn := false, lowSince := s.now - 6250 }))

/-- An instruction that holds START while it is loaded (R586). -/
def tapHolds (i : Nat) : Bool := [0x00, 0x08, 0x09, 0x0A, 0x0B].contains i

/-- RESET_RELEASE (R517, R586): RESET_N has risen, 10 µs or more after the low began; START begins, unless the TAP holds an
instruction that prevents it, in which case the next rise counts. -/
def execResetRelease (psel : Nat) (claim : Bool) (s : State) : Host.Outcome State Fault Refusal :=
  .next (
    if ¬ s.boot.inReset ∨ s.now < s.boot.lowSince + ticksOfUs 10 then s
    else if tapHolds s.boot.tap ∧ s.boot.resetLow = true then s.modBoot (fun b => { b with inReset := false, resetLow := false, held := true })
    else s.startBegin psel claim true)

/-- START is under way: not held in reset, not stopped by the domain's own timer, nor by the TAP. -/
def State.starting (s : State) : Bool :=
  s.dev == devStart && !s.boot.inReset && !s.boot.held && !s.on FLT.STATE.FAULT_N

/-- DOMAIN_START_UP_TIMER (R521): the oscillator has not started within 2 ms of power-on. -/
def execDomainStartUpTimer (s : State) : Host.Outcome State Fault Refusal :=
  .next (
    if s.starting ∧ s.boot.powerOn = true ∧ s.rd SYS.STATE.STEP = 1 ∧ s.boot.startAt + ticksOfMs 2 ≤ s.now then
      s.put FLT.STATE.FAULT_N true
    else s)

/-! ### The start-up sequence (R519, R520) -/

/-- What stands in the registers from the ledger once step 2 has checked it (R82, R114, R118, R487). -/
def State.loadLedger (s : State) : State :=
  let newest := s.led.calRing.head?
  let s := match newest with
    | some r =>
      let seq := le r 4 4
      let s := { s with cal := { s.cal with recordSeq := (seq + 1) % 2 ^ 32 } }
      (s.wr CAL.LEDGER.NEWEST (seq % 1024)).wr CAL.LEDGER.VALID s.led.calRing.length
    | none => s
  let rec_ := fun (m mode : Nat) => s.led.calRing.find? (fun (r : List Nat) => r.getD 3 0 = m && r.getD 0x18 0 = mode)
  let s := (List.range 8).foldl (fun (s : State) m =>
    let s := s.modCal m (fun c => { c with modes := (List.range 3).map (fun mode =>
      let x := c.modes.getD mode {}
      match rec_ m mode with
      | some r => { x with epoch := le r 0x24 4, count := le r (0x30 + 4 * m) 4 }
      | none => x) })
    match rec_ m (s.rd ADC.MODE.ACTIVE) with
    | some r => (s.wr (CAL.EPOCH.EPOCH m) (le r 0x24 4)).wr (CAL.COUNT.COUNT m) (le r (0x30 + 4 * m) 4)
    | none => s) s
  let s := match s.led.certs with
    | e :: _ => (s.wr CAL.CERT_STATUS.INDEX (e.index % 256)).wr CAL.CERT_STATUS.WAITING e.waiting
    | [] => s
  (s.takeRollBlock.wr SEC.STATE.CERT 1).showOwner

/-- The digest of every calibration record matches (R114). -/
def State.calRingOk (s : State) : Bool :=
  s.led.calRing.all (fun r => slice (sha256 (slice r 0 0x7E0)) 0 32 == slice r 0x7E0 32)

/-- Reasons with which a step may fail on what the device finds; the other failures follow from the state (R519). -/
def startReasons (step : Nat) : List Nat := match step with
  | 1 => [0x0801]
  | 2 => [0x0101, 0x0701, 0x0702, 0x0703, 0x0704, 0x0705, 0x070B]
  | 3 => [0x0102]
  | 5 => [0x010B]
  | 9 => [0x0106]
  | 10 => [0x010A]
  | _ => []

/-- The reason of a cause of R502 at start-up (R503). -/
def imageReason (cause : Nat) : Nat :=
  [0, 0x0102, 0x0103, 0x0104, 0x0706, 0x0707, 0x0708, 0x0709, 0x0105, 0x070A].getD cause 0

/-- What `FLT.REASON.DETAIL` names where the reason settles it: the ledger region's offset >> 12 (R483, R536), else `detail`. -/
def ledgerDetail (reason detail : Nat) : Nat := match reason with
  | 0x0701 => 0x001
  | 0x0702 => 0x009
  | 0x0703 => 0x00A
  | 0x0704 => 0x100
  | 0x070B => 0x200
  | _ => detail

/-- The section that an image's failure names: the first with another digest, MAKER, or `detail` where no section failed (R502, R536). -/
def State.imageDetail (s : State) (addr cause detail : Nat) : Nat :=
  if cause = 4 then
    let bs := s.flashBytes addr (le (s.flashBytes addr 8) 4 4)
    (((parseSections bs).find? (fun x => sha256 (slice bs x.off x.len) != x.digest)).map Section.typ).getD detail
  else if cause = 9 then 7
  else detail

/-- What a wait of R520 adds to the waiting time, and its code. -/
def State.setWait (s : State) (w : Nat) : State :=
  let s := s.wr SYS.STATE.WAIT w
  match s.boot.waitFrom with
  | none => if w = 0 then s else s.modBoot (fun b => { b with waitFrom := some s.now })
  | some t => if w = 0 then s.modBoot (fun b => { b with waitFrom := none, waited := b.waited + (s.now - t) }) else s

/-- Step `k` completes. -/
def State.stepTo (s : State) (k : Nat) : State := (s.setWait 0).wr SYS.STATE.STEP (k + 1)

/-- Step 4 with what the verification found: the cause of its failure, or the image. -/
def State.stepImageWith (s : State) (addr detail : Nat) (found : Nat × Option Image) : State := match found with
  | (_, some im) => (s.claim im |> fun (s : State) => { s with image := some im }).stepTo 4
  | (c, none) => let r := imageReason c; s.halt r (if r < 0x0200 then 4 else s.imageDetail addr c detail) 0

/-- Step 4: the image is read at the owner's address, or at 0, and verified; step 5 loads what it gives. -/
def State.stepImage (s : State) (sig maker : Bool) (detail : Nat) : State :=
  let addr := (s.led.owner.map Owner.addr).getD 0
  s.stepImageWith addr detail (s.verify addr sig maker false)

/-- The profile that start-up brings into force: that of PSEL, or profile 0 (R505). -/
def State.startProfile (s : State) : Nat := if (s.profileOf s.boot.psel).isSome then s.boot.psel else 0

/-- The fixed frequencies shown, PLL1 at the frequency of the profile that start-up brings into force (DEDUCED,
notes/assumptions/38.md), the bands of the loops' frequencies, and the loops enabled (R125 to R127). -/
def State.pllsEnable (s : State) : State :=
  let s := ((s.wr (CLK.PLLn_FREQ.FREQ_KHZ 0) 1250000).wr (CLK.PLLn_FREQ.FREQ_KHZ 2) 1200000).wr (CLK.PLLn_FREQ.FREQ_KHZ 5) 1000000
  let s := match s.profileOf s.startProfile with
    | some p => s.wr (CLK.PLLn_FREQ.FREQ_KHZ 1) p.pll1Khz
    | none => s
  let s := (List.range 6).foldl (fun s n => s.wr (CLK.PLLn_STATUS.BAND n) ((s.band n (s.rd (CLK.PLLn_FREQ.FREQ_KHZ n))).getD 0)) s
  s.modClk (fun c => { c with pllOn := true, since := List.replicate 6 (some s.now), freq := (List.range 6).map (fun n => s.rd (CLK.PLLn_FREQ.FREQ_KHZ n)) })

/-- Step 11: the calibration of the mode in force, and the curve tests. -/
def State.stepCalibrate (s : State) : State :=
  if ¬ (s.calCh 0).accepted then
    if s.rd (CAL.STATE.PASS 0) = 4 then
      if s.calAllDone then (s.setWait 0).calFinish
      else s.setWait (if ¬ s.on ADC.SCLK.OK then 2 else if s.cal.startDeferred then 3 else 0)
    else if s.on ADC.SCLK.OK then ((s.setWait 0).loadCoefs).calBegin 4 else s.setWait 2
  else if (List.range 65).any (fun i => s.on (TDC.INi_STATUS.TESTING i)) then s.setWait 0
  else s.stepTo 11

/-- Step 12: IDLE, the profile that PSEL names or profile 0, its START action, a display that was enabled
in START, event SYS_STARTED (R456, R505, R519). -/
def State.stepIdle (s : State) : State :=
  let ms := min 65535 ((s.now - s.boot.startAt - s.boot.waited) / 1250000)
  let ws := min 65535 (s.boot.waited / 1250000000)
  let s := ((s.wr SYS.STATE.STATE devIdle).wr SYS.STATE.STEP 0).setWait 0
  let s := s.modBoot (fun b => { b with idleSince := s.now })
  let s := (s.wr SYS.START_TIME.MS ms).wr SYS.START_TIME.WAIT_S ws
  let s := { s with prf := { s.prf with startUp := true, outcome := if (s.profileOf s.boot.psel).isSome then 0 else 1 } }
  let s := s.switchTo s.startProfile
  (if s.proF PRO.CFG.EN = 1 ∧ s.rd PRO.STATUS.STATE = 0 then s.proInit 0 else s).event 0x0120 [ms, ws]

/-- START_UP (R519, R520): the step in progress ends, fails, or holds at its wait. `reason`, `detail` and `addr` report a failure that
the device found (0: none); `sig` and `maker` are the verdicts on the image's signatures; `size`, `mode` and `clock` what flash
discovery gave. -/
def execStartUp (reason detail addr : Nat) (sig maker : Bool) (size mode clock : Nat) (s : State) : Host.Outcome State Fault Refusal :=
  .next (
    let k := s.rd SYS.STATE.STEP
    if ¬ s.starting then s
    else if (startReasons k).contains reason then
      s.halt reason (if reason = 0x0106 then k + 256 * (detail % 16) else if reason < 0x0200 then k else if reason = 0x0801 then 0 else ledgerDetail reason detail)
        (if reason = 0x0106 then addr else if reason = 0x0801 then s.rd CLK.REF.MEAS_KHZ else 0)
    else match k with
    | 1 => (s.modI3c (fun x => { x with upAt := s.now })).stepTo 1
    | 2 => if ¬ s.calRingOk then s.halt 0x070B 0x200 0 else (s.loadLedger.modBoot (fun b => { b with selfTestDone := true })).stepTo 2
    | 3 =>
      if size < 4 ∨ 64 < size then s.halt 0x0102 3 0
      else (((s.wr PRF.FLASH.SIZE_MB size).wr PRF.FLASH.MODE mode).wr PRF.FLASH.CLOCK_MHZ clock).stepTo 3
    | 4 => s.stepImage sig maker detail
    | 5 => match s.image with
      | some im => ((s.loadImage im).judgeTables).stepTo 5
      | none => s
    | 6 => if s.on CLK.REF.OK then s.pllsEnable.stepTo 6 else s.setWait 1
    | 7 =>
      if (List.range 6).all (fun n => s.on (CLK.PLLn_STATUS.LOCKED n)) then
        s.mcvCal.stepTo 7
      else s
    | 8 => if s.on MCV.STATUS.CAL_BUSY ∨ ¬ s.on MCV.STATUS.CAL_DONE then s else s.stepTo 8
    | 9 => ((s.wr CAP.POOL_WARN.LOW_WATER s.freePages).modBoot (fun b => { b with poolSet := true })).stepTo 9
    | 10 => (((s.wr DRM.STATE.STATE 1).modArc (fun a => { a with stepAt := [s.now, s.now, s.now] })).loadReserved).stepTo 10
    | 11 => s.stepCalibrate
    | _ => s.stepIdle)

/-! ### Internal faults (R532, R535) -/

/-- Reason codes of R535. -/
def haltReasons : List Nat :=
  [0x0101, 0x0102, 0x0103, 0x0104, 0x0105, 0x0106, 0x0107, 0x0108, 0x0109, 0x010A, 0x010B]
  ++ [0x0201, 0x0202, 0x0203, 0x0204, 0x0301, 0x0302, 0x0303, 0x0304, 0x0401, 0x0410, 0x0501, 0x0502, 0x0601, 0x0602]
  ++ [0x0610, 0x0620, 0x0621, 0x0630, 0x0631, 0x0640, 0x0650, 0x0651, 0x0701, 0x0702, 0x0703, 0x0704, 0x0705, 0x0706]
  ++ [0x0707, 0x0708, 0x0709, 0x070A, 0x070B, 0x0801]

/-- INTERNAL_FAULT (R532 to R536): an internal fault that only the outside can show. A partner condition of the same slice clock, its
event code in the high half of `detail` or 0 there for none, is only logged (R35, R534). -/
def execInternalFault (reason detail addr : Nat) (s : State) : Host.Outcome State Fault Refusal :=
  .next (
    if haltReasons.contains reason ∧ ¬ s.boot.inReset then
      let t := s.halt reason (detail % 65536) addr
      let partner := detail / 65536 % 65536
      if s.live ∧ partner ≠ 0 then t.partnerNow partner else t
    else s)

/-! ### Into DARK (R142, R523) -/

/-- Steps 1 to 3: sessions, DRAM, the rest powered down. -/
def State.darkParts (s : State) : State :=
  let s := (s.portsDark.serviceStop).rbAbort
  let s := if s.on I3C.STATUS.AUTH then s.i3cLogout else s
  let s := if s.dramUp then s.selfRefresh 4 else if s.rd DRM.STATE.STATE = 0 then s else s.wr DRM.STATE.STATE 4
  if s.proOn then ((s.wr PRO.STATUS.STATE 5).sendList 1 .ulps).modPro (fun p => { p with frame := false, composing := none, ready := false, teGood := 0 }) else s

/-- Step 4: the keeper takes TB / R, the control words are saved, the fast clocks stop. -/
def State.darkClock (s : State) : State :=
  let s := s.stampsDark
  let s := s.modClk (fun c => { c with
    keeper := s.overR s.ticks, edgeHalf := 2 * s.ticks % (if s.on CLK.REF.FREQ_SEL then 25 else 250), good := List.replicate 6 0, broken := List.replicate 6 false })
  let s := (List.range 6).foldl (fun s n =>
    (((s.put (CLK.PLLn_STATUS.LOCKED n) false).put (CLK.PLLn_STATUS.COAST n) false).put (CLK.PLLn_STATUS.RELOCK n) false).put
      (CLK.PLLn_STATUS.GATED n) false) s
  let s := (s.tbBit 0 false).tbBit 1 false
  let s := ((s.put SYS.STATE.ENTERING false).wr SYS.STATE.STATE devDark).count SYS.DARK.ENTRIES SYS.DARK.SAT 1
  (s.modBoot (fun b => { b with entryStep := 0, darkSince := s.now })).passesDark

/-- DARK_ENTRY (R523): with nothing left to wait for, entry runs; its last step waits for PLL0. -/
def execDarkEntry (s : State) : Host.Outcome State Fault Refusal :=
  .next (
    if ¬ s.on SYS.STATE.ENTERING ∨ s.dev ≠ devIdle then s
    else
      let changing := s.prf.resumeAt.isSome || s.prf.adopting != 0 || s.on PRF.STATUS.PENDING_VALID
      let s := if s.boot.entryStep = 0 then s.haltCells else s
      let s := if s.boot.entryStep = 0 ∧ s.darkWaits = 0 ∧ changing = false then
          s.darkParts.modBoot (fun b => { b with entryStep := 3 })
        else s
      if s.boot.entryStep = 3 ∧ s.pll0Locked = true ∧ s.on CLK.REF.OK = true ∧ ¬ s.on TB.STATE.REPHASE then s.darkClock else s)

/-! ### Waking (R143, R525, R526) -/

/-- WAKE_PIN (R525): WAKE_IN is sampled at a safelight clock edge; two samples in a row of the new level make an edge. -/
def execWakePin (level : Bool) (s : State) : Host.Outcome State Fault Refusal :=
  .next (
    if level = s.boot.wakeLevel then s.modBoot (fun b => { b with wakeRun := 0 })
    else if s.boot.wakeRun = 0 then s.modBoot (fun b => { b with wakeRun := 1 })
    else
      let s := s.modBoot (fun b => { b with wakeLevel := level, wakeRun := 0 })
      if s.live ∧ s.on SYS.WAKE_CFG.PIN = true ∧ s.on SYS.WAKE_CFG.PIN_EDGE ≠ level then s.wakeSource 1 0 else s)

/-- WAKE_ALARM (R525): in DARK, the keeper has reached the alarm value. -/
def execWakeAlarm (s : State) : Host.Outcome State Fault Refusal :=
  .next (
    if s.dev = devDark ∧ s.on SYS.WAKE_CFG.ALARM = true
        ∧ s.rd SYS.WAKE_AT_LO.KEEPER + s.rd SYS.WAKE_AT_HI.KEEPER * 2 ^ 32 ≤ s.keeper then s.wakeSource 3 0
    else s)

/-- The time base wakes: the loops run from their saved words, the marker divider starts anew, and TB stays in keeper form up to step 3
(R131, R143 to R145). -/
def State.wakeClock (s : State) : State :=
  let s := s.wr SYS.STATE.STATE devIdle
  let s := s.markersAnew.modClk (fun c => { c with waking := true, wakeLock := s.on CLK.REF.OK })
  ((List.range 6).foldl State.pllWarm s).tbBit 1 true

/-- WAKE (R143, R508, R526): the source that was recognised brings the device out of DARK. -/
def execWake (s : State) : Host.Outcome State Fault Refusal :=
  .next (match s.boot.heldWake with
    | none => s
    | some (cause, window) =>
      if s.dev ≠ devDark then s
      else
        let ms := (s.now - s.boot.darkSince) / 1250000
        let s := (((s.wr SYS.WAKE_CAUSE.CAUSE cause).wr SYS.WAKE_CAUSE.WINDOW window).countPlain SYS.WAKE_CAUSE.WAKES 1).wakeClock
        let s := if cause = 3 then s.put SYS.WAKE_CFG.ALARM false else s
        let s := s.modBoot (fun b => { b with heldWake := none, idleSince := s.now, wakeReport := some [cause, window, ms] })
        let s := if s.rd DRM.STATE.STATE = 4 then s.wr DRM.STATE.STATE 3 else s
        let s := if s.proF PRO.CFG.EN = 0 then (s.wr PRO.STATUS.STATE 0).modPro (fun p => { p with lanes := .lp11 })
          else s.proInit (if s.rd PRO.STATUS.STATE = 5 then 2 else 0)
        let s := s.verniersStart.darkFlush.passesWake
        match s.profile with
        | some p =>
          if p.flags.testBit 1 then
            let s := s.profileStart p.startMask
            { s with prf := { s.prf with outcome := 0 } }
          else s
        | none => s)

end Sys2Proof.Machine
end

