-- ==== Sys2Proof/Machine/I3c.lean ====
section
/-! DEFINITION. The I3C target (19_i3c_and_register_map.md, R550 to R563) and the test access port (R585, R586). -/

namespace Sys2Proof.Machine

/-! ### Addresses (R551, R552) -/

/-- The target answers: from the end of start-up step 1 on (R518, R552). -/
def State.i3cUp (s : State) : Bool :=
  !s.boot.inReset && !s.boot.held && (s.dev != devStart || 1 < s.rd SYS.STATE.STEP)

/-- A command reaches the device: broadcast, or its dynamic address. -/
def State.i3cFor (s : State) (da : Option Nat) : Bool := s.i3cUp && (match da with
  | none => true
  | some x => s.on I3C.STATUS.DA_VALID && s.rd I3C.STATUS.DA == x)

/-- The bytes the device answers with, and that it acknowledged. -/
def State.i3cAnswer (s : State) (bs : List Nat) : State := s.modI3c (fun x => { x with out := bs, acked := true })

/-- The device does not acknowledge. -/
def State.i3cNack (s : State) : State := s.modI3c (fun x => { x with out := [], acked := false })

/-- A number as bytes, most significant first, as the common commands carry it. -/
def beBytes (n v : Nat) : List Nat := (leBytes n v).reverse

/-- An answer to a direct GET command. -/
def State.i3cGet (s : State) (da : Nat) (bs : List Nat) : State := if s.i3cFor (some da) then s.i3cAnswer bs else s.i3cNack

/-- A dynamic address is assigned: the read pointer is 0 until a write (R553). -/
def State.i3cAssign (s : State) (da : Nat) : State :=
  ((s.wr I3C.STATUS.DA da).put I3C.STATUS.DA_VALID true).modI3c (fun x => { x with
    pointer := 0, hotJoin := false, acked := true, lastTransfer := s.now })

/-- ENTDAA (R550, R552): the device wins the arbitration and takes `da`. -/
def execEntdaa (da : Nat) (s : State) : Host.Outcome State Fault Refusal :=
  .next (if s.i3cUp ∧ ¬ s.on I3C.STATUS.DA_VALID ∧ da < 128 then s.i3cAssign da else s)

/-- SETDASA (R550, R552): NACKed before step 5 has loaded the static address. -/
def execSetdasa (st da : Nat) (s : State) : Host.Outcome State Fault Refusal :=
  .next (
    if s.i3cUp ∧ s.i3c.staticAddr ≠ 0 ∧ st = s.i3c.staticAddr ∧ ¬ s.on I3C.STATUS.DA_VALID ∧ da < 128 then s.i3cAssign da
    else s.i3cNack)

/-- SETNEWDA (R550). -/
def execSetnewda (old da : Nat) (s : State) : Host.Outcome State Fault Refusal :=
  .next (if s.i3cFor (some old) ∧ da < 128 then s.i3cAssign da else s.i3cNack)

/-- RSTDAA (R552, R557): the dynamic address is lost, and with it an authenticated role. -/
def execRstdaa (s : State) : Host.Outcome State Fault Refusal :=
  .next (
    if s.i3cUp then
      let s := ((s.put I3C.STATUS.DA_VALID false).wr I3C.STATUS.DA 0).modI3c (fun x => { x with pointer := 0 })
      if s.on I3C.STATUS.AUTH then s.i3cLogout else s
    else s)

/-- HOT_JOIN (R552): requested 1 ms after step 1 and after each bus-idle period, with no dynamic address, while enabled. -/
def execHotJoin (s : State) : Host.Outcome State Fault Refusal :=
  .next (
    if s.i3cUp ∧ ¬ s.on I3C.STATUS.DA_VALID ∧ s.on I3C.STATUS.ENHJ = true ∧ s.i3c.upAt + ticksOfMs 1 ≤ s.now then
      s.modI3c (fun x => { x with hotJoin := true })
    else s)

/-! ### Common commands (R550, R551) -/

/-- Event bits of ENEC and DISEC: bit 0 interrupts, bit 3 hot-join. -/
def State.i3cEvents (s : State) (bits : Nat) (on : Bool) : State :=
  let s := if bits.testBit 0 then s.put I3C.STATUS.ENINT on else s
  let s := if bits.testBit 3 then s.put I3C.STATUS.ENHJ on else s
  s.modI3c (fun x => { x with acked := true, hotJoin := x.hotJoin && (on || !bits.testBit 3) })

/-- ENEC (R550): broadcast, or direct to `da`. -/
def execEnec (da : Option Nat) (bits : Nat) (s : State) : Host.Outcome State Fault Refusal :=
  .next (if s.i3cFor da then s.i3cEvents bits true else s.i3cNack)

/-- DISEC (R550, R552). -/
def execDisec (da : Option Nat) (bits : Nat) (s : State) : Host.Outcome State Fault Refusal :=
  .next (if s.i3cFor da then s.i3cEvents bits false else s.i3cNack)

/-- GETPID (R551). -/
def execGetpid (da : Nat) (s : State) : Host.Outcome State Fault Refusal := .next (s.i3cGet da (beBytes 6 s.i3c.pid))

/-- GETBCR (R551). -/
def execGetbcr (da : Nat) (s : State) : Host.Outcome State Fault Refusal := .next (s.i3cGet da [0x2E])

/-- GETDCR (R551). -/
def execGetdcr (da : Nat) (s : State) : Host.Outcome State Fault Refusal := .next (s.i3cGet da [0x00])

/-- GETSTATUS (R551): the protocol error is reported once. -/
def execGetstatus (da : Nat) (s : State) : Host.Outcome State Fault Refusal :=
  .next (
    if s.i3cFor (some da) then
      (s.i3cAnswer [s.dev, 32 * b2n s.i3c.protoErr + min 15 s.i3c.ibis.length]).modI3c (fun x => { x with protoErr := false })
    else s.i3cNack)

/-- SETMWL (R551): accepted from 6 to 1,026. -/
def execSetmwl (da : Option Nat) (len : Nat) (s : State) : Host.Outcome State Fault Refusal :=
  .next (
    if s.i3cFor da then s.modI3c (fun x => { x with acked := true, mwl := if 6 ≤ len ∧ len ≤ 1026 then len else x.mwl }) else s.i3cNack)

/-- SETMRL (R551): accepted from 4 to 1,024. -/
def execSetmrl (da : Option Nat) (len : Nat) (s : State) : Host.Outcome State Fault Refusal :=
  .next (
    if s.i3cFor da then s.modI3c (fun x => { x with acked := true, mrl := if 4 ≤ len ∧ len ≤ 1024 then len else x.mrl }) else s.i3cNack)

/-- GETMWL (R551). -/
def execGetmwl (da : Nat) (s : State) : Host.Outcome State Fault Refusal := .next (s.i3cGet da (beBytes 2 s.i3c.mwl))

/-- GETMRL (R551). -/
def execGetmrl (da : Nat) (s : State) : Host.Outcome State Fault Refusal := .next (s.i3cGet da (beBytes 2 s.i3c.mrl))

/-- GETMXDS (R551). -/
def execGetmxds (da : Nat) (s : State) : Host.Outcome State Fault Refusal := .next (s.i3cGet da [0x00, 0x00])

/-- ENTHDR0 (R550): HDR-DDR until the next SDR transfer. -/
def execEnthdr0 (s : State) : Host.Outcome State Fault Refusal :=
  .next (if s.i3cUp then s.modI3c (fun x => { x with hdr := true }) else s)

/-! ### Private transfers (R553, R554) -/

/-- The whole words of a private write from `addr` on: parity is wrong in word `bad`. The flag says that the transfer ended early. -/
def State.i3cWords (s : State) (bad : Option Nat) (addr : Nat) : Nat → List Nat → State × Bool
  | _, [] => (s, false)
  | i, v :: vs =>
    if bad = some i then ((s.i3cRefused (addr % 65536) 5).modI3c (fun x => { x with protoErr := true }), true)
    else if 0xFFFC < addr then (s.i3cRefused (addr % 65536) 5, true)
    else
      let (s, r) := s.access .i3c addr v
      if r.status ≠ 0 then (s.i3cRefused addr r.status, true)
      else s.i3cWords bad (addr + 4) (i + 1) vs

/-- A private write of `bytes`. Fewer than the two address bytes are MALFORMED, with no address to record: a free value
(notes/assumptions/8.md). -/
def State.i3cWrite (s : State) (bytes : List Nat) (bad : Option Nat) : State :=
  let s := s.modI3c (fun x => { x with lastTransfer := s.now, acked := true, out := [] })
  let addr := le bytes 0 2
  let n := (bytes.length - 2) / 4
  let ws := (List.range n).map (fun i => le bytes (2 + 4 * i) 4)
  if bytes.isEmpty then s
  else if bytes.length < 2 then let (a, s) := s.free 32 16; s.i3cRefused a 5
  else if addr % 4 ≠ 0 then s.i3cRefused addr 5
  else
    let s := s.modI3c (fun x => { x with pointer := addr })
    let (s, cut) := s.i3cWords bad addr 0 ws
    if cut = false ∧ (bytes.length - 2) % 4 ≠ 0 then s.i3cRefused ((addr + 4 * n) % 65536) 5 else s

/-- I3C_PRIVATE_WRITE (R553, R554). -/
def execI3cPrivateWrite (da : Nat) (bytes : List Nat) (bad : Option Nat) (s : State) : Host.Outcome State Fault Refusal :=
  .next (if s.i3cFor (some da) then (s.modI3c (fun x => { x with hdr := false })).i3cWrite bytes bad else s.i3cNack)

/-- HDR_WRITE (R553): command 0x20 in HDR-DDR. -/
def execHdrWrite (da : Nat) (bytes : List Nat) (bad : Option Nat) (s : State) : Host.Outcome State Fault Refusal :=
  .next (if s.i3cFor (some da) ∧ s.i3c.hdr = true then s.i3cWrite bytes bad else s)

/-- A private read of up to `n` bytes, at most the maximum read length: whole words from the read pointer on, up to 0xFFFC; a word
that the controller cuts off is not read (R553, R554). SYS_WAKE, where owed, is read (R526). -/
def State.i3cRead (s : State) (n : Nat) : State :=
  let s := (s.modI3c (fun x => { x with lastTransfer := s.now })).wakeTell
  let n := min n s.i3c.mrl
  let p := s.i3c.pointer
  let left := (0x10000 - p) / 4
  let words := min (n / 4) left
  let (s, ws) := s.readWords .i3c p words
  let part := if words < left ∧ n % 4 ≠ 0 ∧ words = n / 4 then (leBytes 4 (s.readWord .i3c (p + 4 * words))).take (n % 4) else []
  (s.i3cAnswer ((ws.map (leBytes 4)).flatten ++ part)).modI3c (fun x => { x with pointer := p + 4 * words })

/-- I3C_PRIVATE_READ (R553, R554). -/
def execI3cPrivateRead (da n : Nat) (s : State) : Host.Outcome State Fault Refusal :=
  .next (if s.i3cFor (some da) then (s.modI3c (fun x => { x with hdr := false })).i3cRead n else s.i3cNack)

/-- HDR_READ (R553): command 0xA0 in HDR-DDR. -/
def execHdrRead (da n : Nat) (s : State) : Host.Outcome State Fault Refusal :=
  .next (if s.i3cFor (some da) ∧ s.i3c.hdr = true then s.i3cRead n else s)

/-! ### In-band interrupts, roles, flash (R557 to R563) -/

/-- IBI_REQUEST (R558, R559): the interrupt that comes first is requested; one the controller does not accept stays. -/
def execIbiRequest (ack : Bool) (s : State) : Host.Outcome State Fault Refusal :=
  .next (match s.i3c.ibis with
    | [] => s
    | i :: rest =>
      if s.i3cUp ∧ s.on I3C.STATUS.DA_VALID = true ∧ s.on I3C.STATUS.ENINT = true ∧ ack = true then
        let seqs := s.i3c.eventSeqs
        let s := (s.modI3c (fun x => { x with ibis := rest, ibiOut := i.cls :: i.data })).wr I3C.IBI_STATUS.WAITING (min 64 rest.length)
        if i.cls = 3 then (s.wr I3C.IBI_STATUS.SEQ (seqs.headD 0 % 65536)).modI3c (fun x => { x with eventSeqs := seqs.tail }) else s
      else s)

/-- AUTH_IDLE_TIMEOUT (R557). -/
def execAuthIdleTimeout (s : State) : Host.Outcome State Fault Refusal :=
  .next (
    if s.on I3C.STATUS.AUTH ∧ s.i3c.lastTransfer + ticksOfS (s.rd I3C.AUTH_IDLE.SECONDS) ≤ s.now then s.i3cLogout else s)

/-- FLASH_OP_COMPLETE (R561 to R563): the flash has carried the operation out, or reports a failure. `left` gives what the range
holds where the operation does not say: bytes that were not erased before a program, and all of it after a failure. -/
def execFlashOpComplete (ok : Bool) (left : List Nat) (s : State) : Host.Outcome State Fault Refusal :=
  .next (match s.i3c.flashOp with
    | none => s
    | some (op, addr, len) =>
      let old := s.flashBytes addr len
      let given := fun (i : Nat) => left.getD i 0xFF % 256
      let data := (List.range len).map (fun i =>
        if ¬ ok then given i
        else if op = 4 then (if old.getD i 0 = 0xFF then Memory.byte 0 s.i3c.flashBuf i else given i) else 0xFF)
      let s := if op = 3 then
          (if ok then s.modI3c (fun x => { x with flashBuf := Memory.write 0 x.flashBuf 0 old }) else s)
        else { s with flash := Memory.write 0xFF s.flash addr data }
      let close := s.i3c.flashClose
      let s := s.modI3c (fun x => { x with flashOp := none, flashClose := false })
      let s := (s.wr I3C.FLASH_STATUS.STATE (if close then 0 else 1)).countPlain I3C.FLASH_STATUS.OPS 1
      s.flashDone (if ok then 0 else 5))

/-! ### The test access port (R585, R586) -/

/-- An instruction and the data register's first bits in the TAP. -/
def State.tapLoad (s : State) (i tdo : Nat) : State := s.modBoot (fun b => { b with tap := i, tdo := tdo })

/-- An instruction accepted only with RESET_N low; at any other time it loads as BYPASS (R586). -/
def State.tapGuarded (s : State) (i : Nat) : State := s.tapLoad (if s.boot.resetLow then i else 0xFF) 0

/-- EXTEST. -/
def execExtest (s : State) : Host.Outcome State Fault Refusal := .next (s.tapGuarded 0x00)

/-- IDCODE reads 0x1088_074B. -/
def execIdcode (s : State) : Host.Outcome State Fault Refusal := .next (s.tapLoad 0x01 0x1088074B)

/-- SAMPLE/PRELOAD. -/
def execSamplePreload (s : State) : Host.Outcome State Fault Refusal := .next (s.tapLoad 0x02 0)

/-- EXTEST_PULSE. -/
def execExtestPulse (s : State) : Host.Outcome State Fault Refusal := .next (s.tapGuarded 0x08)

/-- EXTEST_TRAIN. -/
def execExtestTrain (s : State) : Host.Outcome State Fault Refusal := .next (s.tapGuarded 0x09)

/-- HIGHZ. -/
def execHighz (s : State) : Host.Outcome State Fault Refusal := .next (s.tapGuarded 0x0A)

/-- CLAMP. -/
def execClamp (s : State) : Host.Outcome State Fault Refusal := .next (s.tapGuarded 0x0B)

/-- BYPASS, and every code that is no instruction of the table: maker test instructions stay loaded in diagnostic service mode
alone, and otherwise are BYPASS (R585). -/
def execBypass (ir : Nat) (s : State) : Host.Outcome State Fault Refusal :=
  .next (
    if [0x00, 0x01, 0x02, 0x08, 0x09, 0x0A, 0x0B].contains (ir % 256) then s
    else s.tapLoad (if s.sec.service.isSome then ir % 256 else 0xFF) 0)

/-- TAP_RESET (R586): the instruction is that of a reset TAP. -/
def execTapReset (s : State) : Host.Outcome State Fault Refusal := .next (s.tapLoad 0x01 0)

end Sys2Proof.Machine
end

