-- ==== Sys2Proof/Machine/Dispatch.lean ====
section
/-! DEFINITION. The dispatcher: one arm per command, each one direct call of its meaning. -/

namespace Sys2Proof.Machine

def exec (i : Instr) (s : State) : Host.Outcome State Fault Refusal :=
  match i with
  | .registerWrite a addr v => Sys2Proof.Machine.execRegisterWrite a addr v s
  | .powerOn high psel claim => Sys2Proof.Machine.execPowerOn high psel claim s
  | .resetRecognised => Sys2Proof.Machine.execResetRecognised s
  | .resetRelease psel claim => Sys2Proof.Machine.execResetRelease psel claim s
  | .brownOut => Sys2Proof.Machine.execBrownOut s
  | .startUp reason detail addr sig maker size mode clock => Sys2Proof.Machine.execStartUp reason detail addr sig maker size mode clock s
  | .internalFault reason detail addr => Sys2Proof.Machine.execInternalFault reason detail addr s
  | .thermalTrip m reading => Sys2Proof.Machine.execThermalTrip m reading s
  | .vddioSample side => Sys2Proof.Machine.execVddioSample side s
  | .sclkMeasurementWindow khz => Sys2Proof.Machine.execSclkMeasurementWindow khz s
  | .adcSclkLost => Sys2Proof.Machine.execAdcSclkLost s
  | .correctedSample n pos raw => Sys2Proof.Machine.execCorrectedSample n pos raw s
  | .primingComplete n => Sys2Proof.Machine.execPrimingComplete n s
  | .adcCommit a n v => Sys2Proof.Machine.execAdcCommit a n v s
  | .rangeChange n => Sys2Proof.Machine.execRangeChange n s
  | .modeWrite a v => Sys2Proof.Machine.execModeWrite a v s
  | .modeChange => Sys2Proof.Machine.execModeChange s
  | .modeCalComplete => Sys2Proof.Machine.execModeCalComplete s
  | .calPassReq a v => Sys2Proof.Machine.execCalPassReq a v s
  | .passOverdue n => Sys2Proof.Machine.execPassOverdue n s
  | .calPassStart n => Sys2Proof.Machine.execCalPassStart n s
  | .referenceCheckRetry n => Sys2Proof.Machine.execReferenceCheckRetry n s
  | .staticCalComplete n k mG mB mC noise => Sys2Proof.Machine.execStaticCalComplete n k mG mB mC noise s
  | .handover n codes ins => Sys2Proof.Machine.execHandover n codes ins s
  | .bgWindowComplete n slope eq tones => Sys2Proof.Machine.execBgWindowComplete n slope eq tones s
  | .calOverdueSet n => Sys2Proof.Machine.execCalOverdueSet n s
  | .certCommit a v => Sys2Proof.Machine.execCertCommit a v s
  | .rangeCheckReq a v => Sys2Proof.Machine.execRangeCheckReq a v s
  | .rangeCheckComplete n r factor => Sys2Proof.Machine.execRangeCheckComplete n r factor s
  | .refinMeasurement khz pll0Khz => Sys2Proof.Machine.execRefinMeasurement khz pll0Khz s
  | .clkRefLost => Sys2Proof.Machine.execClkRefLost s
  | .pllLockWindow n err eps => Sys2Proof.Machine.execPllLockWindow n err eps s
  | .pllLockTimeout n => Sys2Proof.Machine.execPllLockTimeout n s
  | .tbRephased => Sys2Proof.Machine.execTbRephased s
  | .ocxoWarmChange level => Sys2Proof.Machine.execOcxoWarmChange level s
  | .clkCommit a v => Sys2Proof.Machine.execClkCommit a v s
  | .clkCommitApply => Sys2Proof.Machine.execClkCommitApply s
  | .syncEdge => Sys2Proof.Machine.execSyncEdge s
  | .tbSetArm a v => Sys2Proof.Machine.execTbSetArm a v s
  | .tbSetDisarm a v => Sys2Proof.Machine.execTbSetDisarm a v s
  | .tbNowRead a => Sys2Proof.Machine.execTbNowRead a s
  | .marker raw => Sys2Proof.Machine.execMarker raw s
  | .edgeSelect a j v => Sys2Proof.Machine.execEdgeSelect a j v s
  | .stampEdge j falling phase => Sys2Proof.Machine.execStampEdge j falling phase s
  | .vernierConversion j v => Sys2Proof.Machine.execVernierConversion j v s
  | .spillMove j => Sys2Proof.Machine.execSpillMove j s
  | .curveTestGo a v => Sys2Proof.Machine.execCurveTestGo a v s
  | .curveTestComplete j hist => Sys2Proof.Machine.execCurveTestComplete j hist s
  | .vernierLockMeasurement j u dev => Sys2Proof.Machine.execVernierLockMeasurement j u dev s
  | .vernierLockTimeout j u => Sys2Proof.Machine.execVernierLockTimeout j u s
  | .darkStamp j falling => Sys2Proof.Machine.execDarkStamp j falling s
  | .sequencerEvent n => Sys2Proof.Machine.execSequencerEvent n s
  | .sequencerTimerExpiry n k => Sys2Proof.Machine.execSequencerTimerExpiry n k s
  | .holdoffEnd n => Sys2Proof.Machine.execHoldoffEnd n s
  | .channelRearm n => Sys2Proof.Machine.execChannelRearm n s
  | .trgCommit a n v => Sys2Proof.Machine.execTrgCommit a n v s
  | .trgSettingsApply n => Sys2Proof.Machine.execTrgSettingsApply n s
  | .trgRearm a n v => Sys2Proof.Machine.execTrgRearm a n v s
  | .trgForce a n v => Sys2Proof.Machine.execTrgForce a n v s
  | .trgCmd a n v => Sys2Proof.Machine.execTrgCmd a n v s
  | .trgoutCtlWrite a k v => Sys2Proof.Machine.execTrgoutCtlWrite a k v s
  | .trgoutPulseEnd k => Sys2Proof.Machine.execTrgoutPulseEnd k s
  | .trgCurveLearn a v => Sys2Proof.Machine.execTrgCurveLearn a v s
  | .curveLearnComplete => Sys2Proof.Machine.execCurveLearnComplete s
  | .capStart a v => Sys2Proof.Machine.execCapStart a v s
  | .heldStartAct => Sys2Proof.Machine.execHeldStartAct s
  | .capStop a v => Sys2Proof.Machine.execCapStop a v s
  | .capAbort a v => Sys2Proof.Machine.execCapAbort a v s
  | .continuousRollStart => Sys2Proof.Machine.execContinuousRollStart s
  | .frameEnd n => Sys2Proof.Machine.execFrameEnd n s
  | .frameClosed n => Sys2Proof.Machine.execFrameClosed n s
  | .q0ReservationChange => Sys2Proof.Machine.execQ0ReservationChange s
  | .qdrSlotGrant err => Sys2Proof.Machine.execQdrSlotGrant err s
  | .capRelease a v => Sys2Proof.Machine.execCapRelease a v s
  | .poolLowReset a v => Sys2Proof.Machine.execPoolLowReset a v s
  | .accSnapStk a n v => Sys2Proof.Machine.execAccSnapStk a n v s
  | .accSnapMap a n v => Sys2Proof.Machine.execAccSnapMap a n v s
  | .accClearStk a n v => Sys2Proof.Machine.execAccClearStk a n v s
  | .accClearMap a n v => Sys2Proof.Machine.execAccClearMap a n v s
  | .snapshotPeriod n => Sys2Proof.Machine.execSnapshotPeriod n s
  | .accSnapshot n kind => Sys2Proof.Machine.execAccSnapshot n kind s
  | .stackMerge n => Sys2Proof.Machine.execStackMerge n s
  | .tileMerge n => Sys2Proof.Machine.execTileMerge n s
  | .decayStep n => Sys2Proof.Machine.execDecayStep n s
  | .cmbLoad a c v => Sys2Proof.Machine.execCmbLoad a c v s
  | .cellLoadComplete c => Sys2Proof.Machine.execCellLoadComplete c s
  | .cmbRun a c v => Sys2Proof.Machine.execCmbRun a c v s
  | .cmbHalt a c v => Sys2Proof.Machine.execCmbHalt a c v s
  | .cmbUnload a c v => Sys2Proof.Machine.execCmbUnload a c v s
  | .cmbGroupRun a v => Sys2Proof.Machine.execCmbGroupRun a v s
  | .cmbGroupHalt a v => Sys2Proof.Machine.execCmbGroupHalt a v s
  | .parameterWrite a w v => Sys2Proof.Machine.execParameterWrite a w v s
  | .bufferReady c port err => Sys2Proof.Machine.execBufferReady c port err s
  | .stampsFlush c port => Sys2Proof.Machine.execStampsFlush c port s
  | .dmaComplete c err => Sys2Proof.Machine.execDmaComplete c err s
  | .cellMove c => Sys2Proof.Machine.execMove c s
  | .cellClr c => Sys2Proof.Machine.execClr c s
  | .cellAdd c => Sys2Proof.Machine.execAdd c s
  | .cellSub c => Sys2Proof.Machine.execSub c s
  | .cellNeg c => Sys2Proof.Machine.execNeg c s
  | .cellAbs c => Sys2Proof.Machine.execAbs c s
  | .cellMax c => Sys2Proof.Machine.execMax c s
  | .cellMin c => Sys2Proof.Machine.execMin c s
  | .cellCmp c => Sys2Proof.Machine.execCmp c s
  | .cellAnd c => Sys2Proof.Machine.execAnd c s
  | .cellOr c => Sys2Proof.Machine.execOr c s
  | .cellXor c => Sys2Proof.Machine.execXor c s
  | .cellAsl c => Sys2Proof.Machine.execAsl c s
  | .cellAsr c => Sys2Proof.Machine.execAsr c s
  | .cellLsr c => Sys2Proof.Machine.execLsr c s
  | .cellCls c => Sys2Proof.Machine.execCls c s
  | .cellDiv c => Sys2Proof.Machine.execDiv c s
  | .cellSqrt c => Sys2Proof.Machine.execSqrt c s
  | .cellMul c => Sys2Proof.Machine.execMul c s
  | .cellMla c => Sys2Proof.Machine.execMla c s
  | .cellMls c => Sys2Proof.Machine.execMls c s
  | .cellMlah c => Sys2Proof.Machine.execMlah c s
  | .cellDmul c => Sys2Proof.Machine.execDmul c s
  | .cellDmla c => Sys2Proof.Machine.execDmla c s
  | .cellDmls c => Sys2Proof.Machine.execDmls c s
  | .cellDsum c => Sys2Proof.Machine.execDsum c s
  | .cellDdif c => Sys2Proof.Machine.execDdif c s
  | .cellLdi c => Sys2Proof.Machine.execLdi c s
  | .cellAddi c => Sys2Proof.Machine.execAddi c s
  | .cellCmpi c => Sys2Proof.Machine.execCmpi c s
  | .cellAndi c => Sys2Proof.Machine.execAndi c s
  | .cellSeta c => Sys2Proof.Machine.execSeta c s
  | .cellAdda c => Sys2Proof.Machine.execAdda c s
  | .cellSetb c => Sys2Proof.Machine.execSetb c s
  | .cellSetw c => Sys2Proof.Machine.execSetw c s
  | .cellSets c => Sys2Proof.Machine.execSets c s
  | .cellMva c => Sys2Proof.Machine.execMva c s
  | .cellMvd c => Sys2Proof.Machine.execMvd c s
  | .cellMvc c => Sys2Proof.Machine.execMvc c s
  | .cellMcv c => Sys2Proof.Machine.execMcv c s
  | .cellSetsh c => Sys2Proof.Machine.execSetsh c s
  | .cellNop c => Sys2Proof.Machine.execNop c s
  | .cellBra c => Sys2Proof.Machine.execBra c s
  | .cellCall c => Sys2Proof.Machine.execCall c s
  | .cellRet c => Sys2Proof.Machine.execRet c s
  | .cellLoop c => Sys2Proof.Machine.execLoop c s
  | .cellLoopr c => Sys2Proof.Machine.execLoopr c s
  | .cellRpt c => Sys2Proof.Machine.execRpt c s
  | .cellLeave c => Sys2Proof.Machine.execLeave c s
  | .cellHalt c => Sys2Proof.Machine.execHalt c s
  | .cellTrap c => Sys2Proof.Machine.execTrap c s
  | .cellClrf c => Sys2Proof.Machine.execClrf c s
  | .cellIn c => Sys2Proof.Machine.execIn c s
  | .cellFree c => Sys2Proof.Machine.execFree c s
  | .cellOpen c => Sys2Proof.Machine.execOpen c s
  | .cellOut c => Sys2Proof.Machine.execOut c s
  | .cellClose c => Sys2Proof.Machine.execClose c s
  | .cellDma c => Sys2Proof.Machine.execDma c s
  | .cellDwait c => Sys2Proof.Machine.execDwait c s
  | .cellEvent c => Sys2Proof.Machine.execEvent c s
  | .ddrRefresh => Sys2Proof.Machine.execDdrRefresh s
  | .mr4Poll hot bad forced => Sys2Proof.Machine.execMr4Poll hot bad forced s
  | .dqsTrack drift forced => Sys2Proof.Machine.execDqsTrack drift forced s
  | .zqCalibration forced => Sys2Proof.Machine.execZqCalibration forced s
  | .writeDrain k => Sys2Proof.Machine.execWriteDrain k s
  | .ddrReadComplete k asked err => Sys2Proof.Machine.execDdrReadComplete k asked err s
  | .selfRefreshEntry => Sys2Proof.Machine.execSelfRefreshEntry s
  | .selfRefreshExit => Sys2Proof.Machine.execSelfRefreshExit s
  | .archiveRecordCommit => Sys2Proof.Machine.execArchiveRecordCommit s
  | .archTrim a v => Sys2Proof.Machine.execArchTrim a v s
  | .grainWrite a v => Sys2Proof.Machine.execGrainWrite a v s
  | .archRegionWrite a k v => Sys2Proof.Machine.execArchRegionWrite a k v s
  | .frameReceived p e => Sys2Proof.Machine.execFrameReceived p e s
  | .hello p e => Sys2Proof.Machine.execHello p e s
  | .auth p e => Sys2Proof.Machine.execAuth p e s
  | .wagRead p e => Sys2Proof.Machine.execWagRead p e s
  | .wagWrite p e => Sys2Proof.Machine.execWagWrite p e s
  | .wagOpen p e => Sys2Proof.Machine.execWagOpen p e s
  | .wagClose p e => Sys2Proof.Machine.execWagClose p e s
  | .leaseAcquire p e => Sys2Proof.Machine.execLeaseAcquire p e s
  | .leaseRelease p e => Sys2Proof.Machine.execLeaseRelease p e s
  | .leaseTakeOver p e => Sys2Proof.Machine.execLeaseTakeOver p e s
  | .bye p e => Sys2Proof.Machine.execBye p e s
  | .wagAttest p e => Sys2Proof.Machine.execWagAttest p e s
  | .ack p e => Sys2Proof.Machine.execAck p e s
  | .goback p e => Sys2Proof.Machine.execGoback p e s
  | .packetSend p id err => Sys2Proof.Machine.execPacketSend p id err s
  | .retransmitTimeout p id => Sys2Proof.Machine.execRetransmitTimeout p id s
  | .keepaliveAck p => Sys2Proof.Machine.execKeepaliveAck p s
  | .absentTimeout p => Sys2Proof.Machine.execAbsentTimeout p s
  | .absentHoldEnd p => Sys2Proof.Machine.execAbsentHoldEnd p s
  | .resumeExpiry p => Sys2Proof.Machine.execResumeExpiry p s
  | .leaseExpiry j => Sys2Proof.Machine.execLeaseExpiry j s
  | .authTimeout p => Sys2Proof.Machine.execAuthTimeout p s
  | .snapshotClaimTimeout p id => Sys2Proof.Machine.execSnapshotClaimTimeout p id s
  | .linkChange p up => Sys2Proof.Machine.execLinkChange p up s
  | .portEnWrite a p v => Sys2Proof.Machine.execPortEnWrite a p v s
  | .portReopen a p v => Sys2Proof.Machine.execPortReopen a p v s
  | .groupCfgWrite a g v => Sys2Proof.Machine.execGroupCfgWrite a g v s
  | .viewClear a v => Sys2Proof.Machine.execViewClear a v s
  | .windowEvent w k v phase => Sys2Proof.Machine.execWindowEvent w k v phase s
  | .winCfgWrite a w thr v => Sys2Proof.Machine.execWinCfgWrite a w thr v s
  | .windowSettled w => Sys2Proof.Machine.execWindowSettled w s
  | .rbGo a v => Sys2Proof.Machine.execRbGo a v s
  | .winRbDone raw => Sys2Proof.Machine.execWinRbDone raw s
  | .mcvPass => Sys2Proof.Machine.execMcvPass s
  | .mcvConversionComplete vals => Sys2Proof.Machine.execMcvConversionComplete vals s
  | .mcvInject a v => Sys2Proof.Machine.execMcvInject a v s
  | .mcvInjDone vals => Sys2Proof.Machine.execMcvInjDone vals s
  | .mcvPop a v => Sys2Proof.Machine.execMcvPop a v s
  | .mcvCal a v => Sys2Proof.Machine.execMcvCal a v s
  | .mcvCalDone offs gains => Sys2Proof.Machine.execMcvCalDone offs gains s
  | .injDisable a v => Sys2Proof.Machine.execInjDisable a v s
  | .proCommit a v => Sys2Proof.Machine.execProCommit a v s
  | .proCommitApply => Sys2Proof.Machine.execProCommitApply s
  | .compositionStart => Sys2Proof.Machine.execCompositionStart s
  | .compositionComplete => Sys2Proof.Machine.execCompositionComplete s
  | .displayFrameStart lines => Sys2Proof.Machine.execDisplayFrameStart lines s
  | .teEdge => Sys2Proof.Machine.execTeEdge s
  | .proTeLost => Sys2Proof.Machine.execProTeLost s
  | .flipCountRead a => Sys2Proof.Machine.execFlipCountRead a s
  | .overlayWrite a addr v => Sys2Proof.Machine.execOverlayWrite a addr v s
  | .tokenSubmit a v => Sys2Proof.Machine.execTokenSubmit a v s
  | .tokKeyPass sig => Sys2Proof.Machine.execTokKeyPass sig s
  | .tokAdopt sig => Sys2Proof.Machine.execTokAdopt sig s
  | .tokEnrol sig => Sys2Proof.Machine.execTokEnrol sig s
  | .tokRevoke sig => Sys2Proof.Machine.execTokRevoke sig s
  | .tokAuditAck sig => Sys2Proof.Machine.execTokAuditAck sig s
  | .tokRelease sig => Sys2Proof.Machine.execTokRelease sig s
  | .tokService sig => Sys2Proof.Machine.execTokService sig s
  | .tokServiceEnd sig => Sys2Proof.Machine.execTokServiceEnd sig s
  | .attestGo a v => Sys2Proof.Machine.execAttestGo a v s
  | .attestationSigned => Sys2Proof.Machine.execAttestationSigned s
  | .manifestClose => Sys2Proof.Machine.execManifestClose s
  | .manifestSigned => Sys2Proof.Machine.execManifestSigned s
  | .signTimeout => Sys2Proof.Machine.execSignTimeout s
  | .knownAnswerTest ok => Sys2Proof.Machine.execKnownAnswerTest ok s
  | .exportGo a v => Sys2Proof.Machine.execExportGo a v s
  | .exportReady => Sys2Proof.Machine.execExportReady s
  | .pselChange v => Sys2Proof.Machine.execPselChange v s
  | .profileSwitchRequest a v => Sys2Proof.Machine.execProfileSwitchRequest a v s
  | .prfSwitch => Sys2Proof.Machine.execPrfSwitch s
  | .idleDarkTimeout => Sys2Proof.Machine.execIdleDarkTimeout s
  | .stageCheck a v => Sys2Proof.Machine.execStageCheck a v s
  | .prfStaged sig maker => Sys2Proof.Machine.execPrfStaged sig maker s
  | .adoptionStart => Sys2Proof.Machine.execAdoptionStart s
  | .adoptionRereadDone sig maker => Sys2Proof.Machine.execAdoptionRereadDone sig maker s
  | .darkRequest a v => Sys2Proof.Machine.execDarkRequest a v s
  | .darkEntry => Sys2Proof.Machine.execDarkEntry s
  | .wakePin level => Sys2Proof.Machine.execWakePin level s
  | .wakeAlarm => Sys2Proof.Machine.execWakeAlarm s
  | .sysWakeWrite v => Sys2Proof.Machine.execSysWakeWrite v s
  | .wake => Sys2Proof.Machine.execWake s
  | .i3cPrivateWrite da bytes bad => Sys2Proof.Machine.execI3cPrivateWrite da bytes bad s
  | .i3cPrivateRead da n => Sys2Proof.Machine.execI3cPrivateRead da n s
  | .hdrWrite da bytes bad => Sys2Proof.Machine.execHdrWrite da bytes bad s
  | .hdrRead da n => Sys2Proof.Machine.execHdrRead da n s
  | .enec da bits => Sys2Proof.Machine.execEnec da bits s
  | .disec da bits => Sys2Proof.Machine.execDisec da bits s
  | .rstdaa => Sys2Proof.Machine.execRstdaa s
  | .entdaa da => Sys2Proof.Machine.execEntdaa da s
  | .setdasa st da => Sys2Proof.Machine.execSetdasa st da s
  | .setnewda old da => Sys2Proof.Machine.execSetnewda old da s
  | .getpid da => Sys2Proof.Machine.execGetpid da s
  | .getbcr da => Sys2Proof.Machine.execGetbcr da s
  | .getdcr da => Sys2Proof.Machine.execGetdcr da s
  | .getstatus da => Sys2Proof.Machine.execGetstatus da s
  | .setmwl da len => Sys2Proof.Machine.execSetmwl da len s
  | .setmrl da len => Sys2Proof.Machine.execSetmrl da len s
  | .getmwl da => Sys2Proof.Machine.execGetmwl da s
  | .getmrl da => Sys2Proof.Machine.execGetmrl da s
  | .getmxds da => Sys2Proof.Machine.execGetmxds da s
  | .enthdr0 => Sys2Proof.Machine.execEnthdr0 s
  | .hotJoin => Sys2Proof.Machine.execHotJoin s
  | .ibiRequest ack => Sys2Proof.Machine.execIbiRequest ack s
  | .authNonce a v => Sys2Proof.Machine.execAuthNonce a v s
  | .authGo a v => Sys2Proof.Machine.execAuthGo a v s
  | .authLogout a v => Sys2Proof.Machine.execAuthLogout a v s
  | .authIdleTimeout => Sys2Proof.Machine.execAuthIdleTimeout s
  | .flashOpen a v => Sys2Proof.Machine.execFlashOpen a v s
  | .flashClose a v => Sys2Proof.Machine.execFlashClose a v s
  | .flashRead a v => Sys2Proof.Machine.execFlashRead a v s
  | .flashProgram a v => Sys2Proof.Machine.execFlashProgram a v s
  | .flashErase4k a v => Sys2Proof.Machine.execFlashErase4k a v s
  | .flashErase64k a v => Sys2Proof.Machine.execFlashErase64k a v s
  | .flashOpComplete ok left => Sys2Proof.Machine.execFlashOpComplete ok left s
  | .jtagExtest => Sys2Proof.Machine.execExtest s
  | .jtagIdcode => Sys2Proof.Machine.execIdcode s
  | .jtagSamplePreload => Sys2Proof.Machine.execSamplePreload s
  | .jtagExtestPulse => Sys2Proof.Machine.execExtestPulse s
  | .jtagExtestTrain => Sys2Proof.Machine.execExtestTrain s
  | .jtagHighz => Sys2Proof.Machine.execHighz s
  | .jtagClamp => Sys2Proof.Machine.execClamp s
  | .jtagBypass ir => Sys2Proof.Machine.execBypass ir s
  | .comparatorResolves w k v => Sys2Proof.Machine.execComparatorResolves w k v s
  | .resultPathTaken c => Sys2Proof.Machine.execResultPathTaken c s
  | .jtagTapReset => Sys2Proof.Machine.execTapReset s
  | .domainStartUpTimer => Sys2Proof.Machine.execDomainStartUpTimer s

end Sys2Proof.Machine
end

