-- ==== Sys2Proof/Safety.lean ====
section
/-! DEFINITION. What the claims call a sound state: every sparse store in its one canonical form, one record for every unit
of the device, and no log longer than the spec lets it be. -/

namespace Sys2Proof.Machine

/-- Every sparse store is in its one canonical form, so that equal contents are equal data: the register file, the flash,
the capture memory, the archive DRAM, the token aperture, the flash page buffer and the two overlay planes. -/
def State.canonical (s : State) : Prop :=
  SMap.wf 0 s.regs = true ∧ Memory.wf 0xFF s.flash = true ∧ Memory.wf 0 s.cap.mem = true ∧ Memory.wf 0 s.arc.mem = true
    ∧ Memory.wf 0 s.sec.aperture = true ∧ Memory.wf 0 s.i3c.flashBuf = true ∧ Memory.wf 0 s.pro.ovlA = true
    ∧ Memory.wf 0 s.pro.ovlB = true

/-- One record for each host port there can be, 64, and for each of the nine lease items (R408), eight channels, 65 stamp
inputs (R155), 192 Comb cells (R310) and four DRAM subchannels (R352); 64 slots in each counter ring (R484). -/
def State.peopled (s : State) : Prop :=
  s.ports.length = 64 ∧ s.leases.length = 9 ∧ s.cal.ch.length = 8 ∧ s.cap.ch.length = 8 ∧ s.fil.length = 8
    ∧ s.trg.ch.length = 8 ∧ s.acc.length = 8 ∧ s.tdc.ins.length = 65 ∧ s.cmb.cells.length = 192 ∧ s.arc.subs.length = 4
    ∧ ∀ r ∈ [s.led.instRing, s.led.makerRing, s.led.rollbackRing, s.led.rollRing, s.led.manRing], r.slots.length = 64

/-- The rings keep their sizes: 1,024 event records (R546), 4,096 entries of the operator log (R462), 16,384 of the audit log
(R480), 256 signed manifests (R478). -/
def State.ringsFit (s : State) : Prop :=
  s.events.length ≤ 1024 ∧ s.oplog.length ≤ 4096 ∧ s.led.audit.length ≤ 16384 ∧ s.sec.signed.length ≤ 256

/-- The fields in which the event log, ATTN_N's event source and the waiting interrupts show (R546, R549, R558). -/
def logFields : List Fld :=
  [FLT.LOG.HELD, FLT.LOG.NEWEST, FLT.LOG.WRAPPED, FLT.LOG_SEQ.SEQ, I3C.ATTN.EVENT, I3C.IBI_STATUS.WAITING,
    I3C.IBI_STATUS.OVERFLOW, I3C.IBI_STATUS.SEQ]

/-- `t` differs from `s` in the register file alone, and there in the fields of `w` alone. -/
structure OnlyRegs (s t : State) (w : List Fld) : Prop where
  rest : t = { s with regs := t.regs }
  regs : ∀ f : Fld, f.key ∉ w.map Fld.key → t.rd f = s.rd f

/-- `t` differs from `s` in the fields of `w` and by events alone: records of the event log with their fields, items of streams,
interrupts that wait. -/
structure OnlyLogged (s t : State) (w : List Fld) : Prop where
  rest : t = { s with regs := t.regs, events := t.events, ports := t.ports,
                      i3c := { s.i3c with ibis := t.i3c.ibis, eventSeqs := t.i3c.eventSeqs } }
  regs : ∀ f : Fld, f.key ∉ (w ++ logFields).map Fld.key → t.rd f = s.rd f

/-- The fields in which the operator log and the audit log show (R462, R481). -/
def auditFields : List Fld := [LGR.OPLOG.NEWEST, LGR.OPLOG.WRAPPED, LGR.AUDIT.LOST, LGR.AUDIT.LOST_SAT]

/-- `t` differs from `s` in the fields of `w`, and by the record that every write access leaves: an entry of the operator log or of
the audit log, with the event of an audit log that fills. -/
structure AfterWrite (s t : State) (w : List Fld) : Prop where
  rest : t = { s with regs := t.regs, events := t.events, ports := t.ports, oplog := t.oplog, opSeq := t.opSeq,
                      led := { s.led with audit := t.led.audit, auditSeq := t.led.auditSeq },
                      i3c := { s.i3c with ibis := t.i3c.ibis, eventSeqs := t.i3c.eventSeqs } }
  regs : ∀ f : Fld, f.key ∉ (w ++ logFields ++ auditFields).map Fld.key → t.rd f = s.rd f

/-- The fields that entry into HALTED writes (R532, R549). -/
def haltFields : List Fld :=
  [FLT.REASON.CODE, FLT.REASON.DETAIL, FLT.ADDR_LO.ADDR, FLT.ADDR_HI.ADDR, FLT.HALT_TB_LO.TICKS, FLT.HALT_TB_HI.TICKS,
    I3C.IBI_STATUS.WAITING, DRM.STATE.STATE, PRO.STATUS.STATE, SYS.STATE.STATE, SYS.STATE.STEP, SYS.STATE.WAIT,
    SYS.STATE.ENTERING, FLT.STATE.HALTED, FLT.STATE.FAULT_N, DRM.SR_STATUS.ENTRIES, CLK.PLLn_STATUS.LOCKED 3,
    CLK.PLLn_STATUS.COAST 3, CLK.PLLn_STATUS.RELOCK 3, CLK.PLLn_STATUS.GATED 3]

/-- `t` is `s` after entry into HALTED for a reason, with its detail and address (R532): the reason, the address and the time are
held, FAULT_N is asserted, the DRAM and the display are put away, PLL3 is off; nothing changes but what is named. -/
structure Halts (s t : State) (reason detail addr : Nat) : Prop where
  dev : t.dev = devHalted
  code : t.rd FLT.REASON.CODE = reason % 2 ^ 16
  detail : t.rd FLT.REASON.DETAIL = detail % 2 ^ 16
  addrLo : t.rd FLT.ADDR_LO.ADDR = addr % 2 ^ 32
  addrHi : t.rd FLT.ADDR_HI.ADDR = addr / 2 ^ 32 % 2 ^ 16
  timeLo : t.rd FLT.HALT_TB_LO.TICKS = s.ticks % 2 ^ 32
  timeHi : t.rd FLT.HALT_TB_HI.TICKS = s.ticks / 2 ^ 32
  halted : t.on FLT.STATE.HALTED = true
  faultN : t.on FLT.STATE.FAULT_N = true
  dram : t.rd DRM.STATE.STATE = 6
  display : t.rd PRO.STATUS.STATE = 6
  written : t.arc.outside = [] ∧ ∀ b ∈ t.arc.subs, b.writes = []
  rest : t = { s with regs := t.regs, ports := t.ports, i3c := { s.i3c with ibis := t.i3c.ibis }, boot := { s.boot with haltAt := s.now }, events := s.haltEvents,
                      arc := { s.arc with mem := t.arc.mem, subs := t.arc.subs, outside := t.arc.outside },
                      clk := { s.clk with good := t.clk.good, broken := t.clk.broken, pll3Off := t.clk.pll3Off },
                      sec := { s.sec with signing := t.sec.signing } }
  regs : ∀ f : Fld, f.key ∉ haltFields.map Fld.key → t.rd f = s.rd f

/-- The command's next state at `s` has the property: the command completes. -/
def State.yields (s : State) (c : Instr) (P : State → Prop) : Prop := ∃ t : State, exec c s = .next t ∧ P t

/-- A write access of the word `v` to a register at `addr` is accepted (R589): a port's requests are heard, the attachment holds
CONTROL, and no test refuses what the word counts as writing. -/
structure Accepts (s : State) (a : Att) (addr v : Nat) : Prop where
  word : v < 2 ^ 32
  session : ∀ p, a = .port p → s.hears p = true
  judge : s.judge a addr v (s.written a addr v) = none

/-- Nothing is under way on channel `n`: no frame open, no event queued, no timer running, no firing and no latched edge that waits, no
accumulation. -/
def State.quiet (s : State) (n : Nat) : Prop :=
  (s.cch n).openF = none ∧ (s.cch n).liveF = none ∧ (s.tch n).queue = [] ∧ (s.tch n).det.wait = none
    ∧ (∀ x ∈ (s.tch n).timers, x.on = false) ∧ (∀ x ∈ s.tdc.ins, ∀ r ∈ x.cells, r.sent = true) ∧ s.accOn n 0 = false ∧ s.accOn n 1 = false

/-- The request that a CONTROL frame completes on port `p`, and the state in which it runs: the packet is taken, it stands next in
order, and it is whole (R388). -/
def State.atRequest (s : State) (p : Nat) (e : EthFrame) : Option (List Nat × State) := match s.receive p e with
  | (u, some k) =>
    let v := (u.renew p).takeAck p k
    if k.typ = 3 ∧ k.seq = (v.port p).rxSeq ∧ k.flags.testBit 1 = true ∧ k.flags.testBit 2 = true then
      some (k.payload, v.modPort p (fun q => { q with rxSeq := (q.rxSeq + 1) % 2 ^ 32, partialReq := [] }))
    else none
  | _ => none

/-- The newest response that waits on stream 0 of port `p` answers the request with the status (R401). -/
def State.answers (t : State) (p : Nat) (req : List Nat) (status : Nat) : Prop :=
  ∃ x i rest, t.strm? p 0 = some x ∧ x.queue.getLast? = some i
    ∧ i.body = .bytes ([req.getD 0 0, 0] ++ slice req 2 2 ++ [status, 0] ++ rest)

/-- A sound state. -/
def State.sound (s : State) : Prop := s.canonical ∧ s.peopled ∧ s.ringsFit

end Sys2Proof.Machine

/-- The rows of power-on, RESET_N and brown-out (R517, R575, R576). -/
def Sys2Proof.Instr.isReset : Instr → Bool
  | .powerOn .. | .resetRecognised | .resetRelease .. | .brownOut => true
  | _ => false

/-- The rows that may change the owner, the host keys, the token counters, the rollback counter, the image in force, the flash or
the audit entries held: resets and start-up, tokens, adoption, and flash operations. -/
def Sys2Proof.Instr.mayTouchTrust : Instr → Bool
  | .powerOn .. | .resetRecognised | .resetRelease .. | .brownOut | .startUp .. | .flashOpComplete .. | .tokKeyPass _ | .tokAdopt _
  | .tokEnrol _ | .tokRevoke _ | .tokAuditAck _ | .tokRelease _ | .tokService _ | .tokServiceEnd _ | .adoptionRereadDone .. => true
  | _ => false
end

