-- ==== Sys2Proof/Certificates/Slice0/Obligations.lean ====
section
/-! DEFINITION. The statements for the provers: what the rules of spec/ say the device does. -/

open Sys2Proof Sys2Proof.Machine

/-! ### The step -/

/-- A step takes the command at the front of the queue and runs it with the rest waiting. -/
def Obligations.StepRunsFront : Prop :=
  ∀ (s : State) (c : Instr) (rest : List Instr), s.pending = c :: rest → step s = exec c { s with pending := rest }

/-- On an empty queue one TB tick goes by (the model's choice, notes/assumptions/5.md): TB counts it while its clock runs. Where no marker
record, no unit stop, no commit pulse and no channel waits for that tick, only the clock record, the holdover count and its saturation and
state bits may change besides. Where unit stops alone wait, those whose edges then lie 100 ticks back with no earlier start edge of their
unit unconverted, and no earlier stop of their input before them, are judged and wait no more (R174, and for the starts
notes/assumptions/100.md). A channel whose stop has left nothing behind reaches STOPPED, and with the last of the roll the roll ends with
its cause (R229, R239; that a stop is shown so is the model's choice, notes/assumptions/106.md). -/
def Obligations.EmptyQueueTicks : Prop :=
  ∀ s : State, s.pending = [] → ∃ t, step s = .next t ∧ t.now = s.now + 1
    ∧ (s.tdc.marks = [] → s.trg.commits = [] → (∀ n, (s.cch n).stopAt = none) →
        (s.tdc.stops = [] →
          (s.dev ≠ devDark → s.clk.waking = false → t.tb = if s.clk.tbRuns then (s.tb + 65536) % 2 ^ 80 else s.tb)
          ∧ OnlyRegs { s with now := t.now, tb := t.tb, clk := t.clk } t [TB.HOLDOVER.MS, TB.HOLDOVER.SAT, TB.STATE.TB_STATE])
        ∧ t.tdc.stops = s.tdc.stops.filter (fun x => s.tdc.stops.any (fun y => y.input == x.input && decide (y.edge ≤ x.edge)
            && !(decide (y.edge + 100 ≤ s.now + 1) && (match y.unit with
                | none => true
                | some u => (s.tin u.start).cells.all (fun r => decide (y.edge < r.edge)))))))
    ∧ (let u := s.tick.mergeMark.settleStops.commitPulses.presentDue.numberDue
       s.up = true →
        (∀ n ∈ u.leads, (u.cch n).alone = true → u.stopReady n = true → u.quiet n →
          t.rd (CAP.CHn_STATUS.STATE n) = chStopped ∧ t.on (CAP.CHn_STATUS.IN_ROLL n) = false)
        ∧ (∀ c, u.cap.endNext = some c → c < 8 → u.inRoll ≠ [] → u.on CAP.ROLL_STATUS.OPEN = true →
            (∀ n ∈ u.inRoll, u.stopReady n = true ∧ u.quiet n) → (∀ n, (u.cch n).alone = false) →
            t.on CAP.ROLL_STATUS.OPEN = false ∧ t.rd CAP.ROLL_STATUS.LAST_END = c ∧ t.cap.rollEndAt = t.now))

/-- Right after reset no command waits, the device is in START, and every field of every register holds its reset value. -/
def Obligations.ResetValues : Prop :=
  State.reset.pending = [] ∧ State.reset.dev = devStart ∧
    ∀ addr fs, regFields addr = some fs → ∀ f ∈ fs, State.reset.rd f = f.reset

/-- The state after reset is sound. -/
def Obligations.ResetSound : Prop := State.reset.sound

/-- Every step keeps a sound state sound: canonical stores, one record for each unit, logs no longer than the spec lets them be. -/
def Obligations.StepKeepsSound : Prop := ∀ s t : State, s.sound → step s = .next t → t.sound

/-- Every command in every state completes in a next state, leaves the commands that wait alone and takes no time. -/
def Obligations.EveryCommandCompletes : Prop :=
  ∀ (c : Instr) (s : State), ∃ t, exec c s = .next t ∧ t.pending = s.pending ∧ t.now = s.now

/-- HALTED is left by a power cycle, RESET_N or a brown-out alone. -/
def Obligations.HaltedLeftByResetAlone : Prop :=
  ∀ (c : Instr) (s t : State), s.dev = devHalted → c.isReset = false → exec c s = .next t → t.dev = devHalted

/-- Apart from resets, tokens, adoption and flash operations, no command changes the owner, the host keys, the token counters, the
rollback counter, the image in force or the flash, and none takes an entry from the audit log or changes one. -/
def Obligations.TrustIsolated : Prop :=
  ∀ (c : Instr) (s t : State), c.mayTouchTrust = false → exec c s = .next t →
    t.led.owner = s.led.owner ∧ t.led.hosts = s.led.hosts ∧ t.led.instCnt = s.led.instCnt ∧ t.led.makerCnt = s.led.makerCnt
      ∧ t.led.rollback = s.led.rollback ∧ t.image = s.image ∧ t.flash = s.flash ∧ s.led.audit <:+ t.led.audit

/-! ### Register writes -/

/-- No two fields of a register share a bit, none passes bit 31, and every field lies at its register's address. -/
def Obligations.FieldsDoNotOverlap : Prop :=
  ∀ addr fs, regFields addr = some fs →
    (∀ f ∈ fs, f.addr = addr ∧ 0 < f.width ∧ f.lo + f.width ≤ 32 ∧ f.reset < 2 ^ f.width) ∧
    fs.Pairwise (fun f g => f.lo + f.width ≤ g.lo ∨ g.lo + g.width ≤ f.lo)


/-! ### Commands to the clocks and the time base -/

/-- COMMIT takes the frequency of PLL1 as it is written and makes PENDING read 1; arming TB_SET makes ARM read 1 and a word without ARM makes it read 0; nothing else changes but the
attachment that armed and the cause of a refused arm. A read of TB.NOW_LO that an attachment may make latches the whole TB time into
the three NOW registers and changes nothing else. -/
def Obligations.ClockCommandsAct : Prop :=
  ∀ (s : State) (a : Att) (v : Nat),
    (Accepts s a CLK.CTL.COMMIT.addr v → v.testBit 0 = true →
      s.yields (.clkCommit a v) (fun t => t.on CLK.CTL.PENDING = true
        ∧ AfterWrite { s with clk := { s.clk with freqNext := some (s.rd (CLK.PLLn_FREQ.FREQ_KHZ 1)) } } t [CLK.CTL.PENDING])) ∧
    (Accepts s a TB.SET_CTL.ARM.addr v → v.testBit 0 = true →
      s.yields (.tbSetArm a v) (fun t => t.on TB.SET_CTL.ARM = true
        ∧ AfterWrite { s with clk := { s.clk with setBy := t.clk.setBy } } t [TB.SET_CTL.ARM, TB.SET_CTL.REFUSED])) ∧
    (Accepts s a TB.SET_CTL.ARM.addr v → v.testBit 0 = false →
      s.yields (.tbSetDisarm a v) (fun t => t.on TB.SET_CTL.ARM = false ∧ AfterWrite s t [TB.SET_CTL.ARM])) ∧
    ((∀ p, a = .port p → s.hears p = true ∧ (s.port p).rights.testBit 1 = true) → s.yields (.tbNowRead a) (fun t =>
      t.rd TB.NOW_LO.TICKS = s.tb / 2 ^ 16 % 2 ^ 32 ∧ t.rd TB.NOW_HI.TICKS = s.tb / 2 ^ 48 % 2 ^ 32 ∧ t.rd TB.NOW_FRAC.FRAC = s.tb % 2 ^ 16
        ∧ OnlyRegs s t [TB.NOW_LO.TICKS, TB.NOW_HI.TICKS, TB.NOW_FRAC.FRAC]))


/-! ### Commands to the converters, calibration, the trigger and the stamp inputs -/

/-- Accepted words to the converter and calibration registers: a range commit waits for its boundary, or falls away where the range
is the one in force; a mode waits for the change; a pass falls due with cause 3 where none is due or running; a range check begins; a
certified value enters the history, waits for every channel, and clears COMMIT. -/
def Obligations.ConverterCommandsAct : Prop :=
  ∀ (s : State) (a : Att) (n v : Nat), s.sound → n < 8 →
    (Accepts s a (ADC.CTL.COMMIT n).addr v → v.testBit 0 = true →
      s.yields (.adcCommit a n v) (fun t =>
        let r := s.rd (ADC.RANGE.CODE n)
        let now := r == s.rd (ADC.RANGE.ACTIVE n)
        t.on (ADC.RANGE.PENDING n) = !now
          ∧ AfterWrite (s.modCap n (fun c => { c with rangeNext := if now then none else some r })) t [ADC.RANGE.PENDING n])) ∧
    (Accepts s a ADC.MODE.MODE.addr v → v % 2 ^ ADC.MODE.MODE.width ≠ s.view a ADC.MODE.MODE →
      s.yields (.modeWrite a v) (fun t => t.rd ADC.MODE.MODE = v % 2 ^ ADC.MODE.MODE.width
        ∧ AfterWrite { s with cal := { s.cal with modeNext := some (v % 2 ^ ADC.MODE.MODE.width) } } t [ADC.MODE.MODE])) ∧
    (Accepts s a CAL.CTL.PASS_REQ.addr v → v < 256 → v.testBit n = true → s.rd (CAL.STATE.PASS n) = 0 →
      s.yields (.calPassReq a v) (fun t => t.rd (CAL.STATE.PASS n) = 1 ∧ t.rd (CAL.STATE.CAUSE n) = 3 ∧ (t.calCh n).cause = 3
        ∧ AfterWrite { s with cal := t.cal } t ((List.range 8).flatMap (fun m => [CAL.STATE.PASS m, CAL.STATE.CAUSE m])))) ∧
    (Accepts s a CAL.CTL.RANGE_CHECK.addr v → s.isLead n = true → v = 256 * 2 ^ n →
      s.yields (.rangeCheckReq a v) (fun t => (t.calCh n).rangeRun = some (0, 0)
        ∧ AfterWrite { s with cal := t.cal } t [CAL.REF.SENSE_UV, CAL.REF.OK, CAL.DEFERS.COUNT, CAL.DEFERS.SAT])) ∧
    (Accepts s a CAL.CERT_CTL.COMMIT.addr v → v = 1 → s.on CAL.CERT_CTL.COMMIT = false →
      s.yields (.certCommit a v) (fun t =>
        let index := match s.led.certs with | x :: _ => x.index + 1 | [] => 0
        (∃ e : CertEntry, t.led.certs = (e :: s.led.certs).take 256 ∧ e.index = index ∧ e.value = s.rd CAL.CERT_VALUE.NV
            ∧ e.unc = s.rd CAL.CERT_UNC.NV ∧ e.k = s.rd CAL.CERT_META.K ∧ e.certId = s.rd CAL.CERT_META.CERT_ID ∧ e.tb = s.ticks
            ∧ e.role = (s.role a).code ∧ e.waiting = 255)
          ∧ t.rd CAL.CERT_STATUS.INDEX = index % 256 ∧ t.rd CAL.CERT_STATUS.WAITING = 255 ∧ t.on CAL.CERT_CTL.COMMIT = false
          ∧ AfterWrite { s with led := { s.led with certs := t.led.certs } } t
              [CAL.CERT_CTL.COMMIT, CAL.CERT_STATUS.INDEX, CAL.CERT_STATUS.WAITING]))

/-- Accepted words with one command of TRG.CHn_CTL act on the lead of the channel's group: COMMIT makes the requested values wait,
REARM ends a holdoff of kind 3 at this tick and no other, and is held for a trigger not yet evaluated (R196), FORCE and CMD put one event of this tick into the sequencer's queue where it
listens, with the source of the attachment. A word that changes TRGOUT k's setting is held, ends a pulse in progress and keeps the output low for a tick (R208, R541); LEARN
starts a curve run with nothing collected (R204). -/
def Obligations.TriggerCommandsAct : Prop :=
  (∀ (s : State) (a : Att) (n v : Nat), Accepts s a (TRG.CHn_CTL.COMMIT n).addr v → n < 8 →
    let m := s.lead n
    let source := match a with | .i3c => 45 | .port _ => 46
    (v = 1 → s.yields (.trgCommit a n v) (fun t => t.on (TRG.CHn_STATUS.PENDING m) = true
      ∧ AfterWrite (s.modTrg m (fun c => { c with committed := some (s.trgRequested m) })) t [TRG.CHn_STATUS.PENDING m])) ∧
    (v = 2 → (s.tch m).hold.kind = 3 → s.on (TRG.CHn_STATUS.HOLDOFF m) = true →
      s.yields (.trgRearm a n v) (fun t => t.on (TRG.CHn_STATUS.HOLDOFF m) = false
        ∧ (t.tch m).rearms.head? = some (s.ticks * 65536)
        ∧ AfterWrite (s.modTrg m (fun c => { c with
            rearms := (t.tch m).rearms, hold := { c.hold with until_ := some (s.ticks * 65536) } })) t [TRG.CHn_STATUS.HOLDOFF m])) ∧
    (v = 2 → (s.tch m).hold.kind ≠ 3 ∨ s.on (TRG.CHn_STATUS.HOLDOFF m) = false →
      s.yields (.trgRearm a n v) (fun t => (t.tch m).rearms.head? = some (s.ticks * 65536)
        ∧ AfterWrite (s.modTrg m (fun c => { c with rearms := (t.tch m).rearms })) t [])) ∧
    (v = 4 → s.isLead m = true → s.listens m = true → (s.tch m).since ≤ s.ticks * 65536 → s.beforeStop m (s.ticks * 65536) = true →
      s.yields (.trgForce a n v) (AfterWrite (s.modTrg m (fun c =>
        { c with queue := insertEvent { time := s.ticks * 65536, src := source, force := true } c.queue })) · [])) ∧
    (v = 8 → s.isLead m = true → s.listens m = true → (s.tch m).since ≤ s.ticks * 65536 → s.beforeStop m (s.ticks * 65536) = true →
      s.yields (.trgCmd a n v) (AfterWrite (s.modTrg m (fun c =>
        { c with queue := insertEvent { time := s.ticks * 65536, src := source } c.queue })) · [])) ∧
    (v = 4 → s.listens m = false → s.yields (.trgForce a n v) (AfterWrite s · [])) ∧
    (v = 8 → s.listens m = false → s.yields (.trgCmd a n v) (AfterWrite s · []))) ∧
  (∀ (s : State) (a : Att) (k v : Nat),
    (k < 4 → Accepts s a (TRG.OUTk_CTL.SOURCE k).addr v → s.written a (TRG.OUTk_CTL.SOURCE k).addr v ≠ [] →
      s.yields (.trgoutCtlWrite a k v) (fun t => t.rd (TRG.OUTk_CTL.SOURCE k) = v % 8 ∧ t.rd (TRG.OUTk_CTL.INDEX k) = v / 2 ^ 8 % 32
        ∧ t.rd (TRG.OUTk_CTL.INVERT k) = v / 2 ^ 13 % 2 ∧ t.rd (TRG.OUTk_CTL.WIDTH k) = v / 2 ^ 16 % 256
        ∧ AfterWrite { s with trg := { s.trg with pulse := s.trg.pulse.set k [], lowUntil := s.trg.lowUntil.set k (s.ticks + 2) } } t
            [TRG.OUTk_CTL.SOURCE k, TRG.OUTk_CTL.INDEX k, TRG.OUTk_CTL.INVERT k, TRG.OUTk_CTL.WIDTH k])) ∧
    (Accepts s a TRG.CURVE_CTL.LEARN.addr v → v.testBit 0 = true → s.on TRG.CURVE_CTL.LEARN = false →
      s.yields (.trgCurveLearn a v) (fun t => t.on TRG.CURVE_CTL.LEARN = true ∧ t.rd TRG.CURVE_STATUS.COLLECTED = 0
        ∧ t.rd TRG.CURVE_STATUS.STATUS = 1 ∧ t.rd TRG.CURVE_CTL.CHANNEL = v / 16 % 8
        ∧ AfterWrite { s with trg := { s.trg with hist := [] } } t
            [TRG.CURVE_CTL.LEARN, TRG.CURVE_CTL.CHANNEL, TRG.CURVE_STATUS.COLLECTED, TRG.CURVE_STATUS.STATUS])))

/-- Accepted words to the stamp inputs: EDGE and the other fields of the word hold their new values; an input switched on disarms TB_SET
(R140); its queue and its latched edges stay, so an input set to OFF completes them (R157). GO starts a test of the input named, or of
all 65; until it completes their stamps carry METHOD (R165, R168). -/
def Obligations.StampCommandsAct : Prop :=
  ∀ (s : State) (a : Att) (i v : Nat),
    (i < 64 → Accepts s a (TDC.INi_CTL.EDGE i).addr v →
      s.yields (.edgeSelect a i v) (fun t => t.rd (TDC.INi_CTL.EDGE i) = v % 4
        ∧ (v % 4 ≠ 0 → v % 4 ≠ s.rd (TDC.INi_CTL.EDGE i) → t.on TB.SET_CTL.ARM = false)
        ∧ AfterWrite s t [TDC.INi_CTL.EDGE i, TDC.INi_CTL.DARK_STAMP i, TDC.INi_CTL.KEEP_REJECTED i, TDC.INi_CTL.DELAY i,
            TB.SET_CTL.ARM, TB.SET_CTL.REFUSED])) ∧
    (Accepts s a TDC.TEST.GO.addr v → v.testBit 8 = true → v % 128 < 65 →
      s.yields (.curveTestGo a v) (fun t =>
        let inputs := if v.testBit 7 then List.range 65 else [v % 128]
        t.on TDC.TEST.BUSY = true ∧ (∀ j ∈ inputs, t.on (TDC.INi_STATUS.TESTING j) = true ∧ t.on (TDC.INi_STATUS.METHOD j) = true)
          ∧ AfterWrite { s with tdc := { s.tdc with testing := inputs, testFailed := false } } t
              ([TDC.TEST.INPUT, TDC.TEST.ALL, TDC.TEST.BUSY] ++ inputs.flatMap (fun j =>
                [TDC.INi_STATUS.TESTING j, TDC.INi_STATUS.VERNIER_OK j, TDC.INi_STATUS.METHOD j]))))


/-! ### Commands to capture and accumulation -/

/-- START in IDLE, where no roll is open and nothing makes it wait, opens a roll and puts every STOPPED channel it names into PRIMING;
STOP gives a channel of the roll its boundary, the next slice clock, leaves every state and every other channel as they are, and takes
the events from that boundary on away (R239, R244); the empty queue's ticks bring it to STOPPED. A channel in the gap of a continuous roll
is STOPPED at once. ABORT gives every channel of the open roll its boundary, and the roll cause 5 to end with (R227, R229). RELEASE gives up a complete frame: with no reader left its entry reads released, with readers it
waits for them (R222, R244). LOW_RESET puts the pages free now into LOW_WATER (R246). -/
def Obligations.CaptureCommandsAct : Prop :=
  (∀ (s : State) (a : Att) (v : Nat), s.sound → Accepts s a CAP.CTL.START.addr v →
    (v < 256 → s.dev = devIdle → s.on CAP.ROLL_STATUS.OPEN = false → s.cap.heldStart = 0 → s.cap.nextChannels = 0 →
      (∀ n, (s.cch n).stopAt = none) → s.prf.resumeAt = none → s.prf.adopting ≠ 2 → s.modeBusy = false → s.tableFree = true →
      s.pagesNeeded ((s.leadsOf v).filter (fun n => s.chState n = chStopped)) ≤ s.freePages →
      (s.cap.rolled = true → s.cap.rollStart + ticksOfUs 4 ≤ s.now) →
      (s.leadsOf v).filter (fun n => s.chState n = chStopped) ≠ [] →
      s.yields (.capStart a v) (fun t => t.on CAP.ROLL_STATUS.OPEN = true ∧ t.dev = devActive ∧ t.cap.rollStart = s.now
        ∧ ∀ n ∈ s.leadsOf v, s.chState n = chStopped → t.rd (CAP.CHn_STATUS.STATE n) = chPriming
            ∧ t.on (CAP.CHn_STATUS.IN_ROLL n) = true ∧ (t.cch n).invalid = 8192)) ∧
    (let edge := fun (n : Nat) =>
       let p := if s.on ADC.SCLK.OK then ceilDiv (s.cch n).pos s.posPerSc * s.posPerSc else (s.cch n).pos
       (p, s.posTime p)
     (∀ n, v = 256 * 2 ^ n → s.isLead n = true → s.on (CAP.CHn_STATUS.IN_ROLL n) = true → s.on CAP.ROLL_STATUS.OPEN = true →
        (s.cch n).stopAt = none → s.cap.ending = none → s.cap.noPage = false →
        s.yields (.capStop a v) (fun t => (t.cch n).stopAt = some (edge n) ∧ (t.cch n).alone = true
          ∧ (t.tch n).queue = (s.tch n).queue.filter (fun e => decide (e.time < (edge n).2))
          ∧ (∀ m, m < 8 → t.rd (CAP.CHn_STATUS.STATE m) = s.rd (CAP.CHn_STATUS.STATE m)
              ∧ t.on (CAP.CHn_STATUS.IN_ROLL m) = s.on (CAP.CHn_STATUS.IN_ROLL m))
          ∧ ∀ m, m ≠ n → t.cch m = s.cch m ∧ t.tch m = s.tch m)) ∧
     (∀ n, v = 256 * 2 ^ n → s.isLead n = true → s.on (CAP.CHn_STATUS.IN_ROLL n) = false → s.chState n ≠ chStopped → s.quiet n →
        s.cap.ending = none → s.cap.noPage = false →
        s.yields (.capStop a v) (fun t => t.rd (CAP.CHn_STATUS.STATE n) = chStopped
          ∧ ∀ m, m < 8 → m ≠ n → t.rd (CAP.CHn_STATUS.STATE m) = s.rd (CAP.CHn_STATUS.STATE m))) ∧
     (v = 2 ^ 16 → s.on CAP.ROLL_STATUS.OPEN = true → s.rollEnding = false →
        s.yields (.capAbort a v) (fun t => t.cap.endNext = some 5 ∧ t.on CAP.ROLL_STATUS.OPEN = true
          ∧ (∀ n ∈ s.inRoll, (t.cch n).stopAt = ((s.cch n).stopAt).or (some (edge n)))
          ∧ ∀ m, m < 8 → t.rd (CAP.CHn_STATUS.STATE m) = s.rd (CAP.CHn_STATUS.STATE m)
              ∧ t.on (CAP.CHn_STATUS.IN_ROLL m) = s.on (CAP.CHn_STATUS.IN_ROLL m))))) ∧
  (∀ (s : State) (a : Att) (v : Nat),
    (∀ f, Accepts s a CAP.RELEASE.FRAME.addr v → v < 2 ^ 20 → (s.table s.curTable)[v]? = some f →
      s.yields (.capRelease a v) (fun t => ∃ g, (t.table s.curTable)[v]? = some g ∧ g.retain = false
        ∧ g.state = (if f.holders = [] then 3 else 2) ∧ g.holders = f.holders ∧ g.header = f.header
        ∧ ∀ i, i ≠ v → (t.table s.curTable)[i]? = (s.table s.curTable)[i]?)) ∧
    (Accepts s a CAP.POOL_WARN.LEVEL.addr v → v.testBit 31 = true →
      s.yields (.poolLowReset a v) (fun t => t.rd CAP.POOL_WARN.LOW_WATER = s.freePages % 2 ^ 13
        ∧ t.rd CAP.POOL_WARN.LEVEL = v % 2 ^ 13
        ∧ AfterWrite { s with cap := { s.cap with lowArmed := t.cap.lowArmed } } t [CAP.POOL_WARN.LEVEL, CAP.POOL_WARN.LOW_WATER])))

/-- A word with one command of ACC.CHn_CTL. While a frame is open the request waits for its close, which is marked in the frame, and
nothing else changes. With no frame open, and none that is still to be taken, it acts at once: SNAP begins the copy of a stack or map that
holds frames, or has frames to merge, where that kind adds, none is being copied and its area is free; CLEAR empties a stack or map of
which no snapshot waits (R289, R298, R299, R303). -/
def Obligations.AccumulationCommandsAct : Prop :=
  ∀ (s : State) (a : Att) (n v : Nat), s.sound → n < 8 → Accepts s a (ACC.CHn_CTL.SNAP_STK n).addr v →
    let sn := fun (kind : Nat) => (s.ach n).snap kind
    let waits := fun (c : Instr) (kind : Nat) (f : SnapSt → SnapSt) => (s.cch n).openF.isSome = true →
      s.yields c (AfterWrite ((s.modAcc n (fun x => x.modSnap kind f)).modCap n (fun x =>
        { x with openF := x.openF.map (fun g => { g with bound := true }) })) · [])
    let snap := fun (kind : Nat) (y : SnapSt) => { y with pending := y.pending || !y.copying && s.accOn n kind }
    let free := fun (kind : Nat) => s.up = true ∧ (s.cch n).openF = none ∧ s.untaken n = false ∧ (sn kind).copying = false
    (v = 1 → waits (.accSnapStk a n v) 0 (snap 0) ∧
      (free 0 → s.accOn n 0 = true → ((s.ach n).stk.any = true ∨ (s.ach n).wait ≠ []) → (sn 0).held = false →
        s.yields (.accSnapStk a n v) (fun t => (t.ach n).stkSnap.copying = true ∧ (t.ach n).stkSnap.pending = false
          ∧ t.view a (ACC.CHn_STK_STATUS.STATE n) = 2))) ∧
    (v = 2 → waits (.accSnapMap a n v) 1 (snap 1) ∧
      (free 1 → s.accOn n 1 = true → (s.ach n).map.any = true → (sn 1).held = false →
        s.yields (.accSnapMap a n v) (fun t => (t.ach n).mapSnap.copying = true ∧ (t.ach n).mapSnap.pending = false))) ∧
    (v = 4 → waits (.accClearStk a n v) 0 (fun y => { y with clear := true }) ∧
      (free 0 → (sn 0).pending = false → (sn 0).waiting = false →
        s.yields (.accClearStk a n v) (fun t => (t.ach n).sum = [] ∧ (t.ach n).sq = [] ∧ (t.ach n).stk = {} ∧ (t.ach n).wait = []
          ∧ t.rd (ACC.CHn_STK_STATUS.FRAMES n) = 0 ∧ t.on (ACC.CHn_SNAP_STK.VALID n) = false))) ∧
    (v = 8 → waits (.accClearMap a n v) 1 (fun y => { y with clear := true }) ∧
      (free 1 → (sn 1).pending = false → (sn 1).waiting = false →
        s.yields (.accClearMap a n v) (fun t => (t.ach n).tiles = [] ∧ (t.ach n).master = [] ∧ (t.ach n).map = {}
          ∧ t.rd (ACC.CHn_MAP_STATUS.FRAMES n) = 0 ∧ t.on (ACC.CHn_SNAP_MAP.VALID n) = false)))


/-! ### Commands to the Comb and to the archive -/

/-- Accepted words to the Comb's command registers (R340). LOAD begins the load of a program, RUN starts a cell, UNLOAD empties it;
HALT halts a cell with no DMA outstanding, and one that has outstanding requests stops with the last, for the cause first given (R342); a group command starts or halts every cell it names.
Only the named cells, their state and the counts of states change. -/
def Obligations.CombCommandsAct : Prop :=
  ∀ (s : State) (a : Att) (c v : Nat), s.sound → c < 192 →
    let shown := [CMB.STATUS.RUNNING, CMB.STATUS.WAITING, CMB.STATUS.TRAPPED, CMB.STATUS.HALTED, CMB.CELLc.STATE c, CMB.CELLc.LOADED c,
      CMB.CELLc.TRAP c, CMB.SUPn_EST.STATE (c / 24)]
    (Accepts s a (CMB.CELLc.CMD c).addr v →
      (v / 256 = 1 → s.yields (.cmbLoad a c v) (fun t => t.cellState c = cellLoading
        ∧ AfterWrite (s.modCell c (fun x => { x with loading := some (v % 256) })) t shown)) ∧
      (v / 256 = 2 → (∀ b ∈ (s.cell c).binds, b.kind ≠ 3) → s.yields (.cmbRun a c v) (fun t =>
        t.cellState c = (if c % 24 = 23 then cellReserved else cellRunning)
          ∧ AfterWrite (s.modCell c (fun x => { x with started := true })) t shown)) ∧
      (v / 256 = 3 → (s.cell c).dma = [] → (s.cell c).rec_ = none → (s.cell c).binds = [] → s.yields (.cmbHalt a c v) (fun t =>
        t.cellState c = cellHalted
          ∧ AfterWrite (s.modCell c (fun x => { x with stop := none, inClose := false, stalled := false })) t shown)) ∧
      (v / 256 = 3 → (s.cell c).dma ≠ [] → s.yields (.cmbHalt a c v) (fun t =>
        AfterWrite (s.modCell c (fun x => { x with stop := some (x.stop.getD 0) })) t [])) ∧
      (v / 256 = 4 → s.yields (.cmbUnload a c v) (fun t => t.cellState c = cellEmpty ∧ t.rd (CMB.CELLc.LOADED c) = 0xFF
        ∧ t.rd (CMB.CELLc.TRAP c) = 0 ∧ t.cell c = { closed := (s.cell c).closed }
        ∧ AfterWrite { s with cmb := { s.cmb with cells := t.cmb.cells, groups := t.cmb.groups } } t shown))) ∧
    (Accepts s a CMB.CTL.CMD.addr v → c ∈ groupCells (v % 2 ^ 23) (v / 2 ^ 24 % 8) →
      (v / 2 ^ 28 = 1 → (∀ k ∈ groupCells (v % 2 ^ 23) (v / 2 ^ 24 % 8), (s.cell k).binds = []) →
        s.yields (.cmbGroupRun a v) (fun t => t.cellState c = cellRunning ∧ (t.cell c).started = true
          ∧ ∀ k, k < 192 → k ∉ groupCells (v % 2 ^ 23) (v / 2 ^ 24 % 8) → t.cell k = s.cell k ∧ t.cellState k = s.cellState k)) ∧
      (v / 2 ^ 28 = 2 → (∀ k ∈ groupCells (v % 2 ^ 23) (v / 2 ^ 24 % 8), (s.cell k).dma = [] ∧ (s.cell k).binds = []) →
        s.yields (.cmbGroupHalt a v) (fun t => t.cellState c = cellHalted ∧ (t.cell c).rec_ = none
          ∧ ∀ k, k < 192 → k ∉ groupCells (v % 2 ^ 23) (v / 2 ^ 24 % 8) → t.cell k = s.cell k ∧ t.cellState k = s.cellState k)))

/-- Words written through the window: a parameter word of the selected cell takes the low 24 bits (R341), a word of the overlay its
four bytes in the plane that is not shown, where the plane has them, and is a request for the DRAM (R355, R447). Nothing else changes but
the record of the write. -/
def Obligations.WindowWritesStore : Prop :=
  ∀ (s : State) (a : Att) (v : Nat), s.sound → v < 2 ^ 32 → (∀ p, a = .port p → s.hears p = true) →
    (∀ w, w < 64 → (s.window a).1 = 9 → (s.window a).2.2 = 0 → s.regionStatus a (4 * w) v = 0 →
      s.yields (.parameterWrite a w v) (fun t => AfterWrite (s.modCell (s.rd CMB.VIEW.CELL) (fun x =>
        { x with x := SMap.set 0 x.x w (v % 2 ^ 24) })) t [])) ∧
    (∀ addr, addr % 4 = 0 → 0x8000 ≤ addr → addr < 0x10000 → (s.window a).1 = 11 →
      let off := (s.window a).2.2 * 32768 + (addr - 0x8000)
      s.regionStatus a off v = 0 →
      s.yields (.overlayWrite a addr v) (fun t =>
        let plane := fun (u : State) => if s.rd PRO.OVL.WRITE = 0 then u.pro.ovlA else u.pro.ovlB
        (∀ i, i < 4 → off + i < s.overlayBytes → (Memory.byte 0 (plane t) (off + i)) = v / 256 ^ i % 256)
          ∧ (∀ x, x < off ∨ off + 4 ≤ x → Memory.byte 0 (plane t) x = Memory.byte 0 (plane s) x)
          ∧ AfterWrite { s.displayAsks with pro := if s.rd PRO.OVL.WRITE = 0 then { s.pro with ovlA := t.pro.ovlA }
                                       else { s.pro with ovlB := t.pro.ovlB } } t []))

/-- Accepted words to the archive's registers. With no record under a claim, TRIM discards every valid record up to the number: those at
the oldest end leave the ring, behind an older record one stays discarded; newer valid records stand (R374). A new grain or region empties the archive (R354, R375). -/
def Obligations.ArchiveCommandsAct : Prop :=
  ∀ (s : State) (a : Att) (v : Nat),
    (Accepts s a DRM.ARCH_TRIM.RECORD.addr v → (∀ r ∈ s.arc.recs, r.claims = []) → (s.arc.recs.map ArcRec.number).Nodup →
      s.yields (.archTrim a v) (fun t => t.arc.fullSeen = false
        ∧ (∀ r ∈ t.arc.recs, r.state = 1 → newer r.number v = true ∧ r ∈ s.arc.recs)
        ∧ (∀ r ∈ s.arc.recs, newer r.number v = true → r.state = 1 → r ∈ t.arc.recs)
        ∧ (∀ r ∈ t.arc.recs, r.state ≠ 2) ∧ (∀ r ∈ t.arc.recs.head?, r.state ≠ 3))) ∧
    (Accepts s a DRM.MAP.GRAIN.addr v → v % 2 ^ DRM.MAP.GRAIN.width ≠ s.rd DRM.MAP.GRAIN → 0 < s.rd DRM.ARCH_SIZE.PAGES →
      s.yields (.grainWrite a v) (fun t => t.rd DRM.MAP.GRAIN = v % 2 ^ DRM.MAP.GRAIN.width ∧ t.arc.recs = [] ∧ t.arc.waiting = []
        ∧ t.arc.fifo = [] ∧ t.arc.job = none ∧ t.rd DRM.ARCH_HEAD.RECORD = 0 ∧ t.rd DRM.ARCH_TAIL.RECORD = 0
        ∧ t.on DRM.ARCH_STATUS.FULL = false
        ∧ AfterWrite { s with arc := t.arc } t [DRM.MAP.GRAIN, DRM.ARCH_HEAD.RECORD, DRM.ARCH_TAIL.RECORD, DRM.ARCH_STATUS.FULL,
            DRM.ARCH_STATUS.USED, DRM.ARCH_STATUS.STAGING])) ∧
    (∀ k f, [DRM.ARCH_CFG.IDX_PAGES, DRM.ARCH_BASE.PAGES, DRM.ARCH_SIZE.PAGES][k]? = some f → Accepts s a f.addr v →
      v % 2 ^ f.width ≠ s.rd f →
      s.yields (.archRegionWrite a k v) (fun t => t.rd f = v % 2 ^ f.width ∧ t.arc.recs = [] ∧ t.arc.waiting = [] ∧ t.arc.fifo = []
        ∧ t.rd DRM.ARCH_HEAD.RECORD = 0 ∧ t.rd DRM.ARCH_TAIL.RECORD = 0 ∧ t.on DRM.ARCH_STATUS.FULL = false))


/-! ### Commands to the ports, the windows and the monitor converter -/

/-- Accepted words to the port registers. EN = 0 drops the link and the open session of the port; REOPEN opens a closed port and
forgets its attempts; a group whose MODE changes drops the links and the open sessions of its four ports; VIEW.CLEAR zeroes the
counters of the port that the word names (R381, R402, R412, R417). -/
def Obligations.PortCommandsAct : Prop :=
  ∀ (s : State) (a : Att) (p v : Nat), s.sound →
    (p < 64 → Accepts s a (HPT.Pp_CTL.EN p).addr v → v % 8 = 0 → s.on (HPT.Pp_CTL.EN p) = true →
      s.yields (.portEnWrite a p v) (fun t => t.on (HPT.Pp_CTL.EN p) = false ∧ t.on (HPT.Pp_STATUS.LINK p) = false
        ∧ t.session p = (if s.session p = sesOpen then sesAbsent else s.session p)
        ∧ ∀ q, q < 64 → q ≠ p → t.session q = s.session q ∧ t.on (HPT.Pp_STATUS.LINK q) = s.on (HPT.Pp_STATUS.LINK q))) ∧
    (p < 64 → Accepts s a (HPT.Pp_CTL.EN p).addr v → v % 8 = 1 → s.yields (.portEnWrite a p v) (fun t =>
      t.on (HPT.Pp_CTL.EN p) = true ∧ AfterWrite s t [HPT.Pp_CTL.EN p, HPT.Pp_CTL.JUMBO p])) ∧
    (p < 64 → Accepts s a (HPT.Pp_CTL.EN p).addr v → v = s.rd (HPT.Pp_CTL.EN p) + 2 * s.rd (HPT.Pp_CTL.JUMBO p) + 4 →
      s.yields (.portReopen a p v) (fun t => t.on (HPT.Pp_STATUS.CLOSED p) = false ∧ (t.port p).hostile = []
        ∧ (∀ q, q ≠ p → (t.port q).hostile = (s.port q).hostile) ∧ AfterWrite s t [HPT.Pp_STATUS.CLOSED p])) ∧
    (∀ g, g < 16 → Accepts s a (HPT.Gg_CFG.MODE g).addr v → v % 2 ≠ s.rd (HPT.Gg_CFG.MODE g) →
      s.yields (.groupCfgWrite a g v) (fun t => t.rd (HPT.Gg_CFG.MODE g) = v % 2
        ∧ ∀ i, i < 4 → t.on (HPT.Pp_STATUS.LINK (4 * g + i)) = false ∧ t.session (4 * g + i) ≠ sesOpen
            ∧ t.view a (HPT.Pp_STATUS.ABSENT_PORT (4 * g + i)) = b2n (v % 2 == 1 && i != 0))) ∧
    (Accepts s a WAG.VIEW.PORT.addr v → v.testBit 8 = true → s.yields (.viewClear a v) (fun t =>
      t.rd WAG.VIEW.PORT = v % 64 ∧ (t.port (v % 64)).stats = List.replicate 16 0
        ∧ (∀ q, q ≠ v % 64 → (t.port q).stats = (s.port q).stats) ∧ AfterWrite s t [WAG.VIEW.PORT]))

/-- Accepted words to the windows and the monitor converter. A window whose configuration or thresholds change settles anew and is
unresolved; GO takes the readback asked for; INJECT queues a request with the selection held and the next sequence; POP takes the
oldest result away; CAL begins a calibration, or waits for a request that converts next; INJ_EN = 0 returns every queued request but
the one that converts (R422, R427, R431, R432, R434). COMMIT of the display holds the fields as
they stand and waits for its boundary, and takes every shadowed field at once where there is none to wait for (R455); a
read of FLIP_COUNT that an attachment may make latches the time of the flip and changes nothing else (R452). -/
def Obligations.MonitorAndDisplayCommandsAct : Prop :=
  (∀ (s : State) (a : Att) (w v : Nat),
    (∀ thr : Bool, w < 24 →
      let f := if thr then WIN.Ww_THR.U w else WIN.Ww_CFG.ATTN w
      Accepts s a f.addr v → s.written a f.addr v ≠ [] → s.mon.rb = none → s.yields (.winCfgWrite a w thr v) (fun t =>
        w ∈ t.mon.settling ∧ (∀ x, x ≠ w → (x ∈ t.mon.settling ↔ x ∈ s.mon.settling))
          ∧ t.on (WIN.Ww_STATUS.UNRES_U w) = true ∧ t.on (WIN.Ww_STATUS.UNRES_L w) = true ∧ t.on (WIN.Ww_STATUS.ABOVE w) = false
          ∧ t.on (WIN.Ww_STATUS.BELOW w) = false ∧ (thr = true → t.rd (WIN.Ww_THR.U w) = v % 2 ^ 12 ∧ t.rd (WIN.Ww_THR.L w) = v / 2 ^ 16 % 2 ^ 12)
          ∧ (thr = false → t.rd (WIN.Ww_CFG.EN w) = v % 2 ∧ t.rd (WIN.Ww_CFG.OUT w) = v / 2 % 4 ∧ t.rd (WIN.Ww_CFG.RANGE w) = v / 16 % 4))) ∧
    (Accepts s a WIN.RB_CTL.GO.addr v → v.testBit 24 = true → s.yields (.rbGo a v) (fun t =>
      (∃ n, t.mon.rb = some ⟨v % 32, v / 2 ^ 8 % 2, v / 2 ^ 16 % 4, n⟩) ∧ t.on WIN.RB_RESULT.BUSY = true)) ∧
    (Accepts s a MCV.CTL.CAL.addr v → v = 2 → s.yields (.mcvInject a v) (fun t =>
      t.mon.queue = s.mon.queue ++ [⟨s.rd MCV.INJ_SEL.SEL, 0, 0, s.mon.reqSeq, s.on MCV.STATUS.CAL_BUSY || s.on MCV.CAL_STATUS.PENDING, false⟩]
        ∧ t.mon.reqSeq = s.mon.reqSeq + 1 ∧ t.rd MCV.STATUS.QUEUE = (s.mon.queue.length + 1) % 8 ∧ t.mon.results = s.mon.results)) ∧
    (Accepts s a MCV.CTL.CAL.addr v → v = 4 → (∀ r ∈ s.mon.queue, r.aborted = false) → s.yields (.mcvPop a v) (fun t =>
      t.mon = { s.mon with results := s.mon.results.drop 1 } ∧ t.rd MCV.STATUS.RESULTS = (s.mon.results.length - 1) % 8
        ∧ t.on MCV.INJ_TAG.VALID = decide (1 < s.mon.results.length))) ∧
    (Accepts s a MCV.CTL.CAL.addr v → v = 1 → s.on MCV.STATUS.CAL_BUSY = false → s.injStands = false → s.yields (.mcvCal a v) (fun t =>
      t.on MCV.STATUS.CAL_BUSY = true ∧ t.on MCV.CAL_STATUS.PENDING = false
        ∧ AfterWrite { s with mon := { s.mon with queue := s.mon.queue.map (fun r => { r with delayed := true }) } } t
            [MCV.STATUS.CAL_BUSY, MCV.CAL_STATUS.PENDING])) ∧
    (Accepts s a MCV.CTL.CAL.addr v → v = 1 → s.on MCV.STATUS.CAL_BUSY = false → s.injStands = true → s.yields (.mcvCal a v) (fun t =>
      t.on MCV.CAL_STATUS.PENDING = true ∧ AfterWrite s t [MCV.CAL_STATUS.PENDING])) ∧
    (Accepts s a MCV.CFG.INJ_EN.addr v → v % 2 = 0 → s.on MCV.CFG.INJ_EN = true → s.yields (.injDisable a v) (fun t =>
      t.on MCV.CFG.INJ_EN = false ∧ ∀ r ∈ t.mon.queue.drop (if s.on MCV.STATUS.CAL_BUSY || decide (4 ≤ s.mon.results.length) then 0 else 1),
        r.aborted = true))) ∧
  (∀ (s : State) (a : Att) (v : Nat),
    (Accepts s a PRO.CTL.COMMIT.addr v → v.testBit 0 = true → s.proAtOnce = false → s.yields (.proCommit a v) (fun t =>
      t.on PRO.CTL.PENDING = true ∧ (∀ f ∈ proShadowed, t.proC f = s.rd f)
        ∧ AfterWrite { s with pro := { s.pro with committed := t.pro.committed } } t [PRO.CTL.PENDING])) ∧
    (Accepts s a PRO.CTL.COMMIT.addr v → v.testBit 0 = true → s.proAtOnce = true → s.yields (.proCommit a v) (fun t =>
      t.on PRO.CTL.PENDING = false ∧ (∀ f ∈ proShadowed, t.proF f = s.rd f)
        ∧ AfterWrite { s with pro := t.pro } t [PRO.CTL.PENDING, PRO.STATUS.TABLE_ABSENT, PRO.STATUS.STATE, PRO.STATUS.TE_OK])) ∧
    ((∀ p, a = .port p → s.hears p = true ∧ (s.port p).rights.testBit 1 = true) → s.yields (.flipCountRead a) (fun t =>
      t.rd PRO.FLIP_TB_LO.TICKS = s.pro.flip / 2 ^ 16 % 2 ^ 32 ∧ t.rd PRO.FLIP_TB_HI.TICKS = s.pro.flip / 2 ^ 48 % 2 ^ 32
        ∧ t.rd PRO.FLIP_FRAC.FRAC = s.pro.flip % 2 ^ 16
        ∧ OnlyRegs s t [PRO.FLIP_TB_LO.TICKS, PRO.FLIP_TB_HI.TICKS, PRO.FLIP_FRAC.FRAC])))

/-! ### Commands to the display, security, profiles and the device -/

/-- Accepted words that ask for tokens, statements and exports. A well-formed token of this device with a counter above the last one
is taken and makes BUSY read 1 (R464); a statement joins the queue with the nonce held (R473); an export is built over the entries
held and recorded with audit kind 10 (R480). -/
def Obligations.SecurityCommandsAct : Prop :=
  ∀ (s : State) (a : Att) (v : Nat),
    (∀ tok, Accepts s a SEC.TOKEN_CTL.SUBMIT.addr v → v.testBit 16 = true → s.sec.token = none →
      let bs := Memory.read 0 s.sec.aperture 0 (v % 2 ^ 15)
      parseToken bs a = some tok → le bs 8 8 = s.led.serial → (tok.signer = 1 → s.led.owner ≠ none) →
      (∀ x, (if tok.signer = 1 then s.sec.lastInst else s.sec.lastMaker) = some x → x + ticksOfS 1 ≤ s.now) →
      (if tok.signer = 1 then s.led.instCnt else s.led.makerCnt) < tok.counter → (tok.counter ≠ 0xFFFFFFFF ∨ bs.getD 3 0 = 1) →
      s.yields (.tokenSubmit a v) (fun t => t.on SEC.TOKEN_STATUS.BUSY = true ∧ t.rd SEC.TOKEN_STATUS.KIND = bs.getD 3 0 % 256
        ∧ AfterWrite { s with sec := { s.sec with token := some tok } } t [SEC.TOKEN_STATUS.BUSY, SEC.TOKEN_STATUS.KIND])) ∧
    (∀ tok, Accepts s a SEC.TOKEN_CTL.SUBMIT.addr v → v.testBit 16 = true → s.sec.token = some tok →
      s.yields (.tokenSubmit a v) (fun t => t.rd SEC.TOKEN_STATUS.RESULT = 11 ∧ AfterWrite s t [SEC.TOKEN_STATUS.RESULT])) ∧
    (Accepts s a SEC.ATTEST_CTL.GO.addr v → v.testBit 0 = true → s.yields (.attestGo a v) (fun t =>
      (∃ body, t.sec.attestQ = s.sec.attestQ ++ [⟨a, body, []⟩])
        ∧ AfterWrite { s with sec := { s.sec with attestQ := t.sec.attestQ, signing := t.sec.signing, signAt := t.sec.signAt, signTb := t.sec.signTb } } t [])) ∧
    (Accepts s a LGR.EXPORT_CTL.GO.addr v → v.testBit 0 = true → s.led.audit.length + 1 < 16384 → s.yields (.exportGo a v) (fun t =>
      t.sec.building.isSome = true ∧ t.rd LGR.EXPORT_STATUS.STATE = 1 ∧ (t.led.audit.head?.map AuditEntry.kind) = some 10
        ∧ AfterWrite { s with sec := { s.sec with building := t.sec.building, signing := t.sec.signing, signAt := t.sec.signAt, signTb := t.sec.signTb } } t
            [LGR.EXPORT_STATUS.STATE]))

/-- Accepted words to the profile and system registers. SWITCH to a profile waits as PENDING and replaces one that waits (R505, R506);
during an adoption it is held (R513); CHECK starts the check of the image at the address held (R509); DARK begins the entry and closes
the open manifest (R475, R523); WAKE through I3C is held for the entry to end, or to act in DARK (R525). -/
def Obligations.SystemCommandsAct : Prop :=
  ∀ (s : State) (a : Att) (v : Nat),
    (Accepts s a PRF.CTL.SWITCH.addr v → v = 256 + v % 8 → s.adopting = false → s.yields (.profileSwitchRequest a v) (fun t =>
      t.rd PRF.STATUS.PENDING = v % 8 ∧ t.on PRF.STATUS.PENDING_VALID = true
        ∧ t.rd PRF.STATUS.STATE = (if s.prf.resumeAt.isNone then 1 else s.rd PRF.STATUS.STATE)
        ∧ t.rd PRF.STATUS.RESULT = (if s.on PRF.STATUS.PENDING_VALID then 5 else s.rd PRF.STATUS.RESULT)
        ∧ AfterWrite { s with prf := { s.prf with byAtt := some a, abort := false } } t
            [PRF.STATUS.PENDING, PRF.STATUS.PENDING_VALID, PRF.STATUS.STATE, PRF.STATUS.RESULT])) ∧
    (Accepts s a PRF.CTL.SWITCH.addr v → v = 256 + v % 8 → s.adopting = true → s.yields (.profileSwitchRequest a v) (fun t =>
      AfterWrite { s with prf := { s.prf with heldSwitch := some (v % 8, some a) } } t [])) ∧
    (Accepts s a PRF.STAGE.CHECK.addr v → v.testBit 16 = true → s.yields (.stageCheck a v) (fun t =>
      t.rd PRF.STAGE.ADDR = v % 2 ^ 10 ∧ t.rd PRF.STAGE_STATUS.STATE = 1 ∧ t.rd PRF.STAGE_STATUS.CAUSE = 0
        ∧ AfterWrite { s with prf := { s.prf with stageAddr := v % 2 ^ 10 * 65536, staged := none } } t
            [PRF.STAGE.ADDR, PRF.STAGE_STATUS.STATE, PRF.STAGE_STATUS.CAUSE])) ∧
    (Accepts s a SYS.CTL.DARK.addr v → v = 1 → (∀ c, c < 192 → s.cellExecutes c = false) → s.yields (.darkRequest a v) (fun t =>
      t.on SYS.STATE.ENTERING = true ∧ t.boot = { s.boot with entryStep := 0, heldWake := none } ∧ t.sec.leaves = []
        ∧ t.sec.nextManifest = (if s.sec.leaves = [] then s.sec.nextManifest else (s.sec.nextManifest + 1) % 2 ^ 40)
        ∧ AfterWrite { s with boot := t.boot, sec := t.sec } t [SYS.STATE.ENTERING, SEC.SIGN.COALESCED, SEC.SIGN.SAT])) ∧
    (Accepts s .i3c SYS.CTL.WAKE.addr v → v = 2 → s.on SYS.WAKE_CFG.I3C = true → s.boot.heldWake = none →
      s.dev = devDark ∨ s.on SYS.STATE.ENTERING = true → s.yields (.sysWakeWrite v) (fun t =>
        AfterWrite { s with boot := { s.boot with heldWake := some (4, 0), heldAt := s.now } } t []))

/-! ### Commands of the I3C target -/

/-- Accepted words to the authentication registers (R556, R557). NONCE draws a nonce, shown in its eight registers; GO within the
backoff is put off, else gives the role and rights of the key entry where the mac is right for the live nonce, and rejects with a
backoff that doubles from 1 s to 64 s where it is not; LOGOUT ends the authentication and a flash session. -/
def Obligations.AuthCommandsAct : Prop :=
  ∀ (s : State) (a : Att) (v : Nat), Accepts s a I3C.AUTH_CTL.GO.addr v →
    let host := s.rd I3C.AUTH_HOST.HOST_ID
    let text := ascii "WAGGLE-I" ++ leBytes 8 s.led.serial ++ leBytes 4 host ++ s.words8 I3C.AUTH_NONCEk.WORD
    (v = 1 → s.yields (.authNonce a v) (fun t => t.i3c.nonceLive = true ∧ t.draws = s.draws + 1
      ∧ (∀ k, k < 8 → t.rd (I3C.AUTH_NONCEk.WORD k) = Config.freeDraw s.draws % 2 ^ 256 / 2 ^ (32 * k) % 2 ^ 32)
      ∧ AfterWrite { s with draws := t.draws, i3c := { s.i3c with nonceLive := true } } t ((List.range 8).map I3C.AUTH_NONCEk.WORD))) ∧
    (v = 2 → s.now < s.i3c.backoffUntil → s.yields (.authGo a v) (fun t => t.rd I3C.AUTH_CTL.RESULT = 3
      ∧ AfterWrite s t [I3C.AUTH_CTL.RESULT])) ∧
    (∀ h, v = 2 → s.i3c.backoffUntil ≤ s.now → s.keyEntry host = some h → s.i3c.nonceLive = true →
      hmac h.key text = s.words8 I3C.AUTH_MACk.WORD → s.yields (.authGo a v) (fun t =>
        t.rd I3C.AUTH_CTL.RESULT = 1 ∧ t.on I3C.STATUS.AUTH = true ∧ t.rd I3C.STATUS.ROLE = h.role % 4
          ∧ AfterWrite { s with i3c := { s.i3c with nonceLive := false, hostId := host, rights := h.rights, backoffS := 0,
                                                    lastTransfer := s.now } } t
              [I3C.AUTH_CTL.RESULT, I3C.STATUS.AUTH, I3C.STATUS.ROLE])) ∧
    (v = 2 → s.i3c.backoffUntil ≤ s.now → (∀ h, s.keyEntry host = some h → s.i3c.nonceLive = true →
        hmac h.key text ≠ s.words8 I3C.AUTH_MACk.WORD) → s.yields (.authGo a v) (fun t =>
          let b := if s.i3c.backoffS = 0 then 1 else min 64 (2 * s.i3c.backoffS)
          t.rd I3C.AUTH_CTL.RESULT = 2 ∧ AfterWrite { s with i3c := { s.i3c with backoffS := b, backoffUntil := s.now + ticksOfS b } } t
            [I3C.AUTH_CTL.RESULT])) ∧
    (v = 4 → s.i3c.flashOp = none → s.yields (.authLogout a v) (fun t => t.on I3C.STATUS.AUTH = false ∧ t.rd I3C.STATUS.ROLE = 1
      ∧ t.rd I3C.FLASH_STATUS.STATE = 0
      ∧ AfterWrite { s with i3c := { s.i3c with hostId := 0, rights := 3, nonceLive := false } } t
          [I3C.STATUS.AUTH, I3C.STATUS.ROLE, I3C.FLASH_STATUS.STATE]))

/-- Accepted words to FLASH_CTL (R561, R562), with no refusal of the operation and room in the audit log. OPEN takes the range and
counts from 0, CLOSE ends the session, and both give RESULT 0; READ, PROGRAM and the two erases begin the operation at the address
held, over 4,096 or 65,536 bytes for an erase, and STATE reads 2 until the flash has carried it out. -/
def Obligations.FlashCommandsAct : Prop :=
  ∀ (s : State) (a : Att), s.led.audit.length + 2 < 16128 →
    let go := fun (op : Nat) => Accepts s a I3C.FLASH_CTL.GO.addr (256 + op) ∧ s.flashBad a op = 0
    let runs := fun (c : Instr) (op len : Nat) => s.yields c (fun t => t.rd I3C.FLASH_STATUS.STATE = 2
      ∧ AfterWrite { s with i3c := { s.i3c with flashOp := some (op, s.rd I3C.FLASH_ADDR.ADDR, len) } } t [I3C.FLASH_STATUS.STATE])
    (go 1 → s.yields (.flashOpen a 257) (fun t => t.rd I3C.FLASH_STATUS.STATE = 1 ∧ t.rd I3C.FLASH_STATUS.OPS = 0
      ∧ t.rd I3C.FLASH_STATUS.RESULT = 0 ∧ t.i3c.flashRange = (s.rd I3C.FLASH_RANGE.FIRST, s.rd I3C.FLASH_RANGE.LAST)
      ∧ t.i3c.flashClose = false ∧ t.flash = s.flash)) ∧
    (go 2 → s.yields (.flashClose a 258) (fun t => t.rd I3C.FLASH_STATUS.STATE = 0 ∧ t.rd I3C.FLASH_STATUS.RESULT = 0
      ∧ t.flash = s.flash)) ∧
    (go 3 → runs (.flashRead a 259) 3 (s.rd I3C.FLASH_LEN.BYTES)) ∧
    (go 4 → runs (.flashProgram a 260) 4 (s.rd I3C.FLASH_LEN.BYTES)) ∧
    (go 5 → runs (.flashErase4k a 261) 5 4096) ∧
    (go 6 → runs (.flashErase64k a 262) 6 65536)


/-! ### Power-on, reset and start-up -/

/-- Power-on, RESET_N and a brown-out put every register field at its reset value and keep the ledger and, where no operation runs on
it, the flash; the device stays in reset until RESET_N has been low for 10 µs and rises, and then begins start-up at step 1 with the
profile pins and CLAIM sampled; a TAP instruction that drives the pins holds the start (R517, R519, R575, R576, R586). A release that
waits acts at the rise: with CLAIM the owner and every host key go (R469). -/
def Obligations.ResetsRestart : Prop :=
  ∀ (s : State), s.i3c.flashOp = none →
    let cold := fun (t : State) => (∀ f, t.rd f = f.reset) ∧ t.led = s.led ∧ t.flash = s.flash ∧ t.image = none ∧ t.dev = devStart
      ∧ t.boot.inReset = true
    let begun := fun (t : State) (psel : Nat) (claim : Bool) => t.dev = devStart ∧ t.boot.inReset = false ∧ t.boot.held = false
      ∧ t.rd SYS.STATE.STEP = 1 ∧ t.rd PRF.STATUS.PSEL = psel % 8 ∧ t.boot.psel = psel % 8 ∧ t.on SEC.STATE.CLAIM_PIN = claim
      ∧ t.boot.startAt = s.now ∧ t.flash = s.flash
    (∀ psel claim, s.yields (.powerOn false psel claim) (fun t => cold t ∧ t.boot.tap = 1 ∧ t.boot.powerOn = true
      ∧ t.boot.resetLow = true ∧ t.boot.lowSince = s.now)) ∧
    (∀ psel claim, s.yields (.powerOn true psel claim) (fun t => begun t psel claim ∧ t.on SYS.STATE.RESET_SRC = false
      ∧ t.led = s.led ∧ t.image = none)) ∧
    (s.boot.inReset = false → s.yields .resetRecognised (fun t => cold t ∧ t.boot.tap = s.boot.tap ∧ t.boot.powerOn = false
      ∧ t.boot.resetLow = true)) ∧
    (s.boot.inReset = false → s.yields .brownOut (fun t => cold t ∧ t.boot.tap = s.boot.tap ∧ t.boot.powerOn = false
      ∧ t.boot.resetLow = false)) ∧
    (∀ psel claim, s.boot.inReset = true → s.boot.lowSince + ticksOfUs 10 ≤ s.now →
      (tapHolds s.boot.tap = false ∨ s.boot.resetLow = false) → s.led.releasePending = false → s.dev = devStart →
      s.rd SYS.STATE.STEP = 1 → s.yields (.resetRelease psel claim) (fun t => begun t psel claim
        ∧ t.on SYS.STATE.RESET_SRC = !s.boot.powerOn ∧ t.led = s.led)) ∧
    (∀ psel, s.boot.inReset = true → s.boot.lowSince + ticksOfUs 10 ≤ s.now → tapHolds s.boot.tap = false →
      s.led.releasePending = true → s.yields (.resetRelease psel true) (fun t => t.led.owner = none ∧ t.led.hosts = []
        ∧ t.led.releasePending = false)) ∧
    (∀ psel claim, s.boot.inReset = true → s.boot.lowSince + ticksOfUs 10 ≤ s.now → tapHolds s.boot.tap = true →
      s.boot.resetLow = true → s.yields (.resetRelease psel claim) (fun t =>
        t = { s with boot := { s.boot with inReset := false, resetLow := false, held := true } }))

/-- Each report of start-up with nothing wrong ends its step where the step's condition holds: STEP reads the next one, and after
step 12 the device is IDLE (R519, R520). Step 4 takes a verified image into force and, on a device without an owner, claims it (R468);
step 6 waits for the reference; step 12 begins the switch to the profile of the pins, which waits for the calibration where it brings
another mode (R52, R505). -/
def Obligations.StartUpAdvances : Prop :=
  ∀ (s : State) (detail addr : Nat) (sig maker : Bool) (size mode clock : Nat), s.sound → s.starting = true →
    let report := fun (P : State → Prop) => s.yields (.startUp 0 detail addr sig maker size mode clock) P
    let at_ := fun (k : Nat) => s.rd SYS.STATE.STEP = k
    let next := fun (k : Nat) (t : State) => t.rd SYS.STATE.STEP = k + 1 ∧ t.rd SYS.STATE.WAIT = 0 ∧ t.dev = devStart
    (at_ 1 → report (fun t => next 1 t ∧ t.i3c.upAt = s.now)) ∧
    (at_ 2 → report (fun t => next 2 t ∧ t.boot.selfTestDone = true ∧ t.cap.nextRoll = s.led.rollBlock * 2 ^ 24
      ∧ t.led = { s.led with rollRing := s.led.rollRing.put ((s.led.rollBlock + 1) % 2 ^ 24) })) ∧
    (at_ 3 → 4 ≤ size → size ≤ 64 → report (fun t => next 3 t ∧ t.rd PRF.FLASH.SIZE_MB = size
      ∧ t.rd PRF.FLASH.MODE = mode % 2 ^ PRF.FLASH.MODE.width)) ∧
    (∀ cause im, at_ 4 → s.verify ((s.led.owner.map Owner.addr).getD 0) sig maker false = (cause, some im) →
      report (fun t => next 4 t ∧ t.image = some im ∧ t.led.owner.isSome = true ∧ (s.led.owner.isSome = true → t.led = s.led)
        ∧ (s.led.owner = none → t.led.owner = some ⟨im.imageKey, im.tokenKey, im.addr⟩))) ∧
    (∀ im, at_ 5 → s.image = some im → report (fun t => next 5 t ∧ t.image = some im
      ∧ t.led.rollback = max s.led.rollback im.rollback)) ∧
    (at_ 6 → s.on CLK.REF.OK = true → report (fun t => next 6 t ∧ t.clk.pllOn = true)) ∧
    (at_ 6 → s.on CLK.REF.OK = false → report (fun t => t.rd SYS.STATE.STEP = 6 ∧ t.rd SYS.STATE.WAIT = 1)) ∧
    (at_ 7 → (∀ n, n < 6 → s.on (CLK.PLLn_STATUS.LOCKED n) = true) → report (fun t => next 7 t)) ∧
    (at_ 8 → s.on MCV.STATUS.CAL_BUSY = false → s.on MCV.STATUS.CAL_DONE = true → report (fun t => next 8 t)) ∧
    (at_ 9 → report (fun t => next 9 t ∧ t.rd CAP.POOL_WARN.LOW_WATER = s.freePages % 2 ^ 13)) ∧
    (at_ 10 → report (fun t => t.rd SYS.STATE.STEP = 11 ∧ t.rd SYS.STATE.WAIT = 0
      ∧ (s.cmb.maker = [] → t.dev = devStart ∧ t.rd DRM.STATE.STATE = 1))) ∧
    (at_ 11 → (s.calCh 0).accepted = true → (∀ i, i < 65 → s.on (TDC.INi_STATUS.TESTING i) = false) → report (fun t => next 11 t)) ∧
    (∀ p, at_ 12 → s.profileOf s.boot.psel = some p → (∀ n, n < 8 → s.chState n = chStopped) → s.on CAP.ROLL_STATUS.OPEN = false →
      (∀ c, c < 192 → s.cellExecutes c = false) → p.acqMode ≠ s.rd ADC.MODE.MODE → report (fun t => t.dev = devIdle
        ∧ t.rd SYS.STATE.STEP = 0 ∧ t.boot.idleSince = s.now ∧ t.rd PRF.STATUS.STATE = 2 ∧ t.prf.resumeAt = some p.number
        ∧ t.cal.modeNext = some p.acqMode))

/-- A fault reported in a step that has it halts the device with the reason, and the timer of the domains asserts FAULT_N where no
report has come within 2 ms of power-on (R519, R521, R532). -/
def Obligations.StartUpFaultsHalt : Prop :=
  ∀ (s : State) (reason detail addr : Nat) (sig maker : Bool) (size mode clock : Nat), s.starting = true →
    ((startReasons (s.rd SYS.STATE.STEP)).contains reason = true →
      s.yields (.startUp reason detail addr sig maker size mode clock) (fun t => Halts s t reason
        (if reason = 0x0106 then s.rd SYS.STATE.STEP + 256 * (detail % 16) else if reason < 0x0200 then s.rd SYS.STATE.STEP
          else if reason = 0x0801 then 0 else ledgerDetail reason detail)
        (if reason = 0x0106 then addr else if reason = 0x0801 then s.rd CLK.REF.MEAS_KHZ else 0))) ∧
    (s.rd SYS.STATE.STEP = 3 → reason = 0 → size < 4 ∨ 64 < size →
      s.yields (.startUp reason detail addr sig maker size mode clock) (fun t => Halts s t 0x0102 3 0)) ∧
    (∀ cause, s.rd SYS.STATE.STEP = 4 → reason = 0 → s.verify ((s.led.owner.map Owner.addr).getD 0) sig maker false = (cause, none) →
      s.yields (.startUp reason detail addr sig maker size mode clock) (fun t =>
        Halts s t (imageReason cause) (if imageReason cause < 0x0200 then 4
          else s.imageDetail ((s.led.owner.map Owner.addr).getD 0) cause detail) 0)) ∧
    (s.boot.powerOn = true → s.rd SYS.STATE.STEP = 1 → s.boot.startAt + ticksOfMs 2 ≤ s.now →
      s.yields .domainStartUpTimer (fun t => t.on FLT.STATE.FAULT_N = true ∧ OnlyRegs s t [FLT.STATE.FAULT_N]))

/-! ### Faults -/

/-- A fault the spec halts the device for puts it into HALTED with its reason, detail and address, and nothing changes but what entry
into HALTED names (R532): a fault reported (R33), a thermal trip, the third sample of VDDIO outside its limits (R435), a signature not
ready within 100 ms (R476), a known-answer test that fails (R479). In HALTED a further fault leaves the reason,
the address and the time as they are: the first one after the halt is held in FLT.LATER, and each is counted; of two faults of one
moment the lower reason is held, the elapsed tick taken for the moment (R534; the model's choice, notes/assumptions/12.md), and so
for the slice clock of a partner condition (R35; the model's choice, notes/assumptions/97.md). -/
def Obligations.FaultsHalt : Prop :=
  ∀ (s : State), (s.dev ≠ devHalted →
    (∀ reason detail addr, reason ∈ haltReasons → s.boot.inReset = false →
      s.yields (.internalFault reason detail addr) (fun t => ∃ u, Halts s u reason (detail % 65536) addr
        -- a partner condition of the same moment is only logged
        ∧ (detail / 65536 % 65536 = 0 → t = u)
        ∧ (detail / 65536 % 65536 ≠ 0 → t = u.partnerNow (detail / 65536 % 65536)))) ∧
    (∀ m (reading : Int), m < 16 → s.yields (.thermalTrip m reading) (fun t => Halts s t 0x0401 m (ofSigned 16 reading))) ∧
    (∀ side, side ≠ 0 → s.mon.streaks.getD 11 0 = 2 → s.yields (.vddioSample side) (fun t =>
      Halts { s with mon := { s.mon with streaks := s.mon.streaks.set 11 3 } } t (if side = 1 then 0x0501 else 0x0502) 11 0)) ∧
    (∀ side, side ≠ 0 → s.mon.streaks.getD 11 0 < 2 → s.yields (.vddioSample side) (fun t =>
      t = { s with mon := { s.mon with streaks := s.mon.streaks.set 11 (s.mon.streaks.getD 11 0 + 1) } })) ∧
    (s.yields (.vddioSample 0) (fun t => t = { s with mon := { s.mon with streaks := s.mon.streaks.set 11 0 } })) ∧
    (s.sec.signing ≠ 0 → s.sec.signAt + ticksOfMs 100 ≤ s.now → s.yields .signTimeout (fun t => Halts s t 0x0650 0 0)) ∧
    (∀ engine, s.up = true → s.sec.katAt + ticksOfS 1 ≤ s.now → s.yields (.knownAnswerTest (some engine)) (fun t =>
      Halts { s with sec := { s.sec with katAt := s.now } } t 0x0651 engine 0)) ∧
    (s.up = true → s.sec.katAt + ticksOfS 1 ≤ s.now → s.yields (.knownAnswerTest none) (fun t =>
      t.rd SEC.KAT.PASSES = satInc SEC.KAT.PASSES.width (s.rd SEC.KAT.PASSES) 1
        ∧ OnlyRegs { s with sec := { s.sec with katAt := s.now } } t [SEC.KAT.PASSES]))) ∧
  (∀ reason detail addr, s.dev = devHalted → s.boot.inReset = false → reason ∈ haltReasons →
    (s.now ≠ s.boot.haltAt ∨ s.rd FLT.REASON.CODE ≤ reason) → s.yields (.internalFault reason detail addr) (fun t => t.dev = devHalted ∧ t.rd FLT.REASON.CODE = s.rd FLT.REASON.CODE
      ∧ t.rd FLT.REASON.DETAIL = s.rd FLT.REASON.DETAIL ∧ t.rd FLT.ADDR_LO.ADDR = s.rd FLT.ADDR_LO.ADDR
      ∧ t.rd FLT.HALT_TB_LO.TICKS = s.rd FLT.HALT_TB_LO.TICKS
      ∧ t.rd FLT.STATE.LATER = satInc FLT.STATE.LATER.width (s.rd FLT.STATE.LATER) 1
      ∧ (s.rd FLT.STATE.LATER = 0 → t.rd FLT.LATER.CODE = reason ∧ t.rd FLT.LATER.DETAIL = detail % 65536)
      ∧ (s.rd FLT.STATE.LATER ≠ 0 → t.rd FLT.LATER.CODE = s.rd FLT.LATER.CODE ∧ t.rd FLT.LATER.DETAIL = s.rd FLT.LATER.DETAIL)
      ∧ OnlyLogged s t [FLT.STATE.LATER, FLT.LATER.CODE, FLT.LATER.DETAIL, FLT.LOG.WRAPPED])) ∧
  -- of two faults of one moment the lower reason is held
  (∀ reason detail addr, s.dev = devHalted → s.boot.inReset = false → reason ∈ haltReasons → s.now = s.boot.haltAt →
    reason < s.rd FLT.REASON.CODE → s.yields (.internalFault reason detail addr) (fun t => t.dev = devHalted
      ∧ t.rd FLT.REASON.CODE = reason ∧ t.rd FLT.REASON.DETAIL = detail % 65536 ∧ t.rd FLT.ADDR_LO.ADDR = addr % 2 ^ 32
      ∧ t.rd FLT.HALT_TB_LO.TICKS = s.rd FLT.HALT_TB_LO.TICKS
      ∧ t.rd FLT.STATE.LATER = satInc FLT.STATE.LATER.width (s.rd FLT.STATE.LATER) 1
      ∧ (s.rd FLT.STATE.LATER = 0 → t.rd FLT.LATER.CODE = s.rd FLT.REASON.CODE % 65536)))

/-- A PLL that is not declared locked within 10 ms of being enabled, or of the return of CLK.REF.OK, while that stays 1, halts the
device: with 0x0107 in start-up, with 0x0610 in service. -/
def Obligations.PllLockTimeoutHalts : Prop :=
  ∀ (s : State) (n : Nat), s.dev ≠ devHalted → n < 6 → s.pllEnabled n = true → s.on CLK.REF.OK = true →
    s.on (CLK.PLLn_STATUS.LOCKED n) = false → ∀ since, s.clk.since.getD n none = some since → since + ticksOfMs 10 ≤ s.now →
    s.yields (.pllLockTimeout n) (fun t => if s.dev = devStart then Halts s t 0x0107 (s.rd SYS.STATE.STEP) 0 else Halts s t 0x0610 n 0)

/-- A vernier unit that does not lock within 10 ms of being enabled or of losing lock halts the device where PLL0 is LOCKED as the
timeout comes (R166; that LOCKED is tested then alone is the model's choice, notes/assumptions/102.md): with 0x0108 in start-up, with
0x0620 in service. -/
def Obligations.VernierLockTimeoutHalts : Prop :=
  ∀ (s : State) (i u : Nat), s.dev ≠ devHalted → s.dev ≠ devDark → i < 65 → u < 2 → s.clk.tbRuns = true → s.pll0Locked = true →
    ((s.tin i).units.getD u {}).locked = false → ((s.tin i).units.getD u {}).since + ticksOfMs 10 ≤ s.now →
    s.tdc.enabledAt + ticksOfMs 10 ≤ s.now →
    s.yields (.vernierLockTimeout i u) (fun t =>
      if s.dev = devStart then Halts s t 0x0108 (s.rd SYS.STATE.STEP) 0 else Halts s t 0x0620 i 0)


/-! ### Clocks and the time base -/

/-- Loss and return of the reference and of a lock (R122, R127, R129, R132, R137). REFIN lost: OK reads 0, the loss is counted, and
every enabled PLL
coasts. The fourth good measurement in a row brings OK back and relocks what coasts; the fourth good lock window
in a row locks a PLL; an error beyond 8 cycles of a locked one makes it coast. -/
def Obligations.ReferenceAndLocks : Prop :=
  ∀ (s : State),
    (s.on CLK.REF.OK = true → s.yields .clkRefLost (fun t => t.on CLK.REF.OK = false ∧ t.on CLK.REF.SAFELIGHT_SRC = false
      ∧ t.rd CLK.REF_LOSS.COUNT = satInc CLK.REF_LOSS.COUNT.width (s.rd CLK.REF_LOSS.COUNT) 1 ∧ t.clk.refGood = 0
      ∧ ∀ n, n < 6 → s.pllEnabled n = true → s.on (CLK.PLLn_STATUS.COAST n) = false →
          t.on (CLK.PLLn_STATUS.LOCKED n) = false ∧ t.on (CLK.PLLn_STATUS.COAST n) = true)) ∧
    (s.on CLK.REF.OK = false → s.yields .clkRefLost (fun t => t = s)) ∧
    (∀ khz pll0, withinPct khz s.refKhz 3 = true → s.clk.refGood = 3 → s.on CLK.REF.OK = false →
      s.yields (.refinMeasurement khz pll0) (fun t => t.on CLK.REF.OK = true ∧ t.on CLK.REF.SAFELIGHT_SRC = true
        ∧ t.rd CLK.REF.MEAS_KHZ = khz % 2 ^ 24
        ∧ ∀ n, n < 6 → s.on (CLK.PLLn_STATUS.COAST n) = true →
            t.on (CLK.PLLn_STATUS.COAST n) = false ∧ t.on (CLK.PLLn_STATUS.RELOCK n) = true)) ∧
    (∀ khz pll0, withinPct khz s.refKhz 3 = false → s.pll0Locked = false → s.on CLK.REF.OK = true →
      s.yields (.refinMeasurement khz pll0) (fun t => t.on CLK.REF.OK = false ∧ t.rd CLK.REF.MEAS_KHZ = khz % 2 ^ 24)) ∧
    (∀ n err eps, n < 6 → s.pllEnabled n = true → s.on CLK.REF.OK = true → (err : Int).natAbs ≤ 2 → s.clk.good.getD n 0 = 3 →
      s.clk.good.length = 6 → s.on (CLK.PLLn_STATUS.LOCKED n) = false →
      s.yields (.pllLockWindow n err eps) (fun t => t.on (CLK.PLLn_STATUS.LOCKED n) = true ∧ t.on (CLK.PLLn_STATUS.COAST n) = false
        ∧ t.on (CLK.PLLn_STATUS.RELOCK n) = false ∧ t.on (CLK.PLLn_STATUS.GATED n) = false
        ∧ t.rd (CLK.PLLn_STATUS.ERROR n) = ofSigned 8 err)) ∧
    (∀ n err eps, n < 6 → s.pllEnabled n = true → s.on CLK.REF.OK = true → 8 < (err : Int).natAbs →
      s.on (CLK.PLLn_STATUS.LOCKED n) = true →
      s.yields (.pllLockWindow n err eps) (fun t => t.on (CLK.PLLn_STATUS.LOCKED n) = false ∧ t.on (CLK.PLLn_STATUS.COAST n) = true
        ∧ t.rd (CLK.PLLn_LOSS.COUNT n) = satInc (CLK.PLLn_LOSS.COUNT n).width (s.rd (CLK.PLLn_LOSS.COUNT n)) 1))

/-- The other events of the clocks (R56, R124, R133, R137): a committed frequency of PLL1 takes effect at the next edge of REFIN, and PLL1
relocks where it is a new one; a rephase ends; the warm input of an OCXO shows; the 64th good measurement of SCLK makes OK read 1, and a
loss reads 0 with its cause, at frequency 0, with no marker kept. -/
def Obligations.ClockEvents : Prop :=
  ∀ (s : State),
    (s.on CLK.CTL.PENDING = true → s.on CLK.REF.OK = true → s.clk.freqNext.getD (s.clk.freq.getD 1 0) = s.clk.freq.getD 1 0 →
      s.yields .clkCommitApply (fun t => t.on CLK.CTL.PENDING = false
        ∧ OnlyRegs { s with clk := { s.clk with freqNext := none } } t [CLK.CTL.PENDING])) ∧
    (∀ khz, s.on CLK.CTL.PENDING = true → s.on CLK.REF.OK = true → s.clk.freqNext = some khz → khz ≠ s.clk.freq.getD 1 0 →
      s.yields .clkCommitApply (fun t => t.on CLK.CTL.PENDING = false ∧ t.on (CLK.PLLn_STATUS.RELOCK 1) = true
        ∧ t.on (CLK.PLLn_STATUS.LOCKED 1) = false ∧ t.clk.freq = s.clk.freq.set 1 khz
        ∧ OnlyRegs { s with clk := t.clk } t ([CLK.CTL.PENDING, CLK.PLLn_STATUS.BAND 1, CLK.PLLn_STATUS.LOCKED 1,
            CLK.PLLn_STATUS.COAST 1, CLK.PLLn_STATUS.RELOCK 1, CLK.PLLn_STATUS.GATED 1]))) ∧
    (s.on TB.STATE.REPHASE = true → s.yields .tbRephased (fun t => t.on TB.STATE.REPHASE = false
      ∧ (t.rd TB.STATE.TB_STATE).testBit 1 = false ∧ OnlyLogged s t [TB.STATE.REPHASE, TB.STATE.TB_STATE])) ∧
    (∀ level, s.yields (.ocxoWarmChange level) (fun t => t.on CLK.REF.WARM = level ∧ (t.rd TB.STATE.TB_STATE).testBit 2 = level
      ∧ OnlyRegs s t [CLK.REF.WARM, TB.STATE.TB_STATE])) ∧
    (∀ khz, s.live = true → s.dev ≠ devDark → s.clk.tbRuns = true → s.on ADC.SCLK.OK = false → s.cal.sclkGood = 63 → s.cap.heldStart = 0 →
      4000000 ≤ khz → khz ≤ 10000000 → s.yields (.sclkMeasurementWindow khz) (fun t => t.on ADC.SCLK.OK = true
        ∧ t.rd ADC.SCLK.FREQ_KHZ = khz ∧ t.cal.sclkGood = 64)) ∧
    (∀ khz, s.live = true → s.dev ≠ devDark → s.clk.tbRuns = true → s.on ADC.SCLK.OK = false → 4000000 > khz →
      s.yields (.sclkMeasurementWindow khz) (fun t => t.rd ADC.SCLK.FREQ_KHZ = khz ∧ t.cal.sclkGood = 0
        ∧ OnlyRegs { s with cal := t.cal } t [ADC.SCLK.FREQ_KHZ])) ∧
    (s.on ADC.SCLK.OK = true → s.live = true → s.dev ≠ devDark → s.on CAP.ROLL_STATUS.OPEN = false → s.capturing = [] →
      s.mon.rb = none → s.yields .adcSclkLost (fun t => t.on ADC.SCLK.OK = false ∧ t.rd ADC.SCLK_LOSS.LAST_CAUSE = 1
        ∧ t.rd ADC.SCLK_LOSS.COUNT = satInc ADC.SCLK_LOSS.COUNT.width (s.rd ADC.SCLK_LOSS.COUNT) 1 ∧ t.rd ADC.SCLK.FREQ_KHZ = 0
        ∧ t.clk.markers = [] ∧ t.clk.fit = none ∧ ∀ n, n < 8 → (t.cch n).pos = 0)) ∧
    (s.on ADC.SCLK.OK = false → s.live = true → s.dev ≠ devDark → s.yields .adcSclkLost (fun t => t.on ADC.SCLK.OK = false
      ∧ t.rd ADC.SCLK.FREQ_KHZ = 0 ∧ t.cal.sclkGood = 0 ∧ t.clk.markers = [] ∧ t.rd ADC.SCLK_LOSS.COUNT = s.rd ADC.SCLK_LOSS.COUNT))

/-- A marker of the slice clock is stamped as a record of input 64 is, by the input's curve or by multi-phase only, less its delay. It
joins the last 64 with its number, and the fit of the mapping is made anew over them, from the second on (R145 to R147, R158, R159, R165;
the model's choice, notes/assumptions/15.md); its record enters the queue of input 64 at the merge's turn, and waits for that turn
before (R162). While `ADC.SCLK.OK` is 0 it is counted alone; SYNC_IN in IDLE
restarts the dividers its mask names and, with TB_SET armed and PLL0 locked, puts the time set into TB, clears its fraction and
restarts the divider of PLL0; elsewhere the edge is counted as ignored (R134, R140). -/
def Obligations.MarkersAndSync : Prop :=
  ∀ (s : State), s.sound → s.live = true → s.boot.inReset = false → s.dev ≠ devDark →
    (∀ raw, s.on ADC.SCLK.OK = true → s.yields (.marker raw) (fun t =>
      let method := s.on (TDC.INi_STATUS.METHOD 64)
      let at_ := s.lessDelay 64 (if method then raw / 512 * 65536 + 2048 * (raw % 512 / 16) + 1024
        else curveTime (s.tdcCurve 64) (raw / 512) (raw % 512))
      let last := ((s.clk.markerN, at_) :: s.clk.markers).take 64
      t.clk.markers = last ∧ t.clk.markerN = s.clk.markerN + 1 ∧ t.clk.fit = fitOf last.reverse
        ∧ (s.tdc.marks = [] → (∀ i, i < 64 → s.cellDue i = false) → s.tdc.mergeAt < 4 * s.now + 4 →
            t.tdc.marks = [] ∧ (t.tin 64).seq = ((s.tin 64).seq + 1) % 2 ^ 32)
        ∧ (4 * s.now + 4 ≤ s.tdc.mergeAt → (t.tin 64).seq = (s.tin 64).seq
            ∧ t.tdc.marks = s.tdc.marks ++ [(at_, s.stampFlags false + 2 * b2n method)]))) ∧
    (∀ raw, s.on ADC.SCLK.OK = false → s.yields (.marker raw) (fun t =>
      t = { s with clk := { s.clk with markerN := s.clk.markerN + 1 } })) ∧
    (s.dev = devIdle → s.on TB.SET_CTL.ARM = true → s.pll0Locked = true → s.led.audit.length < 16384 →
      (∀ n, n < 8 → s.listens n = false) → s.yields .syncEdge (fun t =>
        t.tb = (s.rd TB.SET_LO.TICKS + s.rd TB.SET_HI.TICKS * 2 ^ 32) * 65536 ∧ t.on TB.SET_CTL.ARM = false
          ∧ t.rd TB.SET_CTL.REFUSED = 0 ∧ t.clk.markers = [] ∧ t.clk.fit = none ∧ t.clk.restarted = s.rd CLK.SYNC.MASK * 2 ||| 1
          ∧ (t.led.audit.head?.map (fun e => (e.kind, e.p0, e.p1))) = some (9, s.ticks % 2 ^ 32, s.ticks / 2 ^ 32 % 2 ^ 32))) ∧
    (s.dev = devIdle → s.on TB.SET_CTL.ARM = true → s.pll0Locked = false → (∀ n, n < 8 → s.listens n = false) →
      s.yields .syncEdge (fun t => t.on TB.SET_CTL.ARM = true ∧ t.rd TB.SET_CTL.REFUSED = 4 ∧ t.tb = s.tb
        ∧ OnlyRegs { s with clk := { s.clk with restarted := s.rd CLK.SYNC.MASK * 2 } } t [TB.SET_CTL.REFUSED])) ∧
    (s.dev = devActive → s.on TB.SET_CTL.ARM = false → s.yields .syncEdge (fun t =>
      t.rd CLK.SYNC.IGNORED = satInc CLK.SYNC.IGNORED.width (s.rd CLK.SYNC.IGNORED) 1 ∧ t.tb = s.tb ∧ t.clk.restarted = 0
        ∧ ∀ n, n < 8 → s.isLead n = true → s.listens n = true → (s.tch n).since ≤ s.tb →
            (t.tch n).queue = insertEvent { time := s.tb, src := 40 } (s.tch n).queue)) ∧
    (s.dev = devStart → s.on TB.SET_CTL.ARM = false → s.yields .syncEdge (fun t =>
      t.rd CLK.SYNC.IGNORED = satInc CLK.SYNC.IGNORED.width (s.rd CLK.SYNC.IGNORED) 1
        ∧ OnlyRegs { s with clk := { s.clk with restarted := 0 } } t [CLK.SYNC.IGNORED, CLK.SYNC.SAT]))


/-! ### Samples, ranges, modes and calibration -/

/-- A corrected sample moves its channel on by one position; on a STOPPED channel outside a roll it joins the statistics of the running
window if it is valid, ends that window if it is not, and counts down the invalid samples (R17, R69, R99). -/
def Obligations.SamplesAdvance : Prop :=
  ∀ (s : State) (n pos : Nat) (raw : List Nat), s.sound → s.up = true → s.isLead n = true → s.on ADC.SCLK.OK = true →
    s.cal.modeCal = false → raw.length = 7 → (s.cch n).pos ≤ pos → (∀ x ∈ raw, x < 4096) →
    s.yields (.correctedSample n pos raw) (fun t => (t.cch n).pos = pos + 1
      ∧ (s.chState n = chStopped → s.on CAP.ROLL_STATUS.OPEN = false →
          (t.cch n).invalid = (s.cch n).invalid - 1
          ∧ ((s.cch n).invalid ≤ 1 → t.on (ADC.STATUS.INVALID n) = false)
          ∧ ((s.cch n).invalid = 0 →
              ((s.cch n).pos = pos → (t.calCh n).statLast = (s.correct n pos raw).1)
              ∧ (t.calCh n).statN = (if (s.calCh n).statN = 0 ∨ (s.calCh n).statN = bgWindow then 1 else (s.calCh n).statN + 1))
          ∧ ((s.cch n).invalid ≠ 0 → (t.calCh n).statN = 0)))

/-- PRIMING ends once nothing is left to prime: ARMED for triggered capture, CAPTURE for a record (R27). A range committed takes
effect at the first slice clock with no frame open: 4,096 samples at least are invalid, a running channel primes anew, and what was accumulated is flushed (R68 to
R70, R303). HOLDOFF ends where the dead time and the pre-trigger depth have passed and no holdoff runs (R198). -/
def Obligations.ChannelBoundaries : Prop :=
  ∀ (s : State) (n : Nat), s.sound → s.isLead n = true → s.up = true →
    (s.chState n = chPriming → s.on (CAP.CHn_STATUS.IN_ROLL n) = true → (s.cch n).invalid = 0 → (s.cch n).priming = 0 →
      s.yields (.primingComplete n) (fun t =>
        t.rd (CAP.CHn_STATUS.STATE n) = (if s.on (CAP.CHn_CFG.KIND n) then chCapture else chArmed)
          ∧ OnlyRegs s t [CAP.CHn_STATUS.STATE n])) ∧
    (∀ r, (s.cch n).rangeNext = some r → r < 4 → s.atSliceClock n = true → (s.cch n).openF = none → (s.cch n).liveF = none → s.chState n = chStopped →
      s.yields (.rangeChange n) (fun t => ∃ u : State, u.rd (ADC.RANGE.ACTIVE n) = r ∧ u.on (ADC.RANGE.PENDING n) = false
        ∧ u.on (ADC.STATUS.INVALID n) = true
        ∧ OnlyRegs (s.modCap n (fun c => { c with rangeNext := none, invalid := max c.invalid 4096 })) u
            [ADC.RANGE.ACTIVE n, ADC.RANGE.PENDING n, ADC.STATUS.INVALID n]
        ∧ t = u.accFlush n ∧ t.rd (ADC.RANGE.ACTIVE n) = r)) ∧
    (∀ r, (s.cch n).rangeNext = some r → r < 4 → s.atSliceClock n = true → (s.cch n).openF = none → (s.cch n).liveF = none → s.chState n ≠ chStopped →
      s.yields (.rangeChange n) (fun t => t.rd (ADC.RANGE.ACTIVE n) = r ∧ t.on (ADC.RANGE.PENDING n) = false
        ∧ t.rd (CAP.CHn_STATUS.STATE n) = chPriming ∧ (t.cch n).rangeNext = none ∧ 4096 ≤ (t.cch n).invalid
        ∧ (t.cch n).armedAt = none ∧ (t.cch n).deadTo = 0 ∧ (t.cch n).refill = 0
        ∧ (t.cch n).cut = some (s.tb, (s.cch n).outN, s.armedFrom n, s.rd (ADC.RANGE.ACTIVE n)))) ∧
    (s.chState n = chHoldoff → (s.armedFrom n).isSome = true → s.cap.ending = none → (s.tch n).hold.runs s.tb = false →
      s.on (CAP.CHn_CFG.KIND n) = false → s.yields (.channelRearm n) (fun t => t.rd (CAP.CHn_STATUS.STATE n) = chArmed
        ∧ OnlyRegs (s.modCap n (fun c => { c with armedAt := s.armedFrom n })) t [CAP.CHn_STATUS.STATE n]))

/-- A mode change in IDLE with no pass running, no readback with a slice out and no start held: the mode asked for is in force and no longer waits; the same mode
changes nothing else (R52, R97). The calibration of a new mode ends with every channel accepted and no pass left (R112). -/
def Obligations.ModeChanges : Prop :=
  ∀ (s : State), s.sound → s.cap.heldStart = 0 →
    (∀ mode, s.cal.modeNext = some mode → mode < 3 → s.dev = devIdle → s.cal.modeCal = false → s.rbRuns = false →
      (∀ m, m < 8 → s.rd (CAL.STATE.PASS m) ≠ 2) →
      s.yields .modeChange (fun t => t.rd ADC.MODE.ACTIVE = mode ∧ t.cal.modeNext = none
        ∧ (mode = s.rd ADC.MODE.ACTIVE → OnlyRegs { s with cal := { s.cal with modeNext := none } } t
            [CAP.ROLL_STATUS.WAIT_TABLE, CAP.ROLL_STATUS.WAIT_PAGES]))) ∧
    (s.cal.modeCal = true → s.calAllDone = true → s.up = true → s.yields .modeCalComplete (fun t => t.cal.modeCal = false
      ∧ ∀ m, m < 8 → t.rd (CAL.STATE.PASS m) = 0 ∧ t.rd (CAL.STATE.SLICE m) = 31 ∧ (t.calCh m).accepted = true))

/-- A calibration pass (R92, R94, R110). Overdue, it falls due with cause 2; it starts on the spare slice, running where the
reference check holds and deferred where it does not; a deferred one is checked again every 10 s, and so is the calibration of a mode
that waits for its check (R111, R112); CAL_OVERDUE is set where its condition holds. -/
def Obligations.PassesStart : Prop :=
  ∀ (s : State) (n : Nat), s.sound → n < 8 → s.up = true →
    ((s.calCh n).passed = true → ticksOfS (s.rd CAL.OVERDUE.SECONDS) < s.now - (s.calCh n).endNow → s.rd (CAL.STATE.PASS n) = 0 →
      s.yields (.passOverdue n) (fun t => t.rd (CAL.STATE.PASS n) = 1 ∧ t.rd (CAL.STATE.CAUSE n) = 2
        ∧ OnlyRegs (s.modCal n (fun c => { c with cause := 2, startTemp := s.tempMean n })) t [CAL.STATE.PASS n, CAL.STATE.CAUSE n])) ∧
    (s.rd (CAL.STATE.PASS n) = 1 → s.on ADC.SCLK.OK = true → s.on SYS.STATE.ENTERING = false →
      ((s.calCh n).passed = false ∨ (s.calCh n).startNow + ticksOfS 2 ≤ s.now) →
      s.rd (ADC.STATUS.SPARE n) < 17 → s.rd (ADC.SLICEk.ROLE n (s.rd (ADC.STATUS.SPARE n))) = 1 →
      s.yields (.calPassStart n) (fun t => t.rd (CAL.STATE.PASS n) = (if t.on CAL.REF.OK then 2 else 3)
        ∧ t.rd (CAL.STATE.DONE n) = 0 ∧ t.rd (CAL.STATE.SLICE n) = s.rd (ADC.STATUS.SPARE n)
        ∧ t.rd (ADC.SLICEk.ROLE n (s.rd (ADC.STATUS.SPARE n))) = 2 ∧ (t.calCh n).startNow = s.now)) ∧
    (s.rd (CAL.STATE.PASS n) = 3 → s.on ADC.SCLK.OK = true → s.on SYS.STATE.ENTERING = false →
      (s.calCh n).deferredAt + ticksOfS 10 ≤ s.now → s.yields (.referenceCheckRetry n) (fun t =>
        let ok := s.senseOk n s.senseNv
        t.on CAL.REF.OK = ok ∧ t.rd (CAL.STATE.PASS n) = (if ok then 2 else 3)
          ∧ OnlyRegs (if ok then s.modSlice n (s.rd (CAL.STATE.SLICE n)) (fun x => { x with since := s.now })
              else s.modCal n (fun c => { c with deferredAt := s.now })) t [CAL.REF.SENSE_UV, CAL.REF.OK, CAL.STATE.PASS n])) ∧
    (s.rd (CAL.STATE.PASS 0) = 4 → s.cal.startBegun = false → s.on ADC.SCLK.OK = true →
      (s.cal.startDeferred = false ∨ (s.calCh 0).deferredAt + ticksOfS 10 ≤ s.now) → s.yields (.referenceCheckRetry 8) (fun t =>
        let ok := s.senseOk 0 s.senseNv
        t.on CAL.REF.OK = ok ∧ t.cal.startBegun = ok ∧ t.cal.startDeferred = !ok)) ∧
    (s.on (CAL.STATE.OVERDUE n) = false → s.overdueHolds n = true → s.yields (.calOverdueSet n) (fun t =>
      t.on (CAL.STATE.OVERDUE n) = true ∧ OnlyLogged s t [CAL.STATE.OVERDUE n]))

/-- The results of a slice's static measurement in a pass (R89, R94 to R98). The first one, of the spare, brings the ratio of the
references, which defers the pass where it strays from the last. A slice that passes its checks, with a trim inside its bound, takes its
new coefficients and begins to shadow a position; the 17th ends the pass as the spare. One that fails a check is counted, keeps its
coefficients, and measures again. -/
def Obligations.PassResults : Prop :=
  ∀ (s : State) (n k noise : Nat) (mG mB mC : List Int), s.sound → n < 8 → k < 17 → s.up = true → s.on ADC.SCLK.OK = true →
    mG.length = 8 → mB.length = 8 → mC.length = 8 → s.rd (CAL.STATE.PASS n) = 2 → (s.calCh n).leaving = none →
    s.rd (CAL.STATE.SLICE n) = k → s.rd (ADC.SLICEk.ROLE n k) = 2 → s.rd (CAL.STATE.DONE n) ≤ 16 →
    let done := s.rd (CAL.STATE.DONE n)
    let ratio := staticRatio mG mB mC
    let u := if done = 0 then s.ratioTake n ratio else s
    let judge := u.staticJudge n k noise mG mB mC
    let code := if judge = 0 ∧ done < 16 ∧ 400 < (u.nextTrim n k).natAbs then 9 else judge
    let coef := fun (t : State) => ((t.calCh n).slices.getD k {}).coef
    let gives := s.yields (.staticCalComplete n k mG mB mC noise)
    (done = 0 → s.ratioOk ratio = false → gives (fun t => t.rd (CAL.STATE.PASS n) = 3 ∧ (t.calCh n).deferredAt = s.now
      ∧ t.rd CAL.DEFERS.COUNT = satInc CAL.DEFERS.COUNT.width (s.rd CAL.DEFERS.COUNT) 1 ∧ coef t = coef s)) ∧
    ((done = 0 → s.ratioOk ratio = true) →
      (code = 0 → done < 16 → gives (fun t => t.rd (CAL.STATE.DONE n) = done + 1
        ∧ t.rd (ADC.SLICEk.ROLE n k) = 3 ∧ t.rd (ADC.SLICEk.POSITION n k) = (s.calCh n).nextPos % 32 ∧ t.rd (CAL.STATE.SLICE n) = 31
        ∧ t.rd (ADC.SLICEk.TRIM n k) = ofSigned 10 (u.nextTrim n k) % 2 ^ 10
        ∧ ((s.calCh n).slices.length = 17 → coef t = { u.staticCoef n k mG mC with trim := u.nextTrim n k }))) ∧
      (code = 0 → done = 16 → s.mon.rb = none → (s.calCh n).waiting = none → gives (fun t => t.rd (CAL.STATE.DONE n) = 17
        ∧ t.rd (ADC.SLICEk.ROLE n k) = 1 ∧ t.rd (ADC.STATUS.SPARE n) = k ∧ t.rd (CAL.STATE.PASS n) = 0
        ∧ t.rd (CAL.STATE.CAUSE n) = 0 ∧ t.rd (CAL.STATE.SLICE n) = 31 ∧ (t.calCh n).accepted = true
        ∧ t.rd (CAL.COUNT.COUNT n) = satInc (CAL.COUNT.COUNT n).width (s.rd (CAL.COUNT.COUNT n)) 1)) ∧
      (code ≠ 0 → ((s.calCh n).slices.getD k {}).strikes < 2 → gives (fun t =>
        t.rd CAL.REJECTS.COUNT = satInc CAL.REJECTS.COUNT.width (s.rd CAL.REJECTS.COUNT) 1
          ∧ t.rd (CAL.STATE.DONE n) = done ∧ t.rd (ADC.SLICEk.ROLE n k) = 2 ∧ t.dev = s.dev ∧ coef t = coef s)))

/-- A handover (R45 to R47, R96). A shadow whose outputs lie within their limits takes its position at a slice clock that allows the
step, with one more epoch, and waits for such a slice clock before; one outside them is calibrated again. A full background window shows what it found and ends (R99 to R106): the tone that the estimator
declares, a free value between the limits of R103 (notes/assumptions/31.md), and the flatness. A range factor within its limits is taken and the next range is
measured; one outside them is counted and the run stays at its range (R113). -/
def Obligations.HandoversAndWindows : Prop :=
  (∀ (s : State) (n k : Nat) (codes : List (List Nat)) (ins : List Nat), s.sound → n < 8 → k < 17 → s.up = true →
    s.on ADC.SCLK.OK = true → s.shadowing n = some k → s.rd (CAL.STATE.PASS n) = 2 → (s.calCh n).waiting = none →
    codes.length = 64 → ins.length = 64 →
    (s.handoverCheck (s.shadowDiffs n k (s.rd (ADC.SLICEk.POSITION n k)) codes ins) = 0 → s.stepAllowed (s.lead n) = false →
      s.yields (.handover n codes ins) (fun t => (t.calCh n).waiting = some (k, s.rd (ADC.SLICEk.POSITION n k))
        ∧ t.on (ADC.STATUS.SWAP_PENDING n) = true)) ∧
    (s.handoverCheck (s.shadowDiffs n k (s.rd (ADC.SLICEk.POSITION n k)) codes ins) = 0 → s.stepAllowed (s.lead n) = true →
      s.yields (.handover n codes ins) (fun t => (t.calCh n).waiting = none ∧ t.rd (ADC.SLICEk.ROLE n k) = 0
        ∧ t.rd (ADC.STATUS.SPARE n) = s.sliceAt n (s.rd (ADC.SLICEk.POSITION n k))
        ∧ t.rd (CAL.EPOCH.EPOCH (s.lead n)) = (s.rd (CAL.EPOCH.EPOCH (s.lead n)) + 1) % 2 ^ 32)) ∧
    (s.handoverCheck (s.shadowDiffs n k (s.rd (ADC.SLICEk.POSITION n k)) codes ins) ≠ 0 →
      ((s.calCh n).slices.getD k {}).strikes < 2 →
      s.yields (.handover n codes ins) (fun t => t.rd (ADC.SLICEk.ROLE n k) = 2 ∧ t.rd (CAL.STATE.SLICE n) = k
        ∧ t.rd (CAL.STATE.DONE n) = s.rd (CAL.STATE.DONE n) - 1 ∧ t.dev = s.dev
        ∧ t.rd CAL.REJECTS.COUNT = satInc CAL.REJECTS.COUNT.width (s.rd CAL.REJECTS.COUNT) 1))) ∧
  (∀ (s : State) (n : Nat), s.sound → n < 8 → s.up = true → s.on ADC.SCLK.OK = true →
    (∀ (slope : Int) (eq : List (List Int × List (List Int))) (tones : List (Nat × Int)), s.isLead n = true →
      (s.calCh n).statN = bgWindow → slope ≠ 0 → eq.length = s.posPerSc →
      let tone := (s.toneDecide tones).1
      ((∃ x ∈ tones, x.1 ≤ 16 ∧ s.lim 0x6C ≤ x.2) → tone = true) ∧
      ((∀ x ∈ tones, s.lim 0x6C - 200 ≤ x.2 → 64 < x.1) → tone = false) ∧
      s.yields (.bgWindowComplete n slope eq tones) (fun t => t.on (CAL.SUFF.TONE n) = tone ∧ t.on (CAL.SUFF.OFFSET_OK n) = !tone
        ∧ t.rd (CAL.SUFF.FLAT n) = ofSigned 16 (flatness (s.calCh n).bands) % 2 ^ 16 ∧ (t.calCh n).statN = 0)) ∧
    (∀ r factor x, r < 4 → s.rd (CAL.STATE.PASS n) ≠ 4 → s.on CAL.REF.OK = true → s.chState n = chStopped →
      (s.calCh n).rangeRun = some (r, x) →
      (rangeFactorOk factor = true → s.yields (.rangeCheckComplete n r factor) (fun t =>
        t = s.modCal n (fun c => { c with factors := c.factors.set r factor,
                                          rangeRun := if r = 3 then none else some (r + 1, x) }))) ∧
      (rangeFactorOk factor = false → x < 2 → s.yields (.rangeCheckComplete n r factor) (fun t =>
        (t.calCh n).rangeRun = some (r, x + 1) ∧ t.dev = s.dev
          ∧ t.rd CAL.REJECTS.COUNT = satInc CAL.REJECTS.COUNT.width (s.rd CAL.REJECTS.COUNT) 1))))


/-! ### Stamps and the trigger -/

/-- Edges and stamps (R157, R159 to R163, R165, R170, R176). A selected edge at least 2.5 ns after the last one latched, with a cell
free, waits for its conversion with the unit of which it is a stop, and the next overrun flag goes with it; one too near overruns the
input and leaves its cells alone. A conversion takes the oldest edge, once its cell has drained and the merge comes to the input, while
no marker's record waits; its time, by the curve in force or by multi-phase only, less the delay, leads the times kept, and where no
stop is judged the stamp takes the input's next sequence number. In DARK a selected edge of a stamp input goes into the dark buffer with
the keeper's time. How fast a burst's cells drain is the model's choice (notes/assumptions/39.md). -/
def Obligations.StampsAreTaken : Prop :=
  ∀ (s : State) (i : Nat), s.sound → i < 64 →
    -- the level of TRGIN is followed at its eight balls, inputs 32 to 39
    let level := fun (t : State) (falling : Bool) => (i < 32 → t.trg = s.trg)
      ∧ (32 ≤ i → t.trg = { s.trg with trgin := t.trg.trgin } ∧ t.trg.trgin.testBit (i - 32) = !falling)
    (∀ (falling : Bool) (phase : Nat), i < 40 → s.clk.tbRuns = true → s.live = true → s.dev ≠ devDark → phase < 32 →
      s.edgeSelected i falling = true →
      let now := s.now * 32 + phase
      let near := (s.tin i).lastEdge.any (fun e => decide (now < e + 100))
      (near = false → (s.tin i).cells.length < 16 → s.yields (.stampEdge i falling phase) (fun t => level t falling ∧
        t = { s.modIn i (fun x => { x with
                cells := x.cells ++ [{ tick := s.ticks, phase := phase, falling := falling, edge := s.now, due := max s.now x.drain + 10,
                                       unit := s.stopUnit i, flags := s.stampFlags falling + 64 * b2n x.overrun }],
                lastEdge := some now, drain := max s.now x.drain + 10, overrun := false }) with trg := t.trg })) ∧
      (near = true ∨ 16 ≤ (s.tin i).cells.length → s.yields (.stampEdge i falling phase) (fun t => level t falling
        ∧ t.on (TDC.INi_STATUS.OVERRUN i) = true
        ∧ t.rd TDC.OVERRUN.COUNT = satInc TDC.OVERRUN.COUNT.width (s.rd TDC.OVERRUN.COUNT) 1
        ∧ OnlyRegs { s.modIn i (fun x => { x with overrun := true }) with trg := t.trg } t
            [TDC.INi_STATUS.OVERRUN i, TDC.OVERRUN.COUNT, TDC.OVERRUN.SAT]))) ∧
    (∀ v r rest, s.clk.tbRuns = true → s.live = true → s.dev ≠ devDark → v < 16 → s.tdc.marks = [] → (s.tin i).cells = r :: rest →
      r.due ≤ s.now → s.mergeTurn i = true → s.yields (.vernierConversion i v) (fun t =>
        let raw := if s.on (TDC.INi_STATUS.METHOD i) then r.tick * 65536 + 2048 * r.phase + 1024
          else curveTime (s.tdcCurve i) r.tick (16 * r.phase + v)
        (t.tin i).cells = rest ∧ (t.tin i).latest = ((s.lessDelay i raw, !r.falling) :: (s.tin i).latest).take latestKept
          ∧ (r.unit = none → s.tdc.stops = [] → (t.tin i).seq = ((s.tin i).seq + 1) % 2 ^ 32))) ∧
    (∀ falling : Bool, i < 40 → s.dev = devDark → s.on (TDC.INi_CTL.DARK_STAMP i) = true → s.edgeSelected i falling = true →
      (s.tin i).dark ≠ some s.keeper → s.tdc.dark.length < 256 → s.yields (.darkStamp i falling) (fun t => level t falling
        ∧ (t.tin i).dark = some s.keeper ∧ t.tdc.dark.length = s.tdc.dark.length + 1
          ∧ t.rd TDC.DARKBUF.ENTRIES = (s.tdc.dark.length + 1) % 2 ^ TDC.DARKBUF.ENTRIES.width))

/-- A test of a curve (R167, R168): a code-density test, by its counts H(2i), whose curve is sound and near its seed replaces the curve in force; one
that is not counts a reject, and the third in a row halts the device. A lock measurement of a vernier counts towards its lock, or
breaks it (R164). The spill moves 64 entries of a full tail into
the newest page of its region, while that page has room and every page of the region holds entries (R172). -/
def Obligations.CurvesAndVerniers : Prop :=
  ∀ (s : State) (i : Nat), s.sound → i < 65 → s.live = true → s.dev ≠ devDark →
    (∀ hist : List Nat, hist.length = 256 → s.on (TDC.INi_STATUS.TESTING i) = true →
      let curve := hist.map (fun (h : Nat) => (divHalfEven (65536 * (h : Int)) 4194304).toNat)
      let pass := curveValid curve && (List.range 256).all (fun k => ((curve.getD k 0 : Int) - (s.seed 4 i).getD k 0).natAbs ≤ 512)
      (pass = true → s.yields (.curveTestComplete i hist) (fun t => (t.tin i).curve = some curve ∧ (t.tin i).passed = true
        ∧ (t.tin i).fails = 0 ∧ t.on (TDC.INi_STATUS.TESTING i) = false ∧ t.dev = s.dev)) ∧
      (pass = false → (s.tin i).fails < 2 → s.yields (.curveTestComplete i hist) (fun t => (t.tin i).fails = (s.tin i).fails + 1
        ∧ (t.tin i).curve = (s.tin i).curve
        ∧ t.rd TDC.TEST.REJECTS = satInc TDC.TEST.REJECTS.width (s.rd TDC.TEST.REJECTS) 1 ∧ t.dev = s.dev)) ∧
      (pass = false → 2 ≤ (s.tin i).fails → s.yields (.curveTestComplete i hist) (fun t => t.dev = devHalted
        ∧ t.rd FLT.REASON.CODE = 0x0621 ∧ t.rd FLT.REASON.DETAIL = i))) ∧
    (∀ u (dev : Int) v, u < 2 → s.clk.tbRuns = true → (s.tin i).units[u]? = some v → s.yields (.vernierLockMeasurement i u dev) (fun t =>
      let good := if dev.natAbs ≤ 50 then min 4 (v.good + 1) else 0
      (t.tin i).units[u]? = some (if v.locked then (if 100 < dev.natAbs then ⟨0, false, s.now⟩ else { v with good := good })
          else { v with good := good, locked := decide (good = 4) })
        ∧ OnlyRegs (s.modIn i (fun x => { x with units := (t.tin i).units })) t
            [TDC.INi_STATUS.VERNIER_OK i, TDC.INi_STATUS.METHOD i])) ∧
    (s.clk.tbRuns = true → s.boot.poolSet = true → 4096 ≤ (s.tin i).tail → (s.tin i).loss = none → (s.tin i).head = 4096 →
      s.cap.spill ≠ [] → s.tdc.spillFill + 64 ≤ 4096 → (∀ p ∈ s.cap.spill, ∃ x ∈ s.tdc.ins, ∃ r ∈ x.runs, r.1 = p ∧ 0 < r.2) →
      s.yields (.spillMove i) (fun t => (t.tin i).tail = (s.tin i).tail - 64 ∧ (t.tin i).spill = (s.tin i).spill + 64
        ∧ (t.tin i).q = (s.tin i).q
        ∧ OnlyRegs { s with tdc := t.tdc, cap := { s.cap with reqs := insertReq ⟨2, 1, s.cap.spill.getLastD 0 * 65536, false, 0⟩ s.cap.reqs } } t
            [TDC.INi_STATUS.ON_DIE i, TDC.SPILL.ENTRIES]))

/-- The sequencer and its settings (R186, R192, R196, R204, R208). The event due is taken from the front of the queue; a timer that
runs out presents its event once; a holdoff ends at its time; committed settings come into force at their boundary; the pulses whose WIDTH has passed are
over; a finished learning run gives the channel's mode a curve where that is sound and near its seed. -/
def Obligations.TriggerEvents : Prop :=
  ∀ (s : State) (n : Nat), s.sound → n < 8 →
    -- the event at the front of the queue, where no other comes in: not one of this sequencer, held, missed, committed
    (∀ e, s.up = true → s.isLead n = true → s.seqDue n = true → (s.tch n).queue = [e] → (∀ i, i < 64 → ∀ r ∈ (s.tin i).cells, r.sent = true) →
      (∀ m, m < 8 → ∀ x ∈ (s.tch m).timers, x.on = false) → s.unnumbered = [] → s.rd (TRG.CHn_SEQ.MODE n) = 0 →
      (e.src < 41 ∨ 45 ≤ e.src) → (s.on CAP.ROLL_STATUS.OPEN = true → s.cap.noPage = false ∧ s.cap.ending = none ∧ s.inRoll ≠ []) →
      let taken := s.modTrg n (fun c => { c with queue := [] })
      let mine := e.force = true ∨ e.src = n
      let counted := fun (t : State) => t.rd (TRG.CHn_COUNT.COUNT n) = satInc (TRG.CHn_COUNT.COUNT n).width (s.rd (TRG.CHn_COUNT.COUNT n)) 1
      (¬ mine → s.yields (.sequencerEvent n) (fun t => t = taken)) ∧
      (e.force = false → mine → (s.tch n).hold.kind ≠ 2 → (s.tch n).hold.runs e.time = true → s.yields (.sequencerEvent n) (fun t =>
        counted t ∧ t.rd (TRG.CHn_HELD.COUNT n) = satInc (TRG.CHn_HELD.COUNT n).width (s.rd (TRG.CHn_HELD.COUNT n)) 1
          ∧ OnlyRegs taken t [TRG.CHn_COUNT.COUNT n, TRG.CHn_HELD.COUNT n, TRG.CHn_HELD.SAT n])) ∧
      (mine → (e.force = true ∨ (s.tch n).hold.runs e.time = false) → (s.cch n).cut = none → s.armedFor n e.time = false →
        s.yields (.sequencerEvent n) (fun t => counted t
          ∧ t.rd (TRG.CHn_MISSED.COUNT n) = satInc (TRG.CHn_MISSED.COUNT n).width (s.rd (TRG.CHn_MISSED.COUNT n)) 1
          ∧ OnlyRegs taken t [TRG.CHn_COUNT.COUNT n, TRG.CHn_MISSED.COUNT n, TRG.CHn_MISSED.SAT n])) ∧
      (mine → (e.force = true ∨ (s.tch n).hold.runs e.time = false) → s.armedFor n e.time = true → (s.cch n).stopAt = none →
        s.yields (.sequencerEvent n) (fun t =>
        counted t ∧ t.rd (TRG.CHn_STATUS.LAST_SOURCE n) = e.src % 256 ∧ (t.tch n).queue = []))) ∧
    (∀ k tab, k < 4 → s.isLead n = true → s.listens n = true → s.seqTable n = some tab →
      let tm := (s.tch n).timers.getD k {}
      tm.on = true → tm.queued = false → tm.start + seqPeriod tab k * 65536 ≤ s.tb → (s.cch n).stopAt = none →
      (s.tch n).since ≤ tm.start + seqPeriod tab k * 65536 →
      s.yields (.sequencerTimerExpiry n k) (fun t => t = s.modTrg n (fun c => { c with
        timers := c.timers.set k { tm with queued := true },
        queue := insertEvent { time := tm.start + seqPeriod tab k * 65536, src := 41 + k } c.queue }))) ∧
    (∀ u left, (s.tch n).hold = ⟨1, some u, left⟩ → u ≤ s.tb → s.on (TRG.CHn_STATUS.HOLDOFF n) = true →
      s.yields (.holdoffEnd n) (fun t => t.on (TRG.CHn_STATUS.HOLDOFF n) = false ∧ OnlyRegs s t [TRG.CHn_STATUS.HOLDOFF n])) ∧
    (∀ vals, (s.tch n).committed = some vals → s.isLead n = true → s.up = true → s.on (CAP.CHn_STATUS.OPEN_FRAME n) = false →
      s.yields (.trgSettingsApply n) (fun t => (t.tch n).inForce = vals ∧ (t.tch n).committed = none
        ∧ t.on (TRG.CHn_STATUS.PENDING n) = false ∧ (t.tch n).queue = (s.tch n).queue ∧ (t.tch n).timers = (s.tch n).timers
        ∧ OnlyRegs { s with trg := t.trg } t [TRG.CHn_STATUS.PENDING n])) ∧
    (∀ k, s.yields (.trgoutPulseEnd k) (fun t => (∀ p, p ∈ t.trg.pulse.getD k [] ↔ p ∈ s.trg.pulse.getD k [] ∧ s.ticks < p.2)
      ∧ (∀ j, j ≠ k → t.trg.pulse.getD j [] = s.trg.pulse.getD j [])
      ∧ t = { s with trg := { s.trg with pulse := t.trg.pulse } })) ∧
    (s.rd TRG.CURVE_STATUS.STATUS = 1 → s.rd TRG.CURVE_STATUS.COLLECTED = 4194304 → s.led.audit.length < 16384 →
      let mode := s.rd ADC.MODE.ACTIVE
      let curve := (List.range 256).map (fun i => (divHalfEven (65536 * (histBelow s.trg.hist (256 * i) : Int)) 4194304).toNat)
      let pass := curveValid curve && (List.range 256).all (fun i => ((curve.getD i 0 : Int) - (s.seed 3 mode).getD i 0).natAbs ≤ 1024)
      s.yields .curveLearnComplete (fun t => t.on TRG.CURVE_CTL.LEARN = false ∧ t.trg.hist = []
        ∧ t.rd TRG.CURVE_STATUS.STATUS = (if pass then 2 else 3)
        ∧ (pass = true → t.led.curves.head? = some (mode, curve) ∧ (t.led.audit.head?.map AuditEntry.kind) = some 14)
        ∧ (pass = false → t.led = s.led)))


/-! ### Capture and accumulation as they go on -/

/-- A held START acts, and the next roll of a continuous capture begins (R227, R231): the channels named go into PRIMING in an open
roll, and nothing is held any more. A START held for channels that all run meanwhile is dropped. While a stop of the channel or the end
of the roll is on its way the START stays held, which the premises leave out (the model's choice, notes/assumptions/106.md). -/
def Obligations.RollsBegin : Prop :=
  ∀ s : State, s.sound → s.on ADC.SCLK.OK = true → s.tableFree = true →
    let held := s.leads.filter (fun n => s.cap.heldStart.testBit n && s.chState n == chStopped)
    let next := s.leads.filter (fun n => s.cap.nextChannels.testBit n)
    (s.cap.heldStart ≠ 0 → s.up = true → s.prf.resumeAt = none → s.prf.adopting ≠ 2 → s.rollEnding = false →
      (∀ n ∈ s.leads, s.cap.heldStart.testBit n = true → (s.cch n).stopAt = none) →
      (held = [] → s.yields .heldStartAct (fun t => t.on CAP.ROLL_STATUS.WAIT_TABLE = false ∧ t.on CAP.ROLL_STATUS.WAIT_PAGES = false
        ∧ OnlyRegs { s with cap := { s.cap with heldStart := 0 } } t [CAP.ROLL_STATUS.WAIT_TABLE, CAP.ROLL_STATUS.WAIT_PAGES])) ∧
      (held ≠ [] → s.cap.nextChannels = 0 → s.on CAP.ROLL_STATUS.OPEN = false → s.modeBusy = false → s.boot.entryStep = 0 →
        s.pagesNeeded held ≤ s.freePages → (s.cap.rolled = true → s.cap.rollStart + ticksOfUs 4 ≤ s.now) →
        s.yields .heldStartAct (fun t => t.cap.heldStart = 0 ∧ t.on CAP.ROLL_STATUS.OPEN = true ∧ t.dev = devActive
          ∧ t.cap.rollStart = s.now ∧ ∀ n ∈ held, t.rd (CAP.CHn_STATUS.STATE n) = chPriming
              ∧ t.on (CAP.CHn_STATUS.IN_ROLL n) = true ∧ (t.cch n).invalid = 8192))) ∧
    (next ≠ [] → s.up = true → s.on CAP.ROLL_STATUS.OPEN = false → s.cap.rollEndAt + ticksOfUs 1 ≤ s.now →
      s.cap.rollStart + ticksOfUs 4 ≤ s.now → s.pagesNeeded next ≤ s.freePages →
      s.yields .continuousRollStart (fun t => t.cap.nextChannels = 0 ∧ t.on CAP.ROLL_STATUS.OPEN = true ∧ t.dev = devActive
        ∧ t.cap.rollStart = s.now ∧ ∀ n ∈ next, t.rd (CAP.CHn_STATUS.STATE n) = chPriming ∧ t.on (CAP.CHn_STATUS.IN_ROLL n) = true))

/-- A frame that has all its samples ends: it closes, and behind a trigger the channel is in HOLDOFF (R198); the oldest frame
that closes gets its header and is complete (R235, R236). A change of Q0's reservation takes force where a group begins
(R221);
the slots of the QDR memory go round in windows of 32, whichever class each goes to (R223, R224). -/
def Obligations.FramesEndAndClose : Prop :=
  ∀ (s : State) (n : Nat), s.sound → n < 8 → s.up = true →
    (∀ f, s.isLead n = true → (s.cch n).openF = some f → f.numbered = true → s.frameFull n = true → f.live = false →
      s.cap.ending = none → s.cap.noPage = false → s.inRoll ≠ [] →
      s.yields (.frameEnd n) (fun t => (t.cch n).openF = none
        ∧ (∃ g, (t.cch n).closing = (s.cch n).closing ++ [g] ∧ g.got = f.got ∧ g.number = f.number ∧ g.words = f.words
            ∧ (f.flags.testBit 3 = false ∨ f.stepIdx < f.got → g = f))
        ∧ t.on (CAP.CHn_STATUS.OPEN_FRAME n) = false
        ∧ (f.triggered = true → s.chState n ≠ chPriming → t.chState n = chHoldoff)
        ∧ (f.keep = false → f.triggered = true → s.chState n ≠ chPriming →
            OnlyRegs (s.modCap n (fun _ => t.cch n)) t [CAP.CHn_STATUS.OPEN_FRAME n, CAP.CHn_STATUS.STATE n]))) ∧
    (∀ f rest fr, (s.cch n).closing = f :: rest → f.live = false → f.keep = true → (s.table (f.roll % 2))[f.number]? = some fr →
      s.yields (.frameClosed n) (fun t => (t.cch n).closing = rest ∧ ∃ g ref, (t.table (f.roll % 2))[f.number]? = some g
        ∧ 2 ≤ g.state ∧ g.header = f.header n (f.digest n) ref ∧ g.blocks = fr.blocks ∧ g.samples = fr.samples)) ∧
    (∀ r, s.cap.nextR = some r → s.cap.slot = 0 → s.cap.window % 8 = 0 → s.yields .q0ReservationChange (fun t => t.rd CAP.Q0.RESERVED = r % 2 ^ CAP.Q0.RESERVED.width
      ∧ OnlyRegs { s with cap := { s.cap with nextR := none } } t [CAP.Q0.RESERVED])) ∧
    (∀ err, s.yields (.qdrSlotGrant err) (fun t => t.cap.slot = (if s.cap.slot + 1 < 32 then s.cap.slot + 1 else 0)
      ∧ t.cap.window = (if s.cap.slot + 1 < 32 then s.cap.window else s.cap.window + 1)))

/-- An uncorrectable error in a slot that reads the capture memory, whichever class it is granted to and where the scrubber has it,
halts the device with reason 0x0201 (R241). -/
def Obligations.UncorrectableErrorHalts : Prop :=
  ∀ s : State, s.up = true →
    let u := s.moverNext.combNext
    (u.slotFor = none ∨ u.slotFor = some 4 ∨ ∃ c, u.slotFor = some c ∧ ∃ q, (serveReq c u.cap.reqs).2 = some q ∧ q.read = true) →
    s.yields (.qdrSlotGrant 2) (fun t => t.dev = devHalted ∧ t.rd FLT.REASON.CODE = 0x0201 ∧ t.on FLT.STATE.HALTED = true)

/-- Accumulation as it goes on (R289, R294, R296, R298, R299). While a frame is open a period snapshot is asked of each kind that adds and
does not copy, for that frame's close, and a step of the decay falls due; a copy that is complete leaves its record, where one was made,
in the area with the number of the newest frame in it; a frame that waits is merged into the stack; a tile is merged into the master
copy. -/
def Obligations.AccumulationGoesOn : Prop :=
  ∀ (s : State) (n : Nat), s.sound → n < 8 → s.up = true →
    let sn := fun (kind : Nat) => (s.ach n).snap kind
    (s.isLead n = true → s.chState n ≠ chStopped → (s.cch n).openF.isSome = true →
      (s.rd (ACC.CHn_SNAP_CFG.PERIOD_MS n) ≠ 0 → (sn 0).dueAt ≤ s.ticks → s.yields (.snapshotPeriod n) (fun t =>
        t = (s.modAcc n (fun a => { a with
          stkSnap := { a.stkSnap with dueAt := (sn 0).dueAt + ticksOfMs (s.rd (ACC.CHn_SNAP_CFG.PERIOD_MS n)),
                                      pending := a.stkSnap.pending || !a.stkSnap.copying && s.accOn n 0 },
          mapSnap := { a.mapSnap with pending := a.mapSnap.pending || !a.mapSnap.copying && s.accOn n 1 } })).modCap n (fun c =>
            { c with openF := c.openF.map (fun f => { f with bound := true }) }))) ∧
      (s.on (ACC.CHn_MAP_CFG.EN n) = true → s.on (ACC.CHn_MAP_CFG.DECAY n) = true → (s.ach n).decayDueAt ≤ s.ticks →
        s.yields (.decayStep n) (fun t => t = s.modAcc n (fun a => { a with
          decayDue := a.decayDue + 1, decayDueAt := a.decayDueAt + ticksOfMs (s.rd (ACC.CHn_SNAP_CFG.DECAY_MS n)) })))) ∧
    (∀ kind, kind < 2 → (sn kind).copying = true → (sn kind).clear = false → s.waitingFor (snapTag n kind) = 0 →
      (if kind = 0 then (s.ach n).wait = [] else (sn 1).taken.isSome = true) →
      s.yields (.accSnapshot n kind) (fun t => ((t.ach n).snap kind).copying = false ∧ ((t.ach n).snap kind).readers = []
        ∧ ((t.ach n).snap kind).taken = none
        ∧ (t.ach n).tiles = (s.ach n).tiles ∧ (t.ach n).merging = (s.ach n).merging ∧ (t.ach n).master = (s.ach n).master
        ∧ ((kind = 0 → (s.ach n).stk.any = true) →
            t.on (if kind = 0 then ACC.CHn_SNAP_STK.VALID n else ACC.CHn_SNAP_MAP.VALID n) = true
            ∧ ∃ area, ((t.ach n).snap kind).area = some area
              ∧ (kind = 0 → area.frame = (s.ach n).stk.last.number) ∧ (∀ m, kind = 1 → (sn 1).taken = some m → area.frame = m.frame)))) ∧
    (∀ u i rest fr, (s.ach n).wait = (u, i) :: rest → (s.table u)[i]? = some fr → fr.state = 2 →
      (s.cch n).openF.isSome = true → le fr.header 0x34 4 ≤ s.accRd n (ACC.CHn_STK_FIRST.SAMPLE n) → s.stkFull n = false →
      s.waitingFor (stackTag n) = 0 →
      s.yields (.stackMerge n) (fun t => (t.ach n).wait = rest ∧ t.rd (ACC.CHn_STK_STATUS.FRAMES n)
        = (s.rd (ACC.CHn_STK_STATUS.FRAMES n) + 1) % 2 ^ (ACC.CHn_STK_STATUS.FRAMES n).width)) ∧
    (∀ tile cells rest, (s.ach n).merging = (tile, cells) :: rest → s.waitingFor (tileTag n) = 0 → s.yields (.tileMerge n) (fun t =>
      (t.ach n).merging = rest ∧ (t.ach n).master = (mergeCells (s.ach n).master cells).1 ∧ (t.ach n).tiles = (s.ach n).tiles
        ∧ (t.ach n).due = (s.ach n).due))


/-! ### The Comb -/

/-- The arithmetic of a cell (R313, R322, R323), for every word of the ALU, MAC and DMAC classes: the true result of the operation is
stored wrapped or, with SAT, clamped at 56 bits; N and Z follow what is stored, V records a true result outside 56 bits; both moves
are made from what stood before; the cell goes on, and nothing but the cell changes. A division by 0 traps. -/
def Obligations.CombArithmetic : Prop :=
  ∀ (s : State) (c w : Nat),
    let x := s.cell c
    let kept := fun (r : Int) => ofSigned 56 (if pwSat w then max (-2 ^ 55) (min (2 ^ 55 - 1) r) else r)
    let store := fun (y : Cell) (acc : Nat) (r : Int) => { y with a := y.a.set acc (kept r) }
    let sticky := fun (y : Cell) (r : Int) => { y with fV := y.fV || decide (r < -2 ^ 55 ∨ 2 ^ 55 ≤ r) }
    let flags := fun (y : Cell) (r : Int) => { sticky y r with fN := decide (2 ^ 55 ≤ kept r), fZ := decide (kept r = 0) }
    let goes := fun (i : Instr) (y : Cell) => s.yields i (fun t => t = s.modCell c (fun _ => (x.moves y w).advance))
    let dst := x.aS (pwDst w)
    let sa := if pwSA w < 8 then x.dS (pwSA w) else x.aS (pwSA w - 8)
    let u := fun (v : Int) => ofSigned 56 v
    let result := fun (r : Int) => flags (store x (pwDst w) r) r
    let p := x.dS (pwSA w % 8) * x.dS (pwSB w % 8)
    let even := pwPair w
    let ab := x.dS (bits w 35 3) * x.dS (bits w 32 3)
    let cd := x.dS (bits w 29 3) * x.dS (bits w 26 3)
    let one := fun (r : Int) => flags (store x even r) r
    let both := fun (re ro : Int) => sticky (store (flags (store x even re) re) (even + 1) ro) ro
    -- an instruction of class `cls` and op code `op` that the cell issues goes on with cell `y`
    let runs := fun (i : Instr) (cls op : Nat) (y : Cell) => s.issues c cls op = some w → goes i y
    runs (.cellMove c) 0 0x00 (result sa) ∧
    runs (.cellClr c) 0 0x01 (result 0) ∧
    runs (.cellAdd c) 0 0x02 (result (dst + sa)) ∧
    runs (.cellSub c) 0 0x03 (result (dst - sa)) ∧
    runs (.cellNeg c) 0 0x04 (result (-sa)) ∧
    runs (.cellAbs c) 0 0x05 (result (if sa < 0 then -sa else sa)) ∧
    runs (.cellMax c) 0 0x06 (result (if dst < sa then sa else dst)) ∧
    runs (.cellMin c) 0 0x07 (result (if dst < sa then dst else sa)) ∧
    runs (.cellAnd c) 0 0x09 (result (toSigned 56 (u dst &&& u sa))) ∧
    runs (.cellOr c) 0 0x0A (result (toSigned 56 (u dst ||| u sa))) ∧
    runs (.cellXor c) 0 0x0B (result (toSigned 56 (u dst ^^^ u sa))) ∧
    runs (.cellAsl c) 0 0x0C (result (sa * 2 ^ pwShift w)) ∧
    runs (.cellAsr c) 0 0x0D (result (Int.fdiv sa (2 ^ pwShift w))) ∧
    runs (.cellLsr c) 0 0x0E (result ((u sa / 2 ^ pwShift w : Nat) : Int)) ∧
    (s.issues c 0 0x08 = some w → goes (.cellCmp c) (flags x (dst - sa))) ∧
    (∀ n : Nat, s.issues c 0 0x0F = some w → n ≤ 55 → (∀ k, k < n → (u sa).testBit (54 - k) = (u sa).testBit 55) →
      (n = 55 ∨ (u sa).testBit (54 - n) ≠ (u sa).testBit 55) → goes (.cellCls c) (result n)) ∧
    (∀ q : Int, s.issues c 0 0x10 = some w → sa ≠ 0 → 2 * (dst - q * sa).natAbs ≤ sa.natAbs →
      (2 * (dst - q * sa).natAbs = sa.natAbs → q % 2 = 0) → goes (.cellDiv c) (result q)) ∧
    (s.issues c 0 0x10 = some w → sa = 0 → x.dma = [] → c % 24 ≠ 23 → s.yields (.cellDiv c) (fun t =>
      t.cellState c = cellTrapped ∧ t.rd (CMB.CELLc.TRAP c) = 6)) ∧
    (∀ r : Nat, s.issues c 0 0x11 = some w → 0 ≤ sa → (r = 0 ∨ ((2 * r - 1) ^ 2 : Nat) ≤ 4 * sa) → 4 * sa < ((2 * r + 1) ^ 2 : Nat) →
      goes (.cellSqrt c) (result r)) ∧
    (s.issues c 0 0x11 = some w → sa < 0 → goes (.cellSqrt c) { x with a := x.a.set (pwDst w) 0, fN := false, fZ := true, fV := true }) ∧
    runs (.cellMul c) 1 0x00 (result p) ∧
    runs (.cellMla c) 1 0x01 (result (dst + p)) ∧
    runs (.cellMls c) 1 0x02 (result (dst - p)) ∧
    runs (.cellMlah c) 1 0x03 (result (Int.fdiv dst (2 ^ 24) + p)) ∧
    runs (.cellDmul c) 2 0 (both ab cd) ∧
    runs (.cellDmla c) 2 1 (both (x.aS even + ab) (x.aS (even + 1) + cd)) ∧
    runs (.cellDmls c) 2 2 (both (x.aS even - ab) (x.aS (even + 1) - cd)) ∧
    runs (.cellDsum c) 2 3 (one (x.aS even + ab + cd)) ∧
    runs (.cellDdif c) 2 4 (one (x.aS even + ab - cd))

/-- The operands of a cell (R314, R315, R319, R321, R323). A move loads a word of X or Y memory, stores a register or copies one,
through the scaler where an accumulator goes into 24 bits, and updates its cursor; every word of the IMM and ADDR classes does what
its operation says to one register or one field of a cursor, the others standing. -/
def Obligations.CombMovesAndImmediates : Prop :=
  (∀ (x y : Cell) (w : Nat) (b : Bool), bits w (if b then 0 else 12) 12 = 0 →
    let m := bits w (if b then 12 else 0) 12
    let z := x.moves y w
    let ci := bits m 8 2 + (if b then 0 else 4)
    let q := x.cur.getD ci 0
    let q' := [q, curStep q 1, curStep q (-1), curStep q (curStride q)].getD (bits m 6 2) q
    let mem := fun (v : Cell) => if b then v.x else v.y
    -- what a register gives to 24 bits, and whether the scaler limits it
    let r24 := fun (k : Nat) => if k < 8 then (ofSigned 24 (x.dS k), false) else
      let v := roundShiftEven (x.aS (k - 8)) x.sh
      (ofSigned 24 (max (-2 ^ 23) (min (2 ^ 23 - 1) v)), decide (v < -2 ^ 23 ∨ 2 ^ 23 ≤ v))
    (bits m 10 2 = 0 → z = y) ∧
    (bits m 10 2 = 1 → z = { y.setReg (bits m 2 4) (toSigned 24 (SMap.get 0 (mem x) (curAddr q))) with cur := y.cur.set ci q' }) ∧
    (bits m 10 2 = 2 → mem z = SMap.set 0 (mem y) (curAddr q) (r24 (bits m 2 4)).1 ∧ z.cur = y.cur.set ci q'
      ∧ z.fL = (y.fL || (r24 (bits m 2 4)).2) ∧ z = { y with x := z.x, y := z.y, cur := z.cur, fL := z.fL }
      ∧ (if b then z.y = y.y else z.x = y.x)) ∧
    (bits m 10 2 = 3 → bits m 2 4 < 8 → z = { y with d := y.d.set (bits m 2 4) (r24 (bits m 6 4)).1,
                                                     fL := y.fL || (r24 (bits m 6 4)).2 }) ∧
    (bits m 10 2 = 3 → 8 ≤ bits m 2 4 →
      let r := if bits m 6 4 < 8 then x.dS (bits m 6 4) else x.aS (bits m 6 4 - 8)
      z = { y with a := y.a.set (bits m 2 4 - 8) (ofSigned 56 r) })) ∧
  (∀ (s : State) (c w : Nat),
    let x := s.cell c
    let goes := fun (i : Instr) (y : Cell) => s.yields i (fun t => t = s.modCell c (fun _ => y.advance))
    let imm := pwImm w
    let k := pwReg w - 8
    let kept := fun (r : Int) => ofSigned 56 (if pwSat w then max (-2 ^ 55) (min (2 ^ 55 - 1) r) else r)
    let outside := fun (r : Int) => decide (r < -2 ^ 55 ∨ 2 ^ 55 ≤ r)
    (s.issues c 3 0 = some w → goes (.cellLdi c) (if pwReg w < 8 then { x with d := x.d.set (pwReg w) (ofSigned 24 imm) }
      else { x with a := x.a.set k (ofSigned 56 imm) })) ∧
    (8 ≤ pwReg w → (s.issues c 3 1 = some w → goes (.cellAddi c) { x with
        a := x.a.set k (kept (x.aS k + imm)), fV := x.fV || outside (x.aS k + imm) }) ∧
      (s.issues c 3 2 = some w → goes (.cellCmpi c) { x with
        fN := decide (2 ^ 55 ≤ kept (x.aS k - imm)), fZ := decide (kept (x.aS k - imm) = 0), fV := x.fV || outside (x.aS k - imm) }) ∧
      (s.issues c 3 3 = some w → goes (.cellAndi c) { x with a := x.a.set k (ofSigned 56 (x.aS k) &&& ofSigned 56 imm) })) ∧
    let q := x.cur.getD (pwCur w) 0
    let l := curLen q
    let d := (curAddr q + 16384 - curBase q) % 16384
    let delta := toSigned 14 (pwAImm w)
    -- one field of the cursor takes a value, the others stand
    let cur := fun (i : Instr) (a b l : Nat) (st : Int) (m : Nat) => s.yields i (fun t => ∃ q', curAddr q' = a ∧ curBase q' = b
      ∧ curLen q' = l ∧ curStride q' = st ∧ curMode q' = m
      ∧ t = s.modCell c (fun _ => ({ x with cur := x.cur.set (pwCur w) q' } : Cell).advance))
    (s.issues c 4 0 = some w → cur (.cellSeta c) (pwAImm w) (curBase q) l (curStride q) (curMode q)) ∧
    (s.issues c 4 1 = some w →
      (curMode q = 0 ∨ curMode q = 3 → cur (.cellAdda c) (((curAddr q : Int) + delta) % 16384).toNat (curBase q) l (curStride q) (curMode q)) ∧
      (curMode q = 1 → cur (.cellAdda c) ((curBase q + (((d : Int) + delta) % l).toNat) % 16384) (curBase q) l (curStride q) 1) ∧
      (∀ n, curMode q = 2 → l = 2 ^ n → cur (.cellAdda c)
        ((curBase q + revBits n ((((revBits n (d % l) : Nat) : Int) + delta) % l).toNat) % 16384) (curBase q) l (curStride q) 2)) ∧
    (s.issues c 4 2 = some w → cur (.cellSetb c) (curAddr q) (pwAImm w) l (curStride q) (curMode q)) ∧
    (s.issues c 4 3 = some w → cur (.cellSetw c) (curAddr q) (curBase q) (pwAImm w + 1) (curStride q) (bits w 14 2)) ∧
    (s.issues c 4 4 = some w → cur (.cellSets c) (curAddr q) (curBase q) l (toSigned 12 (bits w 0 12)) (curMode q)) ∧
    (s.issues c 4 5 = some w → cur (.cellMva c) (x.d.getD (pwAReg w) 0 % 2 ^ 14) (curBase q) l (curStride q) (curMode q)) ∧
    (s.issues c 4 6 = some w → goes (.cellMvd c) { x with d := x.d.set (pwAReg w) (curAddr q) }) ∧
    (8 ≤ pwAReg w →
      (s.issues c 4 7 = some w → goes (.cellMvc c) { x with cur := x.cur.set (pwCur w) (x.a.getD (pwAReg w - 8) 0 % 2 ^ 56) }) ∧
      (s.issues c 4 8 = some w → goes (.cellMcv c) { x with a := x.a.set (pwAReg w - 8) (q % 2 ^ 56) })) ∧
    (s.issues c 4 9 = some w → goes (.cellSetsh c) { x with sh := pwAImm w }))

/-- The flow of a cell (R316, R324, R342, R343): a repeated instruction stays until its count is used up; behind the last instruction of
a loop the next pass begins, or the loop ends; branches, calls, returns and LEAVE go by their condition; a fifth loop, a seventeenth
call and a return from none trap; HALT and TRAP stop the cell, with a DMA request outstanding once that is complete. -/
def Obligations.CombFlow : Prop :=
  ∀ (s : State) (c w : Nat), s.sound → c < 192 →
    let x := s.cell c
    let goes := fun (i : Instr) (y : Cell) => s.yields i (fun t => t = s.modCell c (fun _ => y))
    let traps := fun (i : Instr) (cause : Nat) => x.dma = [] → c % 24 ≠ 23 → s.yields i (fun t =>
      t.cellState c = cellTrapped ∧ t.rd (CMB.CELLc.TRAP c) = cause ∧ (t.cell c).pc = x.pc)
    let holds := [true, x.fZ, !x.fZ, x.fN, !x.fN, x.fN || x.fZ, !(x.fN || x.fZ), x.fV, !x.fV, x.fL, !x.fL].getD (pwCond w) false = true
    let next := (x.pc + 1) % 8192
    let entered := fun (n : Nat) => { x with loops := ⟨next, pwTarget w, n⟩ :: x.loops, pc := next }
    (s.issues c 5 0 = some w → goes (.cellNop c) x.advance ∧
      (1 < x.rpt → goes (.cellNop c) { x with rpt := x.rpt - 1 }) ∧
      (x.rpt ≤ 1 → x.loops = [] → goes (.cellNop c) { x with rpt := 0, pc := next }) ∧
      (∀ e es, x.rpt ≤ 1 → x.loops = e :: es →
        (e.last ≠ x.pc → goes (.cellNop c) { x with rpt := 0, pc := next }) ∧
        (e.last = x.pc → 1 < e.left → goes (.cellNop c) { x with rpt := 0, pc := e.start, loops := { e with left := e.left - 1 } :: es }) ∧
        (e.last = x.pc → e.left ≤ 1 → goes (.cellNop c) ({ x with rpt := 0, loops := es } : Cell).advance))) ∧
    (s.issues c 5 1 = some w → (holds → goes (.cellBra c) { x with pc := pwTarget w }) ∧ (¬ holds → goes (.cellBra c) x.advance)) ∧
    (s.issues c 5 2 = some w → (¬ holds → goes (.cellCall c) x.advance) ∧
      (holds → x.calls.length < 16 → goes (.cellCall c) { x with calls := x.pc :: x.calls, pc := pwTarget w }) ∧
      (holds → 16 ≤ x.calls.length → traps (.cellCall c) 2)) ∧
    (s.issues c 5 3 = some w → (¬ holds → goes (.cellRet c) x.advance) ∧
      (∀ a as, holds → x.calls = a :: as → goes (.cellRet c) (({ x with calls := as } : Cell).flowFrom a)) ∧
      (holds → x.calls = [] → traps (.cellRet c) 3)) ∧
    (s.issues c 5 4 = some w → (x.loops.length < 4 → goes (.cellLoop c) (entered (bits w 13 16 + 1))) ∧
      (4 ≤ x.loops.length → traps (.cellLoop c) 1)) ∧
    (s.issues c 5 5 = some w → let n := x.d.getD (pwAReg w) 0
      (n = 0 → goes (.cellLoopr c) (x.flowFrom (pwTarget w))) ∧
      (n ≠ 0 → x.loops.length < 4 → goes (.cellLoopr c) (entered n)) ∧
      (n ≠ 0 → 4 ≤ x.loops.length → traps (.cellLoopr c) 1)) ∧
    (s.issues c 5 6 = some w → goes (.cellRpt c) { x.advance with rpt := bits w 13 16 + 1 }) ∧
    (s.issues c 5 7 = some w → (¬ holds → goes (.cellLeave c) x.advance) ∧
      (∀ e es, holds → x.loops = e :: es → goes (.cellLeave c) (({ x with loops := es } : Cell).flowFrom e.last))) ∧
    (s.issues c 5 8 = some w →
      (x.dma = [] → s.yields (.cellHalt c) (fun t => t.cellState c = cellHalted ∧ (t.cell c).pc = x.advance.pc ∧ (t.cell c).rec_ = none)) ∧
      (x.dma ≠ [] → goes (.cellHalt c) { x.advance with stop := some 0 })) ∧
    (s.issues c 5 9 = some w →
      (x.dma = [] → c % 24 ≠ 23 → s.yields (.cellTrap c) (fun t => t.cellState c = cellTrapped ∧ t.rd (CMB.CELLc.TRAP c) = 7
        ∧ (t.cell c).trapCode = pwCode w ∧ (t.cell c).pc = x.pc)) ∧
      (x.dma ≠ [] → goes (.cellTrap c) { x with trapCode := pwCode w, stop := some 7 })) ∧
    (s.issues c 5 10 = some w → goes (.cellClrf c) ({ x with fV := false, fL := false } : Cell).advance)

/-- The streams of a cell (R330, R331, R334, R335, R348). IN takes the oldest ready buffer into both cursors of its index or waits; FREE
gives the oldest held one back; OPEN, OUT and CLOSE build a result record; DMA issues the descriptor that its cursor names behind those
issued before, DWAIT goes on with none outstanding and else waits; a stream instruction out of order traps. A cell that waited runs again. -/
def Obligations.CombStreams : Prop :=
  ∀ (s : State) (c w : Nat), s.sound → c < 192 →
    let x := s.cell c
    let shown := [CMB.CELLc.STATE c, CMB.SUPn_EST.STATE (c / 24), CMB.STATUS.RUNNING, CMB.STATUS.WAITING]
    let goes := fun (i : Instr) (y : Cell) => s.yields i (fun t => OnlyRegs (s.modCell c (fun _ => { y.advance with stalled := false })) t shown
      ∧ t.cellState c = (if s.cellState c = cellWaiting then cellRunning else s.cellState c))
    let waits := fun (i : Instr) (y : Cell) => s.yields i (fun t => OnlyRegs (s.modCell c (fun _ => { y with stalled := true })) t shown
      ∧ t.cellState c = (if s.cellState c = cellRunning then cellWaiting else s.cellState c))
    let traps := fun (i : Instr) (cause : Nat) => x.dma = [] → c % 24 ≠ 23 → s.yields i (fun t =>
      t.cellState c = cellTrapped ∧ t.rd (CMB.CELLc.TRAP c) = cause)
    let on := fun (port : Nat) (f : Binding → Binding) => x.binds.map (fun b => if b.port = port then f b else b)
    (∀ b, x.bind? (pwPort w) = some b →
      (s.issues c 6 0 = some w →
        (b.ready = [] → waits (.cellIn c) x) ∧
        (∀ i rest, b.ready = i :: rest →
          let base := b.base + i * b.words
          let put := fun (l : List Nat) (k : Nat) => l.set k (curAt (l.getD k 0) base)
          goes (.cellIn c) { x with
            binds := on b.port (fun b => { b with ready := rest, held := b.held ++ [i], bufs := b.bufs.set i 3 })
            cur := put (put x.cur (pwIdx w)) (4 + pwIdx w) })) ∧
      (s.issues c 6 1 = some w →
        (b.held = [] → traps (.cellFree c) 5) ∧
        (∀ i rest, b.held = i :: rest →
          goes (.cellFree c) { x with binds := on b.port (fun b => { b with held := rest, bufs := b.bufs.set i 0 }) })) ∧
      (s.issues c 6 2 = some w → x.rec_ = none →
        (pwLink w = 15 → goes (.cellOpen c) { x with rec_ := some ⟨pwPort w, s.selection b.param, false, [], []⟩ }) ∧
        (∀ h, pwLink w ≠ 15 → x.heldHeader (pwLink w) = some h →
          goes (.cellOpen c) { x with rec_ := some ⟨pwPort w, s.selection b.param, true, h, []⟩ }))) ∧
    (s.issues c 6 2 = some w → x.rec_.isSome = true → traps (.cellOpen c) 4) ∧
    (∀ r, x.rec_ = some r →
      (s.issues c 6 3 = some w → (4096 ≤ r.words.length → traps (.cellOut c) 4) ∧
        (r.words.length < 4096 → goes (.cellOut c) { x with
          rec_ := some { r with words := r.words ++ [ofSigned 24 (x.src24 (pwAReg w)).1] }, fL := x.fL || (x.src24 (pwAReg w)).2 })) ∧
      (s.issues c 6 4 = some w → waits (.cellClose c) { ({ x with
        rec_ := none, recSeq := (x.recSeq + 1) % 2 ^ 32,
        closed := x.closed ++ [(r.port, x.recSeq, recordBytes c x.recSeq s.ticks r false)] } : Cell).advance with inClose := true })) ∧
    (x.rec_ = none → (s.issues c 6 3 = some w → traps (.cellOut c) 4) ∧ (s.issues c 6 4 = some w → traps (.cellClose c) 4)) ∧
    (s.issues c 6 5 = some w →
      let a := curAddr (x.cur.getD (pwIdx w) 0)
      (4 ≤ x.dma.length → waits (.cellDma c) x) ∧
      (x.dma.length < 4 → s.yields (.cellDma c) (fun t => ∃ ds reads, t.cell c = { ({ x with
          x := SMap.set 0 x.x ((a + 5) % 16384) 0 } : Cell).advance with stalled := false, dma := ds, copies := reads }
        ∧ ds.map Dma.desc = x.dma.map Dma.desc ++ [a]
        ∧ ds.map Dma.words = x.dma.map Dma.words ++ [(List.range 8).map (fun k => x.word false (a + k))]))) ∧
    (s.issues c 6 6 = some w → (x.dma = [] → goes (.cellDwait c) x) ∧ (x.dma ≠ [] → waits (.cellDwait c) x)) ∧
    (s.issues c 6 7 = some w → s.yields (.cellEvent c) (fun t => OnlyLogged (s.modCell c (fun _ => { x.advance with stalled := false })) t shown
      ∧ t.cellState c = (if s.cellState c = cellWaiting then cellRunning else s.cellState c)))

/-- What comes to a cell from outside (R325, R327, R329, R331, R334, R335, R338). A load that ends leaves the cell LOADED with its
program; a frame of a tap or the stamps held become a ready buffer; a DMA request whose reads are made is completed with its status and
count in its descriptor; the result path takes the oldest closed record, and the CLOSE that waited goes on. -/
def Obligations.CellsAreServed : Prop :=
  ∀ (s : State) (c : Nat), s.sound → c < 192 → s.up = true →
    let x := s.cell c
    (∀ n bs, s.cellState c = cellLoading → x.loading = some n →
      (if c % 24 = 23 then s.cmb.maker[n]? else s.prog? n) = some bs → s.yields (.cellLoadComplete c) (fun t =>
        t.cellState c = cellLoaded ∧ t.rd (CMB.CELLc.LOADED c) = n % 2 ^ (CMB.CELLc.LOADED c).width ∧ t.rd (CMB.CELLc.TRAP c) = 0
          ∧ t.cell c = loadedCell x bs)) ∧
    (∀ port b, s.cellExecutes c = true → x.bind? port = some b →
      (∀ err v rest, b.kind = 1 → b.waits = v :: rest → v.ready = true → s.yields (.bufferReady c port err) (fun t =>
        (∃ b', (t.cell c).bind? port = some b' ∧ b'.waits = rest ∧ b'.ready = b.ready ++ [v.buf] ∧ b'.skipped = 0)
          ∧ t.rd (CMB.SUPn_TAP.FRAMES (c / 24)) = satInc (CMB.SUPn_TAP.FRAMES (c / 24)).width (s.rd (CMB.SUPn_TAP.FRAMES (c / 24))) 1)) ∧
      (∀ i first st more, b.kind = 3 → b.stamps = (first, st) :: more → first + b.param ≤ s.ticks → b.freeBuf = some i → 0 < b.stampRoom →
        s.yields (.stampsFlush c port) (fun t => ∃ b', (t.cell c).bind? port = some b'
          ∧ b'.stamps = (Binding.flushLoss { b with stamps := b.stamps.drop b.stampRoom } s.ticks).stamps
          ∧ b'.ready = b.ready ++ [i]))) ∧
    (∀ err d rest, x.dma = d :: rest → d.kind = 1 → d.begun = true → s.dmaReading c = false →
      let f := (s.table d.table)[d.frame]?
      s.yields (.dmaComplete c err) (fun t => (t.cell c).dma.map Dma.desc = rest.map Dma.desc
        ∧ (t.cell c).dma.map Dma.words = rest.map Dma.words
        ∧ (f = none → (t.cell c).word false (d.desc + 5) = 2)
        ∧ (∀ g, f = some g → d.held = false → (t.cell c).word false (d.desc + 5) = (if g.state = 4 ∨ g.state = 5 then 3 else 2))
        ∧ (∀ g, f = some g → d.held = true → let n := d.w 3
            let bad := n = 0 ∨ 16336 < n ∨ g.samples < d.w 2 + n ∨ 16384 < d.w 4 + 48 + itemWords g.format n
            (bad → (t.cell c).word false (d.desc + 5) = 4 ∧ (t.cell c).word false (d.desc + 6) = 0)
              ∧ (¬ bad → (t.cell c).word false (d.desc + 5) = 1 ∧ (t.cell c).word false (d.desc + 6) = n)))) ∧
    (∀ port n bs rest, x.closed = (port, n, bs) :: rest → s.yields (.resultPathTaken c) (fun t => (t.cell c).closed = rest
      ∧ (rest = [] → (t.cell c).inClose = false)
      ∧ (s.resultStreams c port = [] → t.rd (CMB.SUPn_RESULT.DROPPED (c / 24))
          = satInc (CMB.SUPn_RESULT.DROPPED (c / 24)).width (s.rd (CMB.SUPn_RESULT.DROPPED (c / 24))) 1)
      ∧ (rest = [] → x.inClose = true → s.cellState c = cellWaiting → t.cellState c = cellRunning)))


/-! ### The archive's memory -/

/-- The DRAM while it is served (R356 to R371). A refresh closes every row and a change of rate takes force at it, and one step past its
deadline may be forced behind it; a periodic step notes its time, a forced one is counted, and one that may not be forced does nothing;
a temperature outside the range or drift beyond the reach of its tracking halts the device; ZQ calibration leaves the data alone; an
idle drain writes the buffered pieces; a read that ends leaves its queue, is counted where it is late, and an uncorrectable error in it
halts; self-refresh is entered when idle with every row closed, and left at the next request; a record whose last byte is written gets
its index entry and is visible. -/
def Obligations.ArchiveMemoryIsServed : Prop :=
  ∀ (s : State) (k : Nat), s.sound → k < 4 →
    -- periodic step `i` noted as made now, a forced one using up the refresh before it
    let step := fun (i : Nat) (forced : Bool) =>
      s.modArc (fun a => { a with stepAt := a.stepAt.set i s.now, forceOpen := a.forceOpen && !forced })
    let steps := fun (forced : Bool) => [(0, 1100, Instr.mr4Poll (s.on DRM.STATE.REFRESH_2X) none forced),
      (1, 4400, .dqsTrack none forced), (2, 140000, .zqCalibration forced)]
    (s.dramUp = true → s.live = true →
      (s.yields .ddrRefresh (fun t => (∀ b ∈ t.arc.subs, b.rows = []) ∧ t.arc.rate = none ∧ t.arc.mem = s.arc.mem
        ∧ t.arc.forceOpen = true ∧ (∀ hot, s.arc.rate = some hot → t.on DRM.STATE.REFRESH_2X = hot)
        ∧ (s.arc.rate = none → t = { s with arc := { s.arc with subs := t.arc.subs, forceOpen := true } }))) ∧
      (∀ hot, s.yields (.mr4Poll hot none false) (fun t =>
        t = (step 0 false).modArc (fun a => { a with rate := if hot = s.on DRM.STATE.REFRESH_2X then none else some hot }))) ∧
      (∀ hot d temp, s.yields (.mr4Poll hot (some (d, temp)) false) (fun t => Halts (step 0 false) t 0x0410 (d % 4) (ofSigned 16 temp))) ∧
      (s.yields (.dqsTrack none false) (fun t => t = step 1 false)) ∧
      (∀ d r, s.yields (.dqsTrack (some (d, r)) false) (fun t => Halts (step 1 false) t 0x0203 (d % 4 + r % 2 * 16) 0)) ∧
      (s.yields (.zqCalibration false) (fun t => t = step 2 false)) ∧
      (∀ x ∈ steps true, s.arc.forceOpen = true → s.arc.rate = none → s.arc.stepAt.getD x.1 0 + ticksOfUs x.2.1 ≤ s.now →
        s.yields x.2.2 (fun t => t.rd DRM.TRACK.FORCED = satInc DRM.TRACK.FORCED.width (s.rd DRM.TRACK.FORCED) 1
          ∧ OnlyRegs (step x.1 true) t [DRM.TRACK.FORCED, DRM.TRACK.SAT])) ∧
      (∀ x ∈ steps true, s.arc.forceOpen = false ∨ s.now < s.arc.stepAt.getD x.1 0 + ticksOfUs x.2.1 → s.yields x.2.2 (fun t => t = s)) ∧
      (∀ w ws, (s.sub k).writes = w :: ws → (s.sub k).reads = [] → (s.sub k).drain = none → s.urgency w ≠ 3 →
        (s.sub k).writes.length < s.rd DRM.WM.HIGH → s.arc.fifo = [] → s.arc.outside = [] → s.yields (.writeDrain k) (fun t =>
          (t.sub k).writes = [] ∧ (t.sub k).inOrder = [] ∧ (t.sub k).drain = none
            ∧ t.arc.mem = (w :: ws).foldl (fun m p => Memory.write 0 m p.addr p.data) s.arc.mem
            ∧ OnlyRegs { s with arc := t.arc } t [DRM.ARCH_STATUS.STAGING])) ∧
      (∀ i p err, s.chooseRead k = some i → (s.sub k).reads[i]? = some p → (s.sub k).outside = [] → err < 2 →
        s.yields (.ddrReadComplete k [] err) (fun t => (t.sub k).reads = (s.sub k).reads.eraseIdx i
          ∧ t.rd DRM.LATE.COUNT = (if s.rd (DRM.PORTk_TARGET.US p.port) * 1250 < s.now - p.at_
              then satInc DRM.LATE.COUNT.width (s.rd DRM.LATE.COUNT) 1 else s.rd DRM.LATE.COUNT))) ∧
      (∀ i p, s.chooseRead k = some i → (s.sub k).reads[i]? = some p → s.yields (.ddrReadComplete k [] 2) (fun t =>
        t.dev = devHalted ∧ t.rd FLT.REASON.CODE = 0x0202)) ∧
      (s.up = true → s.on DRM.SR_CTL.IDLE_EN = true → s.dramIdle = true → s.pro.composing = none → s.readDeadline = none →
        s.arc.lastReq + ticksOfUs (s.rd DRM.SR_CTL.IDLE_US) ≤ s.now → s.yields .selfRefreshEntry (fun t =>
          t.rd DRM.STATE.STATE = 3 ∧ t.on (CLK.PLLn_STATUS.LOCKED 3) = false ∧ (∀ b ∈ t.arc.subs, b.rows = [])
            ∧ t.rd DRM.SR_STATUS.ENTRIES = satInc DRM.SR_STATUS.ENTRIES.width (s.rd DRM.SR_STATUS.ENTRIES) 1
            ∧ OnlyRegs { s with clk := t.clk, arc := { s.arc with subs := t.arc.subs } } t [DRM.STATE.STATE, DRM.SR_STATUS.ENTRIES,
                CLK.PLLn_STATUS.LOCKED 3, CLK.PLLn_STATUS.COAST 3, CLK.PLLn_STATUS.RELOCK 3, CLK.PLLn_STATUS.GATED 3]))) ∧
    (s.up = true → s.rd DRM.STATE.STATE = 3 → s.dramIdle = false →
      (s.clk.pll3Off = true ∨ s.on (CLK.PLLn_STATUS.LOCKED 3) = false → s.yields .selfRefreshExit (fun t => t.rd DRM.STATE.STATE = 5
        ∧ (s.clk.pll3Off = true → t.clk.pll3Off = false ∧ (s.on CLK.REF.OK = true → t.on (CLK.PLLn_STATUS.RELOCK 3) = true))
        ∧ OnlyRegs { s with clk := t.clk } t [DRM.STATE.STATE, CLK.PLLn_STATUS.LOCKED 3, CLK.PLLn_STATUS.COAST 3,
            CLK.PLLn_STATUS.RELOCK 3, CLK.PLLn_STATUS.GATED 3])) ∧
      (s.clk.pll3Off = false → s.on (CLK.PLLn_STATUS.LOCKED 3) = true → s.yields .selfRefreshExit (fun t => t.rd DRM.STATE.STATE = 1
        ∧ (∀ b ∈ t.arc.subs, b.rows = []) ∧ t.arc.rate = none ∧ t.arc.wanted = false ∧ t.arc.mem = s.arc.mem))) ∧
    (∀ r rs, s.up = true → s.dramUp = true → s.arc.waiting = r :: rs → s.recordDone r.number = true →
      s.noWriteAt (s.indexAddr r.number) = true → s.yields .archiveRecordCommit (fun t =>
      t.arc.waiting = rs ∧ t.arc.recs.map ArcRec.number = (s.arc.recs ++ [r]).map ArcRec.number
        ∧ t.arc.mem = Memory.write 0 s.arc.mem (s.indexAddr r.number) (s.indexBytes r 1)
        ∧ t.cap = s.cap))



/-! ### Waggle -/

/-- Frames and packets of a port (R387 to R395, R404, R411). A frame that is not the port's is counted or passed over. HELLO opens a
challenge, or resumes an absent session; AUTH in time with the right code opens the session with the rights of its key, a wrong one starts a
backoff. An acknowledgement renews the session and its leases and moves the window; GOBACK, or the retransmit timeout, sends all
again that is not acknowledged; packets leave in order under window and credit. -/
def Obligations.PacketsMove : Prop :=
  ∀ (s : State) (p : Nat) (e : EthFrame), s.sound → p < 64 →
    (s.up = true → s.portRuns p = true → e.bytes.length ≤ s.mtu p → e.etherType ≠ 0x8808 →
      (e.fcsOk = false → s.yields (.frameReceived p e) (fun t => t = s.stat p .fcs 1)) ∧
      (e.fcsOk = true → s.accepts p e = false → s.yields (.frameReceived p e) (fun t =>
        t.rd WAG.HOSTILE.COUNT = satInc WAG.HOSTILE.COUNT.width (s.rd WAG.HOSTILE.COUNT) 1))) ∧
    (s.portRuns p = false → s.yields (.frameReceived p e) (fun t => t = s)) ∧
    (∀ u k, s.receive p e = (u, some k) →
      (∀ m, k.typ = 1 →
        (u.session p = sesIdle → pMaxFor (u.mtuNew p) (le k.payload 24 2) = some m → s.yields (.hello p e) (fun t =>
          t.session p = sesChallenged ∧ t.rd (HPT.Pp_HOST.HOST_ID p) = le k.payload 0 4 % 2 ^ 32
          ∧ (t.port p).nonceH = slice k.payload 8 16 ∧ (t.port p).pMaxNext = m ∧ (t.port p).helloAt = s.now
          ∧ ∃ r, (t.port p).tx = some r ∧ r.dst = e.src ∧ r.packet.typ = 1)) ∧
        (u.session p = sesAbsent → (le k.payload 6 2).testBit 0 = true → u.resumable p = true →
          pMaxFor (u.mtu p) (le k.payload 24 2) = some m → s.yields (.hello p e) (fun t => t.session p = sesAbsent
            ∧ (t.port p).resuming = true ∧ (t.port p).streams = (u.port p).streams ∧ (t.port p).pMaxNext = m))) ∧
      (∀ h, k.typ = 2 → u.keyEntry (u.rd (HPT.Pp_HOST.HOST_ID p)) = some h → s.now ≤ (s.port p).helloAt + ticksOfS 1 →
        ((s.port p).resuming = true → s.resumable p = true) →
        (k.payload = hmac h.key (ascii "WAGGLE-H" ++ u.helloBytes p) → s.yields (.auth p e) (fun t => t.session p = sesOpen
          ∧ (t.port p).role = h.role ∧ (t.port p).rights = h.rights ∧ (t.port p).quotaMb = h.quotaMb
          ∧ (t.port p).sessionKey = hmac h.key (ascii "WAGGLE-S" ++ u.helloBytes p) ∧ (t.port p).backoffS = 0
          ∧ t.on (HPT.Pp_STATUS.TAGS p) = (u.port p).tagsNext ∧ ∃ r, (t.port p).tx = some r ∧ r.packet.typ = 2)) ∧
        (k.payload ≠ hmac h.key (ascii "WAGGLE-H" ++ u.helloBytes p) → u.session p = sesChallenged → s.yields (.auth p e) (fun t =>
          let b := if (u.port p).backoffS = 0 then 1 else min 64 (2 * (u.port p).backoffS)
          t.session p = sesIdle ∧ (t.port p).backoffS = b ∧ (t.port p).backoffUntil = s.now + ticksOfS b ∧ (t.port p).rights = 0))) ∧
      (∀ x, k.typ = 10 → u.strm? p k.stream = some x →
        let ack := if newer k.ack x.ack = true ∧ newer k.ack x.nextSeq = false then k.ack else x.ack
        let credit := if newer k.credit x.credit then k.credit else x.credit
        (k.flags.testBit 5 = false → s.yields (.ack p e) (fun t => (t.port p).heardAt = s.now
          ∧ (∀ i, i < 9 → s.leaseHolder i = some p → (t.leases.getD i {}).expires = s.now + ticksOfMs (s.rd WAG.LEASE.MS))
          ∧ ∃ y, t.strm? p k.stream = some y ∧ y.ack = ack ∧ y.credit = credit)) ∧
        (k.flags.testBit 5 = true → s.yields (.goback p e) (fun t => (t.port p).heardAt = s.now
          ∧ ∃ y, t.strm? p k.stream = some y ∧ y.ack = ack ∧ y.credit = credit
            ∧ y.resend = (if y.unacked.isEmpty then none else some 0))))) ∧
    (s.up = true → s.session p = sesOpen →
      (∀ id x, s.strm? p id = some x →
        (∀ k ks, x.unacked = k :: ks → x.resend = none → k.at_ + ticksOfUs (s.rd WAG.TIMERS.RTO_US) ≤ s.now →
          s.yields (.retransmitTimeout p id) (fun t => t.strm? p id = some { x with resend := some 0 } ∧ t.regs = s.regs)) ∧
        (∀ err i k, s.portRuns p = true → x.resend = some i → x.unacked[i]? = some k → s.yields (.packetSend p id err) (fun t =>
          (∃ r, (t.port p).tx = some r ∧ r.packet.typ = k.typ ∧ r.packet.seq = k.seq ∧ r.packet.payload = k.payload
              ∧ r.packet.flags.testBit 3 = true)
            ∧ (t.port p).sentAt = s.now ∧ ∃ y, t.strm? p id = some y
              ∧ y.resend = (if i + 1 < x.unacked.length then some (i + 1) else none) ∧ y.nextSeq = x.nextSeq)) ∧
        (∀ err i rest bs, s.portRuns p = true → x.resend = none → newer ((x.ack + 1024) % 2 ^ 32) x.nextSeq = true →
          newer x.credit x.nextSeq = true → x.queue = i :: rest → i.typ ≠ 5 → i.body = .bytes bs →
          -- a snapshot's reads are made
          (i.typ = 4 → x.asked = true ∧ s.capReading (tagStream p id) = false ∧ s.arcReading (tagStream p id) = false) →
          bs.length - x.offset ≤ s.rd (HPT.Pp_STATUS.P_MAX p) * 64 → s.yields (.packetSend p id err) (fun t =>
            (∃ r, (t.port p).tx = some r ∧ r.packet.typ = i.typ ∧ r.packet.seq = x.nextSeq ∧ r.packet.payload = bs.drop x.offset)
              ∧ ∃ y, t.strm? p id = some y ∧ (err.testBit 0 = false → y.queue = rest) ∧ y.offset = 0
                ∧ y.nextSeq = (x.nextSeq + 1) % 2 ^ 32 ∧ y.inflight = x.inflight ++ [(x.nextSeq, i)]))) ∧
      (s.portRuns p = true → ticksOfMs (s.rd WAG.TIMERS.ABSENT_MS) ≤ 4 * (s.now - (s.port p).sentAt) →
        s.yields (.keepaliveAck p) (fun t => (t.port p).sentAt = s.now ∧ ∃ r, (t.port p).tx = some r ∧ r.packet.typ = 10)))

/-- Control requests (R401 to R408). A read answers with as many words as it asks for; a write does the register writes in order and
answers with what they ended in; OPEN and CLOSE make and end a stream; leases are granted, given back and taken over as their test
says; BYE ends the session; a statement asked for waits to be signed. A request that fails its test is answered with the status alone. -/
def Obligations.RequestsAreServed : Prop :=
  ∀ (s : State) (p : Nat) (e : EthFrame) (req : List Nat) (u : State), s.sound → p < 64 → s.atRequest p e = some (req, u) →
    u.sec.attestQ = [] → (u.strm? p 0).isSome = true →
    let op := req.getD 0 0
    (∀ addr n, controlRange req = some (addr, n) →
      (op = 1 → req.length = 8 →
        ((u.port p).rights.testBit 1 = false → s.yields (.wagRead p e) (fun t => t.answers p req 1)) ∧
        ((u.port p).rights.testBit 1 = true → let r := u.readWords (.port p) addr n
          r.1.sec.attestQ = [] → (r.1.strm? p 0).isSome = true → s.yields (.wagRead p e) (fun t =>
            t.answers p req 0 ∧ t.regs = r.1.regs ∧ r.2.length = n))) ∧
      (op = 2 → req.length = 8 + 4 * n →
        let w := u.writeWords (.port p) addr ((List.range n).map (fun i => le req (8 + 4 * i) 4))
        w.1.sec.attestQ = [] → (w.1.strm? p 0).isSome = true → s.yields (.wagWrite p e) (fun t => t.answers p req w.2.2.status
          ∧ OnlyRegs { w.1 with ports := t.ports } t [WAG.REFUSED.STATUS, WAG.REFUSED.PORT]))) ∧
    (op = 3 →
      (u.openStatus p req ≠ 0 → s.yields (.wagOpen p e) (fun t => t.answers p req (u.openStatus p req)
        ∧ t.rd WAG.REFUSED.PORT = p ∧ OnlyRegs { u with ports := t.ports } t [WAG.REFUSED.STATUS, WAG.REFUSED.PORT])) ∧
      (u.openStatus p req = 0 → s.yields (.wagOpen p e) (fun t => t.answers p req 0
        ∧ ∃ x, t.strm? p (req.getD 4 0) = some x ∧ x.kind = req.getD 5 0 ∧ x.credit = le req 8 4))) ∧
    (op = 4 → req.length = 5 → let id := req.getD 4 0
      (u.strm? p id = none ∨ id = 0 → s.yields (.wagClose p e) (fun t => t.answers p req 7)) ∧
      (∀ x, u.strm? p id = some x → id ≠ 0 → x.kind ≠ 2 → s.yields (.wagClose p e) (fun t => t.answers p req 0 ∧ t.strm? p id = none))) ∧
    (op = 5 → let items := u.leaseItems (le req 4 2)
      let act := req.getD 6 0
      let i := if act = 2 then Instr.leaseRelease p e else if act = 3 then .leaseTakeOver p e else .leaseAcquire p e
      (u.leaseStatus p req ≠ 0 → s.yields i (fun t => t.answers p req (u.leaseStatus p req) ∧ t.leases = u.leases)) ∧
      (u.leaseStatus p req = 0 → s.yields i (fun t => t.answers p req 0
        ∧ (∀ k ∈ items, t.leaseHolder k = (if act = 2 then none else some p))
        ∧ (∀ k, k ∉ items → t.leases.getD k {} = u.leases.getD k {})))) ∧
    (op = 6 → req.length = 4 → s.yields (.bye p e) (fun t => t.session p = sesIdle ∧ (t.port p).streams = [] ∧ (t.port p).rights = 0
      ∧ t.rd (HPT.Pp_HOST.HOST_ID p) = 0 ∧ ∀ i, i < 9 → t.leaseHolder i ≠ some p)) ∧
    (op = 7 → req.length = 40 →
      ((u.port p).rights.testBit 1 = false → s.yields (.wagAttest p e) (fun t => t.answers p req 1)) ∧
      ((u.port p).rights.testBit 1 = true → s.yields (.wagAttest p e) (fun t =>
        t.sec.attestQ.map Attest.att = [.port p] ∧ t.sec.attestQ.map Attest.req = [slice req 0 4])))

/-- Sessions by time (R393, R399, R404, R407, R408, R416). A session not heard of becomes ABSENT; its claims end after the hold, and it
ends after the resume time, as does one not authenticated in a second. A lease that runs out is free. A snapshot not taken in time is
skipped. A link that drops is counted and leaves its session ABSENT. -/
def Obligations.SessionsTimeOut : Prop :=
  ∀ (s : State) (p : Nat), s.sound → p < 64 →
    let q := s.port p
    let ended := fun (t : State) => t.session p = sesIdle ∧ (t.port p).streams = [] ∧ (t.port p).rights = 0
      ∧ t.rd (HPT.Pp_HOST.HOST_ID p) = 0 ∧ ∀ i, i < 9 → t.leaseHolder i ≠ some p
    let absent := fun (t : State) => t.session p = sesAbsent ∧ (t.port p).absentAt = s.now ∧ (t.port p).holdEnded = false
    (s.up = true → s.session p = sesOpen →
      (q.heardAt + ticksOfMs (s.rd WAG.TIMERS.ABSENT_MS) ≤ s.now → s.yields (.absentTimeout p) (fun t => absent t ∧ t.leases = s.leases)) ∧
      (s.portPresent p = true → s.on (HPT.Pp_STATUS.LINK p) = true → s.yields (.linkChange p false) (fun t => absent t
        ∧ t.on (HPT.Pp_STATUS.LINK p) = false ∧ t.rd (HPT.Gg_STATUS.DROPS (p / 4))
          = satInc (HPT.Gg_STATUS.DROPS (p / 4)).width (s.rd (HPT.Gg_STATUS.DROPS (p / 4))) 1))) ∧
    (s.up = true → s.portPresent p = true → s.on (HPT.Pp_CTL.EN p) = true → s.on (HPT.Pp_STATUS.LINK p) = false →
      s.yields (.linkChange p true) (fun t => t.on (HPT.Pp_STATUS.LINK p) = true ∧ t.session p = s.session p)) ∧
    (s.live = true → s.session p = sesAbsent →
      (q.holdEnded = false → q.absentAt + ticksOfMs (s.rd WAG.LEASE.MS) ≤ s.now → s.yields (.absentHoldEnd p) (fun t =>
        (t.port p).holdEnded = true ∧ t.session p = sesAbsent
          ∧ ∀ x ∈ (t.port p).streams, x.inflight = [] ∧ x.unacked = [] ∧ x.offset = 0 ∧ x.resend = none)) ∧
      (q.absentAt + ticksOfS (s.rd WAG.LEASE.RESUME_S) ≤ s.now → s.yields (.resumeExpiry p) ended)) ∧
    (s.live = true → s.session p = sesChallenged → q.helloAt + ticksOfS 1 ≤ s.now → s.yields (.authTimeout p) ended) ∧
    (∀ i, i < 9 → s.up = true → s.leaseHolder i = some p → (s.leases.getD i {}).expires < s.now → s.yields (.leaseExpiry i) (fun t =>
      t.leaseHolder i = none ∧ ∀ k, k ≠ i → t.leases.getD k {} = s.leases.getD k {})) ∧
    (∀ id x n i bs rest, i.body = .bytes bs → s.live = true → s.strm? p id = some x → x.kind = kSnapshots → x.inflight = (n, i) :: rest → i.typ = 4 →
      x.snapAt + 2 * ticksOfMs (s.rd WAG.LEASE.MS) ≤ s.now → s.yields (.snapshotClaimTimeout p id) (fun t =>
        ∃ y roll, t.strm? p id = some y ∧ y.inflight = [] ∧ y.unacked = [] ∧ y.offset = 0
          ∧ y.queue = addSkip [] skipSnapTimeout i.number i.number roll ++ (rest.map (·.2) ++ x.queue)))


/-! ### Monitor, display, security, profiles and DARK as they go on -/

/-- Windows, the monitor converter and the display (R418 to R435, R444 to R455). With a level at its input beyond its threshold or its
hysteresis, a comparator that changes its window's output counts an event, and one that does not is recorded alone; inside the band
nothing changes. A readback gives its value; conversions fill the pass; one that falls due while the last runs is an overrun; an
injected request gives one result; the calibration of the converter sets its coefficients or halts; a picture composed is shown at
the next frame that may start. The unit of a level, of a code and of a temperature, and a result outside its field, are the model's
choices (log entry 109), and so are the marks of self-refresh and of the lanes of a display in command mode (log entries 70 and 73). -/
def Obligations.MonitorAndDisplayGoOn : Prop :=
  ∀ s : State, s.sound →
    (∀ w k (v : Int), s.compares w = true → k < 2 →
      -- 4,096 times the level, threshold and hysteresis, in nV (R418, R419)
      let u := (if k = 0 then (s.rd (WIN.Ww_THR.U w) : Int) else s.rd (WIN.Ww_THR.L w)) - 2048
      let thr := u * (250000000 * 2 ^ s.rd (WIN.Ww_CFG.RANGE w))
      let hyst : Int := (if k = 0 then (s.rd (WIN.Ww_CFG.HYST_U w) : Int) else s.rd (WIN.Ww_CFG.HYST_L w)) * (3000000 * 4096)
      let on := if k = 0 then thr ≤ 4096 * v else 4096 * v < thr
      let off := if k = 0 then 4096 * v < thr - hyst else thr + hyst ≤ 4096 * v
      (∀ b : Bool, (if b = true then on else off) →
        (∀ phase, s.compIsEvent w k b = true → s.yields (.windowEvent w k v phase) (fun t => t.on (compField w k) = b
          ∧ t.on (compUnres w k) = false
          ∧ t.rd (WIN.Ww_EVENTS.COUNT w) = satInc (WIN.Ww_EVENTS.COUNT w).width (s.rd (WIN.Ww_EVENTS.COUNT w)) 1)) ∧
        (s.compIsEvent w k b = false → s.yields (.comparatorResolves w k v) (fun t => t.on (compField w k) = b
          ∧ t.on (compUnres w k) = false ∧ OnlyRegs s t [compField w k, compUnres w k, WIN.Ww_STATUS.OUT w, WIN.OUT.OUT,
              WIN.UNRESOLVED.WINDOWS]))) ∧
      (¬ on → ¬ off → s.yields (.comparatorResolves w k v) (fun t => t = s)
        ∧ ∀ phase, s.yields (.windowEvent w k v phase) (fun t => t = s))) ∧
    (∀ w, s.yields (.windowSettled w) (fun t =>
      t = { s with mon := { s.mon with settling := s.mon.settling.filter (· != w) } })) ∧
    (∀ w c r n raw, s.mon.rb = some ⟨w, c, r, some n⟩ → s.up = true → s.on ADC.SCLK.OK = true → raw.length = 512 →
      s.yields (.winRbDone raw) (fun t => t.mon.rb = none ∧ t.rd WIN.RB_RESULT.STATUS = 1 ∧ t.on WIN.RB_RESULT.BUSY = false
        ∧ t.rd WIN.RB_RESULT.VALUE = ofSigned 24 (readbackValue
            (((s.calCh n).slices.getD (s.rd (ADC.STATUS.SPARE n)) {}).coef) r raw) % 2 ^ WIN.RB_RESULT.VALUE.width)) ∧
    (s.mon.due ≤ s.now →
      (s.mon.running = true → s.mon.late = true → s.yields .mcvPass (fun t => t = s)) ∧
      (s.mon.running = true → s.mon.late = false → s.yields .mcvPass (fun t => t.mon = { s.mon with late := true }
        ∧ t.rd MCV.OVERRUN.COUNT = satInc MCV.OVERRUN.COUNT.width (s.rd MCV.OVERRUN.COUNT) 1)) ∧
      (s.mon.running = false → s.mon.queue ≠ [] → s.mon.results.length < 4 → s.dev ≠ devHalted →
        s.yields .mcvPass (fun t => t = s)) ∧
      (s.mon.running = false → s.mon.queue = [] ∨ 4 ≤ s.mon.results.length ∨ s.dev = devHalted → s.yields .mcvPass (fun t => t.rd MCV.STATUS.ENTRY = 0 ∧ OnlyRegs { s with mon := { s.mon with
        running := true, late := false, pass := s.mon.pass + 1, due := s.now + s.passPeriod,
        inDark := decide (s.dev = devDark) } } t [MCV.STATUS.ENTRY]))) ∧
    (∀ vals, s.mon.running = true → s.on MCV.STATUS.CAL_BUSY = false → s.mon.queue = [] →
      let e := s.rd MCV.STATUS.ENTRY
      s.yields (.mcvConversionComplete vals) (fun t =>
        (∀ k, k < 4 → let j := bits (s.rd (MCV.SEQe.SEL e)) (4 * k) 4
          -- 2^-26 LSB of 250 µV, and the reading in mV or in steps of 15.625 µV
          let y : Int := ((vals.getD k 0 % 4096 * 64 : Nat) - s.rdS (MCV.CALFk.OFFSET k)) * (2 ^ 20 + s.rdS (MCV.CALFk.GAIN k))
          let v := divHalfEven (if j = 4 ∨ k = 3 ∧ j = 7 then 16 * y else y) (2 ^ 26)
          j < 8 → t.on (MCV.INi.VALID (8 * k + j)) = true
            ∧ (j < 4 → t.rd (MCV.INi.VALUE (8 * k + j)) = vals.getD k 0 % 65536)
            ∧ (4 ≤ j → 0 ≤ v → v < 65536 → (t.rd (MCV.INi.VALUE (8 * k + j)) : Int) = v))
        ∧ (s.dev = devActive → t.dev = devActive → (e + 1 < s.seqEntries → t.rd MCV.STATUS.ENTRY = (e + 1) % 2 ^ MCV.STATUS.ENTRY.width)
          ∧ (s.seqEntries ≤ e + 1 → t.rd MCV.STATUS.ENTRY = 0 ∧ t.mon.running = false)))) ∧
    (∀ vals r rest, s.mon.queue = r :: rest → s.live = true → s.on MCV.STATUS.CAL_BUSY = false → s.on MCV.CAL_STATUS.PENDING = false →
      (∀ x ∈ r :: rest, x.aborted = false) → s.mon.results.length < 4 → s.yields (.mcvInjDone vals) (fun t =>
        t.mon.queue = rest ∧ (∃ res, t.mon.results = s.mon.results ++ [res] ∧ res.req = r ∧ res.aborted = false
            ∧ res.values.length = 4
            ∧ (∀ k, k < 4 → let j := bits r.sel (4 * k) 4
              let y : Int := ((vals.getD k 0 % 4096 * 64 : Nat) - s.rdS (MCV.CALFk.OFFSET k)) * (2 ^ 20 + s.rdS (MCV.CALFk.GAIN k))
              let v := divHalfEven (if j = 4 ∨ k = 3 ∧ j = 7 then 16 * y else y) (2 ^ 26)
              (j = 15 → res.values.getD k 0 = 0) ∧ (j < 4 → res.values.getD k 0 = vals.getD k 0 % 65536)
                ∧ (4 ≤ j → j < 8 → 0 ≤ v → v < 65536 → (res.values.getD k 0 : Int) = v))
            ∧ (s.dev ≠ devDark → res.time = s.ticks - 1250)
            ∧ (s.dev = devDark → res.time = s.timesR (s.keeper - (if s.on CLK.REF.FREQ_SEL then 100 else 10)) / 65536))
          ∧ t.on MCV.INJ_TAG.VALID = true)) ∧
    (∀ offs gains : List Int, s.on MCV.STATUS.CAL_BUSY = true → s.live = true →
      let fits := fun (k : Nat) => fitsS 16 (offs.getD k 0) = true ∧ fitsS 16 (gains.getD k 0) = true
      ((∀ k, k < 4 → fits k) → s.yields (.mcvCalDone offs gains) (fun t => t.on MCV.STATUS.CAL_BUSY = false
        ∧ t.on MCV.STATUS.CAL_DONE = true ∧ ∀ k, k < 4 → t.rd (MCV.CALFk.OFFSET k) = ofSigned 16 (offs.getD k 0)
            ∧ t.rd (MCV.CALFk.GAIN k) = ofSigned 16 (gains.getD k 0))) ∧
      (∀ k, k < 4 → (∀ j, j < k → fits j) → ¬ fits k → s.dev ≠ devStart →
        s.yields (.mcvCalDone offs gains) (fun t => Halts s t 0x0640 k 0)) ∧
      (s.dev = devStart → (∃ k, k < 4 ∧ ¬ fits k) → s.yields (.mcvCalDone offs gains) (fun t => Halts s t 0x0109 8 0))) ∧
    (s.live = true →
      (s.on PRO.CTL.PENDING = true → s.yields .proCommitApply (fun t => t.on PRO.CTL.PENDING = false ∧ t.pro.frame = false
        ∧ t.pro.inForce = s.pro.committed)) ∧
      (s.on PRO.CTL.PENDING = false → s.proCommand = false → s.yields .proCommitApply (fun t =>
        t = { s with pro := { s.pro with frame := false, lanes := if s.pro.lanes = .ulps then .ulps else .lp11 } })) ∧
      (s.on PRO.CTL.PENDING = false → s.proCommand = true → s.yields .proCommitApply (fun t =>
        t.rd PRO.STATUS.STATE = (if s.rd PRO.STATUS.STATE = 2 then 3 else s.rd PRO.STATUS.STATE)
          ∧ OnlyRegs { s with pro := { s.pro with frame := false, lanes := if s.pro.lanes = .ulps then .ulps else .lp11 } } t
              [PRO.STATUS.STATE]))) ∧
    (s.proOn = true →
      (∀ cv cs, s.pro.composing = none → s.proCause = true → s.proCurve = some cv → s.proColours = some cs →
        s.yields .compositionStart (fun t => t.pro.composing = some (s.compose cv cs)
          ∧ t = { s with
              cap := { s.cap with reqs := t.cap.reqs }
              arc := t.arc
              pro := { s.pro with composing := t.pro.composing, cause := false, ready := false } }
          ∧ t.arc = s.displayAsks.arc)) ∧
      (∀ pl, s.pro.composing = some pl → s.dramUp = true → s.repeatStarts = false → s.yields .compositionComplete (fun t =>
        t.pro = { s.pro with composing := none, back := pl, ready := true, readyAt := s.now } ∧ t.arc = s.displayAsks.arc)) ∧
      (s.pro.ready = true → s.minPassed = true → s.proCommand = false → s.yields (.displayFrameStart 0) (fun t =>
        t.pro = { s.pro with front := s.pro.back, ready := false, frame := true, startAt := s.now, repeats := 0, flip := s.tb, lanes := .video }
          ∧ t.arc = s.displayAsks.arc
          ∧ t.rd PRO.STATUS.STATE = 2
          ∧ t.rd PRO.FLIP_COUNT.COUNT = (s.rd PRO.FLIP_COUNT.COUNT + 1) % 2 ^ PRO.FLIP_COUNT.COUNT.width)) ∧
      (s.proCommand = false → s.pro.ready = false → s.rd PRO.STATUS.STATE ≠ 1 → s.rd PRO.STATUS.STATE ≠ 4 →
        s.pro.startAt + s.proMax ≤ s.now → s.yields (.displayFrameStart 0) (fun t =>
          t.rd PRO.STATUS.STATE = (if s.proF PRO.STATIC.FRAMES ≤ s.pro.repeats + 1 then 4 else s.rd PRO.STATUS.STATE)
            ∧ OnlyRegs { s with
                pro := { s.pro with frame := true, startAt := s.now, repeats := s.pro.repeats + 1, lanes := .video }
                arc := s.displayAsks.arc } t [PRO.STATUS.STATE])) ∧
      (s.proCommand = true → s.pro.ready = false →
        let good := if s.pro.teAt ≠ 0 ∧ s.proMin ≤ s.now - s.pro.teAt ∧ s.now - s.pro.teAt ≤ s.proMax then min 4 (s.pro.teGood + 1) else 0
        s.yields .teEdge (fun t => t.pro = { s.pro with teAt := s.now, teGood := good }
          ∧ t.on PRO.STATUS.TE_OK = (s.on PRO.STATUS.TE_OK || decide (good = 4)))) ∧
      (s.proCommand = true → s.on PRO.STATUS.TE_OK = true → s.pro.teAt + 2 * s.proMax ≤ s.now → s.yields .proTeLost (fun t =>
        t.on PRO.STATUS.TE_OK = false ∧ OnlyLogged { s with pro := { s.pro with teGood := 0 } } t [PRO.STATUS.TE_OK])))

/-- Tokens (R466 to R472, R482, R487). A token that its verdict accepts takes the counter of its signer and does what its kind says: new
owner keys, adoption of the staged image, a host key entered or revoked, audit entries acknowledged, release, service; one that it
does not accept is reported, and the ledger stands as it was. A statement signed goes to who asked for it (R473); a manifest closes when
its period has passed, and joins the signed ones with its identity signature (R475, R476, R478); an export that is signed is ready (R482). -/
def Obligations.TokensAndSignatures : Prop :=
  (∀ (s : State) (u : Token) (sig : Bool), s.sound → s.checking = some u →
    let accepted := fun (kind : Nat) => u.kind = kind ∧ s.tokenVerdict u sig true = 0
    let done := fun (t : State) => t.sec.token = none ∧ t.on SEC.TOKEN_STATUS.BUSY = false ∧ t.rd SEC.TOKEN_STATUS.RESULT = 0
    let counted := fun (t : State) => t.led.makerCnt = (if u.signer = 1 then s.led.makerCnt else u.counter)
      ∧ t.led.instCnt = (if u.signer = 1 then u.counter else s.led.instCnt)
    (accepted 1 → s.yields (.tokKeyPass sig) (fun t => done t ∧ t.led.instCnt = 0
      ∧ ∀ o, s.led.owner = some o → t.led.owner = some { o with imageKey := slice u.payload 0 48, tokenKey := slice u.payload 48 32 })) ∧
    (∀ im, accepted 2 → s.rd PRF.STAGE_STATUS.STATE = 2 → s.prf.staged = some im → im.digest = slice u.payload 0 32 →
      im.rollback = le u.payload 32 4 → s.yields (.tokAdopt sig) (fun t => done t ∧ counted t ∧ t.prf.adopting = 1
        ∧ t.rd PRF.STAGE_STATUS.STATE = 4 ∧ t.rd PRF.STATUS.STATE = 4 ∧ t.on PRF.STATUS.PENDING_VALID = false)) ∧
    (accepted 3 → s.led.hosts.length < 256 → s.yields (.tokEnrol sig) (fun t => done t ∧ counted t
      ∧ t.led.hosts.any (fun h => h == ⟨le u.payload 0 4, u.payload.getD 4 0, u.payload.getD 5 0, u.payload.getD 6 0, le u.payload 8 4,
          slice u.payload 12 32⟩) = true
      ∧ ∀ h ∈ s.led.hosts, h.hostId ≠ le u.payload 0 4 → h ∈ t.led.hosts)) ∧
    (accepted 4 → s.led.hosts.any (fun h => h.hostId == le u.payload 0 4) = true → s.yields (.tokRevoke sig) (fun t => done t ∧ counted t
      ∧ t.led.hosts = s.led.hosts.filter (fun h => h.hostId != le u.payload 0 4)
      ∧ ∀ p, p < 64 → s.rd (HPT.Pp_HOST.HOST_ID p) = le u.payload 0 4 → t.session p = sesIdle)) ∧
    (accepted 5 → s.sec.export_ ≠ [] → le u.payload 0 8 = s.sec.exportLast → slice u.payload 8 32 = sha256 s.sec.export_ →
      s.yields (.tokAuditAck sig) (fun t => done t ∧ counted t ∧ (∀ e ∈ t.led.audit, s.sec.exportLast < e.seq)
        ∧ (∀ e ∈ s.led.audit, s.sec.exportLast < e.seq → e ∈ t.led.audit) ∧ t.rd LGR.EXPORT_STATUS.STATE = 3)) ∧
    (accepted 8 → s.yields (.tokRelease sig) (fun t => done t ∧ counted t ∧ t.led.releasePending = true
      ∧ t.on SEC.STATE.RELEASE_PENDING = true)) ∧
    (accepted 9 → s.yields (.tokService sig) (fun t => done t ∧ counted t ∧ t.sec.service = some u.att ∧ t.on SEC.STATE.SERVICE = true)) ∧
    (accepted 10 → s.on SEC.STATE.SERVICE = s.sec.service.isSome → s.yields (.tokServiceEnd sig) (fun t => done t ∧ counted t
      ∧ t.sec.service = none ∧ t.on SEC.STATE.SERVICE = false)) ∧
    (∀ i ∈ [(1, Instr.tokKeyPass sig), (2, .tokAdopt sig), (3, .tokEnrol sig), (4, .tokRevoke sig), (5, .tokAuditAck sig),
        (8, .tokRelease sig), (9, .tokService sig), (10, .tokServiceEnd sig)],
      (u.kind ≠ i.1 → s.yields i.2 (fun t => t = s)) ∧
      (u.kind = i.1 → s.tokenVerdict u sig true ≠ 0 → s.yields i.2 (fun t => t.sec.token = none
        ∧ t.rd SEC.TOKEN_STATUS.RESULT = s.tokenVerdict u sig true ∧ OnlyLogged { s with sec := { s.sec with token := none } } t
            [SEC.TOKEN_STATUS.RESULT, SEC.TOKEN_STATUS.BUSY, SEC.TOKEN_STATUS.KIND])))) ∧
  (∀ s : State, s.sound →
    (∀ x rest, s.live = true → s.sec.attestQ = x :: rest → s.sec.signing = 2 → s.yields .attestationSigned (fun t =>
      t.sec.attestQ = rest ∧ (x.att = .i3c → t.sec.i3cAttest = x.body ++ identitySig x.body)
        ∧ (∀ p, p < 64 → x.att = .port p → (t.port p).attest = x.body ++ identitySig x.body))) ∧
    (s.live = true → s.sec.leaves ≠ [] → s.sec.openedAt + ticksOfMs s.sec.periodMs ≤ s.now → s.yields .manifestClose (fun t =>
      t.sec.leaves = [] ∧ t.sec.nextManifest = (s.sec.nextManifest + 1) % 2 ^ 40)) ∧
    (∀ ms rest, s.live = true → s.sec.queue = ms :: rest → s.sec.signing = 1 → s.yields .manifestSigned (fun t =>
      t.sec.queue = rest ∧ t.sec.signed = (⟨(ms.head?.map Manifest.number).getD 0, ms.length,
        s.manifestBody ms ++ identitySig (s.manifestBody ms)⟩ :: s.sec.signed).take 256)) ∧
    (∀ last body, s.sec.building = some (last, body) → s.sec.signing = 3 → s.yields .exportReady (fun t =>
      t.sec.export_ = body ++ identitySig body ∧ t.sec.exportLast = last ∧ t.sec.building = none ∧ t.rd LGR.EXPORT_STATUS.STATE = 2)))

/-- Profiles, adoption and DARK (R500 to R511, R522 to R530). The strap, or a request, makes a switch pend; at its boundary the profile
becomes the active one as soon as nothing it waits for runs. A staged image is judged; its adoption stops the channels, reads it again
and takes it, or fails with the cause. With nothing under way the device enters DARK; a source of waking is held, and wakes it, with
the keeper counting on until the time base takes it over. -/
def Obligations.ProfilesAndDark : Prop :=
  ∀ s : State, s.sound →
    (∀ v, v < 8 →
      (s.up = false ∨ s.on PRF.SOURCE.SOURCE = true ∨ v = s.rd PRF.STATUS.ACTIVE → s.yields (.pselChange v) (fun t =>
        t.rd PRF.STATUS.PSEL = v ∧ OnlyRegs s t [PRF.STATUS.PSEL])) ∧
      (s.up = true → s.on PRF.SOURCE.SOURCE = false → v ≠ s.rd PRF.STATUS.ACTIVE → s.adopting = false → (s.profileOf v).isSome = true →
        s.yields (.pselChange v) (fun t => t.rd PRF.STATUS.PENDING = v ∧ t.on PRF.STATUS.PENDING_VALID = true
        ∧ t.rd PRF.STATUS.STATE = (if s.prf.resumeAt.isNone then 1 else s.rd PRF.STATUS.STATE)
          ∧ OnlyRegs { s with prf := { s.prf with byAtt := none, abort := false } } t [PRF.STATUS.PSEL, PRF.STATUS.RESULT,
              PRF.STATUS.PENDING, PRF.STATUS.PENDING_VALID, PRF.STATUS.STATE]))) ∧
    (s.up = true → s.prf.resumeAt = none → s.on PRF.STATUS.PENDING_VALID = true → s.atBoundary = true → s.prf.adopting = 0 →
      (s.profileOf (s.rd PRF.STATUS.PENDING) = none → s.yields .prfSwitch (fun t => t.on PRF.STATUS.PENDING_VALID = false
        ∧ t.rd PRF.STATUS.RESULT = 0 ∧ OnlyRegs s t [PRF.STATUS.PENDING_VALID, PRF.STATUS.RESULT])) ∧
      (∀ k, s.profileOf (s.rd PRF.STATUS.PENDING) = some k → s.profileOf k.number = some k → s.yields .prfSwitch (fun t =>
        t.prf.resumeAt = some k.number ∨ t.prf.resumeAt = none ∧ t.rd PRF.STATUS.ACTIVE = k.number % 2 ^ PRF.STATUS.ACTIVE.width))) ∧
    (∀ k, s.profile = some k → s.darkCause = 0 → k.idleDarkMs ≠ 0 → s.boot.idleSince + ticksOfMs k.idleDarkMs ≤ s.now →
      s.yields .idleDarkTimeout (fun t => t.on SYS.STATE.ENTERING = true ∧ t.boot.entryStep = 0)) ∧
    (∀ sig maker, s.live = true → s.i3c.flashOp = none →
      let found := s.verify s.prf.stageAddr sig maker true
      (s.rd PRF.STAGE_STATUS.STATE = 1 → s.yields (.prfStaged sig maker) (fun t => t.prf.staged = found.2
        ∧ t.rd PRF.STAGE_STATUS.STATE = (if found.1 = 0 then 2 else 3) ∧ t.rd PRF.STAGE_STATUS.CAUSE = found.1)) ∧
      (s.prf.adopting = 2 → s.up = true → s.cellsStill = true → s.prf.heldSwitch = none →
        (found.1 ≠ 0 → s.yields (.adoptionRereadDone sig maker) (fun t => t.prf.adopting = 0 ∧ t.rd PRF.STAGE_STATUS.STATE = 3
          ∧ t.rd PRF.STAGE_STATUS.CAUSE = found.1)) ∧
        (∀ im st, found = (0, some im) → s.prf.staged = some st → im.digest = st.digest →
          im.device = ((s.image.map Image.device).getD {}) → s.yields (.adoptionRereadDone sig maker) (fun t =>
            t.prf.staged = none ∧ t.led.owner.map Owner.addr = s.led.owner.map (fun _ => im.addr)
            -- adopted, once the profile is in force; a change of mode or cells that halt keep it waiting
            ∧ (t.prf.adopting = 0 ∧ t.rd PRF.STAGE_STATUS.STATE = 5 ∧ t.rd PRF.STAGE_STATUS.CAUSE = 0
              ∨ t.prf.adopting = 3 ∧ t.prf.resumeAt.isSome = true))))) ∧
    (s.prf.adopting = 1 → s.up = true → s.atBoundary = true → s.prf.resumeAt = none →
      (∀ n, n < 8 → s.on (CAP.CHn_STATUS.IN_ROLL n) = false) → s.yields .adoptionStart (fun t =>
      t.prf.adopting = 2 ∧ ∀ n, n < 8 → t.chState n = chStopped)) ∧
    (s.on SYS.STATE.ENTERING = true → s.dev = devIdle → s.boot.entryStep = 0 → s.darkWaits = 0 → s.prf.resumeAt = none → s.prf.adopting = 0 →
      s.on PRF.STATUS.PENDING_VALID = false → s.pll0Locked = true → s.on CLK.REF.OK = true → s.on TB.STATE.REPHASE = false →
      s.yields .darkEntry (fun t => t.dev = devDark ∧ t.on SYS.STATE.ENTERING = false ∧ t.boot.darkSince = s.now ∧ t.clk.keeper = s.overR s.ticks
        ∧ (∀ p, p < 64 → t.session p ≠ sesOpen) ∧ (∀ i, i < 9 → t.leaseHolder i = none)
        ∧ t.rd SYS.DARK.ENTRIES = satInc SYS.DARK.ENTRIES.width (s.rd SYS.DARK.ENTRIES) 1)) ∧
    (∀ level : Bool,
      (level = s.boot.wakeLevel → s.yields (.wakePin level) (fun t => t = { s with boot := { s.boot with wakeRun := 0 } })) ∧
      (level ≠ s.boot.wakeLevel → s.boot.wakeRun = 0 → s.yields (.wakePin level) (fun t =>
        t = { s with boot := { s.boot with wakeRun := 1 } })) ∧
      (level ≠ s.boot.wakeLevel → s.boot.wakeRun ≠ 0 → s.dev = devDark → s.boot.heldWake = none → s.on SYS.WAKE_CFG.PIN = true →
        s.on SYS.WAKE_CFG.PIN_EDGE ≠ level → s.yields (.wakePin level) (fun t =>
          t = { s with boot := { s.boot with wakeLevel := level, wakeRun := 0, heldWake := some (1, 0), heldAt := s.now } }))) ∧
    (s.dev = devDark → s.on SYS.WAKE_CFG.ALARM = true → s.boot.heldWake = none →
      s.rd SYS.WAKE_AT_LO.KEEPER + s.rd SYS.WAKE_AT_HI.KEEPER * 2 ^ 32 ≤ s.keeper → s.yields .wakeAlarm (fun t =>
        t = { s with boot := { s.boot with heldWake := some (3, 0), heldAt := s.now } })) ∧
    (∀ cause window, s.dev = devDark → s.boot.heldWake = some (cause, window) → (∀ k, s.profile = some k → k.flags.testBit 1 = false) →
      s.yields .wake (fun t => t.dev = devIdle ∧ t.boot.heldWake = none
        ∧ t.rd SYS.WAKE_CAUSE.CAUSE = cause % 2 ^ SYS.WAKE_CAUSE.CAUSE.width
        ∧ t.clk.waking = true ∧ t.keeper = s.keeper ∧ t.tb = s.tb ∧ (cause = 3 → t.on SYS.WAKE_CFG.ALARM = false)))


/-! ### Register writes -/

/-- A register write (R3, R9, R13, R462, R589). An accepted word to a settings register stores what it names in the fields it changes,
and nothing else changes but the record of the write; a 1 to a W1C bit clears it; a word that changes nothing is accepted; an operator's
write is recorded in the operator log whatever came of it. A refused word changes nothing but the records: the operator log's entry
with the status, and the refusal registers of the I3C target or of the ports, whose session is answered with it (the request id of that
answer is free: notes/assumptions/8.md). -/
def Obligations.RegisterWritesStore : Prop :=
  ∀ (s : State) (a : Att) (addr v : Nat), addr % 4 = 0 → addr < 0x8000 →
    let recorded := fun (t : State) (status : Nat) => s.role a = .operator →
      ∃ e, t.oplog.head? = some e ∧ e.addr = addr ∧ e.value = v ∧ e.result = status ∧ e.att = attNum a ∧ e.tb = s.ticks ∧ e.seq = s.opSeq
    (Accepts s a addr v →
      (∀ (n : Nat) f, n < 8 → f ∈ [TB.SET_LO.TICKS, CAL.CERT_VALUE.NV, TRG.CHn_LEVEL.A n, CMB.VIEW.CELL, DRM.SR_CTL.IDLE_US,
          WAG.TIMERS.RTO_US, PRO.PERIOD.MIN, SYS.WAKE_AT_LO.KEEPER, I3C.AUTH_HOST.HOST_ID, I3C.FLASH_ADDR.ADDR,
          SEC.NONCEk.WORD n, MCV.SEQe.SEL n] → f.addr = addr →
        s.yields (.registerWrite a addr v) (fun t => (∀ g ∈ s.written a addr v, t.rd g = v / 2 ^ g.lo % 2 ^ g.width)
          ∧ recorded t 0 ∧ AfterWrite s t (s.written a addr v))) ∧
      (addr = WIN.PENDING.WINDOWS.addr → s.yields (.registerWrite a addr v) (fun t =>
        (∀ i, i < 24 → (t.rd WIN.PENDING.WINDOWS).testBit i = ((s.rd WIN.PENDING.WINDOWS).testBit i && !v.testBit i))
          ∧ recorded t 0 ∧ AfterWrite s t [WIN.PENDING.WINDOWS])) ∧
      (s.written a addr v = [] → s.yields (.registerWrite a addr v) (fun t => recorded t 0 ∧ AfterWrite s t []))) ∧
    (∀ r, v < 2 ^ 32 → s.written a addr v ≠ [] → s.judge a addr v (s.written a addr v) = some r → r.block = 3 → r.status ≠ 0 →
      (∀ p, a = .port p → s.hears p = true) → s.yields (.registerWrite a addr v) (fun t => recorded t r.status
        ∧ AfterWrite { s with frees := t.frees } t [I3C.REFUSED.ADDRESS, I3C.REFUSED.STATUS, I3C.REFUSED.COUNT, I3C.REFUSED.SAT,
            WAG.REFUSED.STATUS, WAG.REFUSED.PORT]
        ∧ (∀ p, a = .port p → t.rd WAG.REFUSED.STATUS = r.status % 2 ^ WAG.REFUSED.STATUS.width
            ∧ t.rd WAG.REFUSED.PORT = p % 2 ^ WAG.REFUSED.PORT.width)
        ∧ (a = .i3c → t.rd I3C.REFUSED.ADDRESS = addr % 2 ^ I3C.REFUSED.ADDRESS.width
            ∧ t.rd I3C.REFUSED.STATUS = r.status % 2 ^ I3C.REFUSED.STATUS.width
            ∧ t.rd I3C.REFUSED.COUNT = satInc I3C.REFUSED.COUNT.width (s.rd I3C.REFUSED.COUNT) 1))) ∧
    (∀ p, a = .port p → s.hears p = false → s.yields (.registerWrite a addr v) (fun t => t = s))


/-! ### The I3C target and the test port -/

/-- The serial ports (R542, R548 to R556, R561, R568). Address assignment, events, lengths and characteristics answer as their codes say; a
transfer to another address is not acknowledged; a private write sets the pointer and writes the words behind it, a private read gives
the words from the pointer on; an interrupt acknowledged leaves the queue; an idle authentication ends; a flash operation leaves what
it says and frees the session; the test port loads its instruction, where that is allowed while RESET_N is low. -/
def Obligations.SerialPortsAnswer : Prop :=
  ∀ (s : State) (da : Nat),
    let mine := s.i3cFor (some da) = true
    let i3c := fun (i : Instr) (x : I3cSt) => s.yields i (fun t => t = { s with i3c := x })
    let x := s.i3c
    let out := fun (bs : List Nat) => ({ x with out := bs, acked := true } : I3cSt)
    let assigned := fun (i : Instr) (d : Nat) => s.yields i (fun t => t.rd I3C.STATUS.DA = d ∧ t.on I3C.STATUS.DA_VALID = true
      ∧ OnlyRegs { s with i3c := { x with pointer := 0, hotJoin := false, acked := true, lastTransfer := s.now } } t
          [I3C.STATUS.DA, I3C.STATUS.DA_VALID])
    (mine →
      i3c (.getpid da) (out (beBytes 6 x.pid)) ∧
      i3c (.getbcr da) (out [0x2E]) ∧
      i3c (.getdcr da) (out [0x00]) ∧
      i3c (.getmwl da) (out (beBytes 2 x.mwl)) ∧
      i3c (.getmrl da) (out (beBytes 2 x.mrl)) ∧
      i3c (.getmxds da) (out [0x00, 0x00]) ∧
      i3c (.getstatus da) { out [s.dev, 32 * b2n x.protoErr + min 15 x.ibis.length] with protoErr := false } ∧
      (∀ len, i3c (.setmwl (some da) len) { x with acked := true, mwl := if 6 ≤ len ∧ len ≤ 1026 then len else x.mwl } ∧
        i3c (.setmrl (some da) len) { x with acked := true, mrl := if 4 ≤ len ∧ len ≤ 1024 then len else x.mrl }) ∧
      (∀ ev, ev.testBit 0 = true → ev.testBit 3 = false →
        s.yields (.enec (some da) ev) (fun t => t.on I3C.STATUS.ENINT = true
          ∧ OnlyRegs { s with i3c := { x with acked := true } } t [I3C.STATUS.ENINT]) ∧
        s.yields (.disec (some da) ev) (fun t => t.on I3C.STATUS.ENINT = false
          ∧ OnlyRegs { s with i3c := { x with acked := true } } t [I3C.STATUS.ENINT])) ∧
      (∀ d, d < 128 → assigned (.setnewda da d) d) ∧
      (∀ lo hi, le [lo, hi] 0 2 % 4 = 0 →
        i3c (.i3cPrivateWrite da [lo, hi] none) { x with hdr := false, lastTransfer := s.now, acked := true, out := [], pointer := le [lo, hi] 0 2 } ∧
        (x.hdr = true → i3c (.hdrWrite da [lo, hi] none) { x with lastTransfer := s.now, acked := true, out := [], pointer := le [lo, hi] 0 2 })) ∧
      (∀ bs : List Nat, bs.length = 6 → le bs 0 2 % 4 = 0 → le bs 0 2 < 0x10000 →
        let addr := le bs 0 2
        let u := { s with i3c := { x with hdr := false, lastTransfer := s.now, acked := true, out := [], pointer := addr } }
        let r := u.access .i3c addr (le bs 2 4)
        s.yields (.i3cPrivateWrite da bs none) (fun t => (r.2.status = 0 → t = r.1)
          ∧ (r.2.status ≠ 0 → t.rd I3C.REFUSED.ADDRESS = addr % 2 ^ I3C.REFUSED.ADDRESS.width
              ∧ t.rd I3C.REFUSED.STATUS = r.2.status % 2 ^ I3C.REFUSED.STATUS.width))) ∧
      (s.boot.wakeReport = none → 4 ≤ x.mrl → x.pointer + 4 ≤ 0x10000 →
        let u := { s with i3c := { x with hdr := false, lastTransfer := s.now } }
        s.yields (.i3cPrivateRead da 4) (fun t => t.i3c.out = leBytes 4 (u.readAccess .i3c x.pointer).2 ∧ t.i3c.pointer = x.pointer + 4
          ∧ t.i3c.acked = true ∧ t.i3c.hdr = false) ∧
        (x.hdr = true → s.yields (.hdrRead da 4) (fun t => t.i3c.pointer = x.pointer + 4 ∧ t.i3c.acked = true ∧ t.i3c.out.length = 4)))) ∧
    (¬ mine → ∀ i ∈ [Instr.getpid da, .getbcr da, .getdcr da, .getmwl da, .getmrl da, .getmxds da, .getstatus da, .setmwl (some da) 8,
        .setmrl (some da) 8, .enec (some da) 1, .disec (some da) 1, .setnewda da 9, .i3cPrivateWrite da [0, 0] none, .i3cPrivateRead da 4],
      i3c i { x with out := [], acked := false }) ∧
    (x.hdr = false → (s.yields (.hdrWrite da [0, 0] none) (fun t => t = s)) ∧ s.yields (.hdrRead da 4) (fun t => t = s)) ∧
    (s.i3cUp = true →
      i3c .enthdr0 { x with hdr := true } ∧
      (s.on I3C.STATUS.AUTH = false → s.yields .rstdaa (fun t => t.on I3C.STATUS.DA_VALID = false ∧ t.rd I3C.STATUS.DA = 0
        ∧ OnlyRegs { s with i3c := { x with pointer := 0 } } t [I3C.STATUS.DA, I3C.STATUS.DA_VALID])) ∧
      (s.on I3C.STATUS.DA_VALID = false → da < 128 →
        assigned (.entdaa da) da ∧ (x.staticAddr ≠ 0 → assigned (.setdasa x.staticAddr da) da) ∧
        (s.on I3C.STATUS.ENHJ = true → x.upAt + ticksOfMs 1 ≤ s.now → i3c .hotJoin { x with hotJoin := true })) ∧
      (∀ i rest, x.ibis = i :: rest → s.on I3C.STATUS.DA_VALID = true → s.on I3C.STATUS.ENINT = true →
        s.yields (.ibiRequest true) (fun t => t.rd I3C.IBI_STATUS.WAITING = min 64 rest.length % 2 ^ I3C.IBI_STATUS.WAITING.width
          ∧ (i.cls = 3 → t.rd I3C.IBI_STATUS.SEQ = x.eventSeqs.headD 0 % 65536)
          ∧ (i.cls ≠ 3 → t.rd I3C.IBI_STATUS.SEQ = s.rd I3C.IBI_STATUS.SEQ)
          ∧ OnlyRegs { s with i3c := { x with ibis := rest, ibiOut := i.cls :: i.data,
                                              eventSeqs := if i.cls = 3 then x.eventSeqs.tail else x.eventSeqs } } t
              [I3C.IBI_STATUS.WAITING, I3C.IBI_STATUS.SEQ]))) ∧
    (s.on I3C.STATUS.AUTH = true → x.lastTransfer + ticksOfS (s.rd I3C.AUTH_IDLE.SECONDS) ≤ s.now → x.flashOp = none →
      s.yields .authIdleTimeout (fun t => t.on I3C.STATUS.AUTH = false ∧ t.rd I3C.STATUS.ROLE = 1 ∧ t.rd I3C.FLASH_STATUS.STATE = 0
        ∧ OnlyRegs { s with i3c := { x with hostId := 0, rights := 3, nonceLive := false } } t
            [I3C.STATUS.AUTH, I3C.STATUS.ROLE, I3C.FLASH_STATUS.STATE])) ∧
    (∀ op addr len left, x.flashOp = some (op, addr, len) → s.canonical → s.yields (.flashOpComplete true left) (fun t =>
      t.i3c.flashOp = none ∧ t.rd I3C.FLASH_STATUS.STATE = (if x.flashClose then 0 else 1) ∧ t.rd I3C.FLASH_STATUS.RESULT = 0
        ∧ t.rd I3C.FLASH_STATUS.OPS = satInc I3C.FLASH_STATUS.OPS.width (s.rd I3C.FLASH_STATUS.OPS) 1
        ∧ (∀ k, k < addr ∨ addr + len ≤ k → Memory.byte 0xFF t.flash k = Memory.byte 0xFF s.flash k)
        ∧ (op = 3 → t.flash = s.flash)
        ∧ (op = 5 ∨ op = 6 → ∀ i, i < len → Memory.byte 0xFF t.flash (addr + i) = 0xFF)
        ∧ (op = 4 → ∀ i, i < len → (s.flashBytes addr len).getD i 0 = 0xFF →
            Memory.byte 0xFF t.flash (addr + i) = Memory.byte 0 x.flashBuf i))) ∧
    let tap := fun (i : Instr) (code tdo : Nat) => s.yields i (fun t => t = { s with boot := { s.boot with tap := code, tdo := tdo } })
    let lowOnly := fun (i : Instr) (code : Nat) => tap i (if s.boot.resetLow then code else 0xFF) 0
    lowOnly .jtagExtest 0x00 ∧ lowOnly .jtagExtestPulse 0x08 ∧ lowOnly .jtagExtestTrain 0x09 ∧ lowOnly .jtagHighz 0x0A ∧
    lowOnly .jtagClamp 0x0B ∧ tap .jtagIdcode 0x01 0x1088074B ∧ tap .jtagSamplePreload 0x02 0 ∧ tap .jtagTapReset 0x01 0 ∧
    (s.sec.service = none → tap (.jtagBypass 0xFF) 0xFF 0)
end

