-- ==== Sys2Proof/Laws/SMap.lean ====
section
/-! SUPPORT. Laws of sparse maps and byte memories: a read after a write, and the canonical form kept by every write. -/

namespace Sys2Proof.Machine

section
variable {α : Type} (d : α)

theorem SMap.get_erase_self (m : SMap α) (k : Nat) : SMap.get d (SMap.erase m k) k = d := by
  induction m with
  | nil => rfl
  | cons p m ih =>
    obtain ⟨j, w⟩ := p
    by_cases h : j = k <;> simp [SMap.erase, SMap.get, h, ih]

theorem SMap.get_erase_ne (m : SMap α) {k i : Nat} (h : i ≠ k) : SMap.get d (SMap.erase m k) i = SMap.get d m i := by
  induction m with
  | nil => rfl
  | cons p m ih =>
    obtain ⟨j, w⟩ := p
    by_cases hj : j = k
    · have : j ≠ i := by omega
      simp [SMap.erase, SMap.get, hj, ih]
      intro hk
      exact absurd (hj.trans hk) this
    · simp [SMap.erase, SMap.get, hj, ih]

theorem SMap.get_insert_ne (m : SMap α) {k i : Nat} (v : α) (h : i ≠ k) :
    SMap.get d (SMap.insert m k v) i = SMap.get d m i := by
  have hk : ¬ k = i := fun e => h e.symm
  induction m with
  | nil => simp [SMap.insert, SMap.get, hk]
  | cons p m ih =>
    obtain ⟨j, w⟩ := p
    by_cases hj : k < j
    · simp [SMap.insert, SMap.get, hj, hk]
    · simp [SMap.insert, SMap.get, hj, ih]

theorem SMap.get_insert_self (m : SMap α) (k : Nat) (v : α) :
    SMap.get d (SMap.insert (SMap.erase m k) k v) k = v := by
  induction m with
  | nil => simp [SMap.erase, SMap.insert, SMap.get]
  | cons p m ih =>
    obtain ⟨j, w⟩ := p
    by_cases hj : j = k
    · simp [SMap.erase, hj, ih]
    · by_cases hlt : k < j
      · simp [SMap.erase, SMap.insert, SMap.get, hj, hlt]
      · simp [SMap.erase, SMap.insert, SMap.get, hj, hlt, ih]

variable [DecidableEq α]

/-- A read of the key written gives the value written. -/
@[simp] theorem SMap.get_set_self (m : SMap α) (k : Nat) (v : α) : SMap.get d (SMap.set d m k v) k = v := by
  by_cases h : v = d
  · simp [SMap.set, h, SMap.get_erase_self]
  · simp [SMap.set, h, SMap.get_insert_self]

/-- A write leaves every other key alone. -/
theorem SMap.get_set_ne (m : SMap α) {k i : Nat} (v : α) (h : i ≠ k) : SMap.get d (SMap.set d m k v) i = SMap.get d m i := by
  by_cases hv : v = d
  · simp [SMap.set, hv, SMap.get_erase_ne d m h]
  · simp [SMap.set, hv, SMap.get_insert_ne d _ v h, SMap.get_erase_ne d m h]

theorem SMap.wfFrom_mono {lo lo' : Nat} {m : SMap α} (h : lo' ≤ lo) (w : SMap.wfFrom d lo m = true) :
    SMap.wfFrom d lo' m = true := by
  cases m with
  | nil => rfl
  | cons p m =>
    simp only [SMap.wfFrom, Bool.and_eq_true, decide_eq_true_eq] at w ⊢
    exact ⟨⟨by omega, w.1.2⟩, w.2⟩

theorem SMap.wfFrom_erase {lo : Nat} {m : SMap α} (k : Nat) (w : SMap.wfFrom d lo m = true) :
    SMap.wfFrom d lo (SMap.erase m k) = true := by
  induction m generalizing lo with
  | nil => rfl
  | cons p m ih =>
    simp only [SMap.wfFrom, Bool.and_eq_true, decide_eq_true_eq] at w
    simp only [SMap.erase]
    split
    · exact SMap.wfFrom_mono d (by omega) (ih w.2)
    · simp [SMap.wfFrom, w.1.1, w.1.2, ih w.2]

/-- Leaving entries out keeps the canonical form. -/
theorem SMap.wfFrom_filter {lo : Nat} {m : SMap α} (p : Nat × α → Bool) (w : SMap.wfFrom d lo m = true) :
    SMap.wfFrom d lo (m.filter p) = true := by
  induction m generalizing lo with
  | nil => rfl
  | cons q m ih =>
    simp only [SMap.wfFrom, Bool.and_eq_true, decide_eq_true_eq] at w
    simp only [List.filter]
    split
    · simp [SMap.wfFrom, w.1.1, w.1.2, ih w.2]
    · exact SMap.wfFrom_mono d (by omega) (ih w.2)

theorem SMap.wfFrom_insert {lo : Nat} {m : SMap α} {k : Nat} {v : α} (hv : v ≠ d) (hk : lo ≤ k)
    (w : SMap.wfFrom d lo m = true) (e : SMap.erase m k = m) : SMap.wfFrom d lo (SMap.insert m k v) = true := by
  induction m generalizing lo with
  | nil => simp [SMap.insert, SMap.wfFrom, hk, hv]
  | cons p m ih =>
    obtain ⟨j, u⟩ := p
    simp only [SMap.wfFrom, Bool.and_eq_true, decide_eq_true_eq] at w
    have hj : j ≠ k := by
      rintro rfl
      have := congrArg List.length e
      have hle : ∀ m : SMap α, (SMap.erase m j).length ≤ m.length := by
        intro m
        induction m with
        | nil => simp [SMap.erase]
        | cons q m ih => simp only [SMap.erase]; split <;> simp <;> omega
      have := hle m
      simp [SMap.erase] at *
      omega
    simp only [SMap.erase, hj, if_false, List.cons.injEq, true_and] at e
    simp only [SMap.insert]
    split
    · simp [SMap.wfFrom, hk, hv, w.1.2, w.2]
      omega
    · simp [SMap.wfFrom, w.1.1, w.1.2, ih (by omega) w.2 e]

omit [DecidableEq α] in
theorem SMap.erase_erase (m : SMap α) (k : Nat) : SMap.erase (SMap.erase m k) k = SMap.erase m k := by
  induction m with
  | nil => rfl
  | cons p m ih =>
    by_cases h : p.1 = k <;> simp [SMap.erase, h, ih]

/-- Every write keeps the canonical form. -/
theorem SMap.wf_set {m : SMap α} (k : Nat) (v : α) (w : SMap.wf d m = true) : SMap.wf d (SMap.set d m k v) = true := by
  by_cases h : v = d
  · simpa [SMap.set, SMap.wf, h] using SMap.wfFrom_erase d k w
  · simpa [SMap.set, SMap.wf, h] using
      SMap.wfFrom_insert d h (Nat.zero_le k) (SMap.wfFrom_erase d k w) (SMap.erase_erase m k)

end

/-- The byte written is the byte read. -/
@[simp] theorem Memory.byte_setByte_self (d : Byte) (m : Memory) (a v : Nat) :
    Memory.byte d (Memory.setByte d m a v) a = v % 256 := by
  simp [Memory.byte, Memory.setByte]

/-- A byte write leaves every other byte alone. -/
theorem Memory.byte_setByte_ne (d : Byte) (m : Memory) {a b : Nat} (v : Nat) (h : b ≠ a) :
    Memory.byte d (Memory.setByte d m a v) b = Memory.byte d m b := by
  simp [Memory.byte, Memory.setByte, SMap.get_set_ne d m _ h]

/-- A run of bytes written keeps the canonical form. -/
theorem Memory.wf_write (d : Byte) {m : Memory} (a : Nat) (bs : List Nat) (w : Memory.wf d m = true) :
    Memory.wf d (Memory.write d m a bs) = true := by
  induction bs generalizing m a with
  | nil => exact w
  | cons b bs ih => exact ih (a + 1) (SMap.wf_set d a _ w)

/-- A write leaves every byte outside its range alone. -/
theorem Memory.byte_write_outside (d : Byte) (m : Memory) (a : Nat) (bs : List Nat) {b : Nat} (h : b < a ∨ a + bs.length ≤ b) :
    Memory.byte d (Memory.write d m a bs) b = Memory.byte d m b := by
  induction bs generalizing m a with
  | nil => rfl
  | cons v bs ih =>
    simp only [List.length_cons] at h
    rw [Memory.write, ih _ _ (by omega), Memory.byte_setByte_ne d m v (by omega)]

/-- A write puts its bytes where it says. -/
theorem Memory.byte_write_inside (d : Byte) (m : Memory) (a : Nat) (bs : List Nat) {i : Nat} (h : i < bs.length) :
    Memory.byte d (Memory.write d m a bs) (a + i) = bs.getD i 0 % 256 := by
  induction bs generalizing m a i with
  | nil => simp at h
  | cons v bs ih =>
    cases i with
    | zero => simp [Memory.write, Memory.byte_write_outside d _ (a + 1) bs (b := a) (.inl (by omega))]
    | succ i =>
      simp only [List.length_cons] at h
      have := ih (Memory.setByte d m a v) (a + 1) (i := i) (by omega)
      simpa [Memory.write, Nat.add_assoc, Nat.add_comm 1 i] using this

end Sys2Proof.Machine
end

