-- ==== Sys2Proof/Laws/State.lean ====
section
/-! SUPPORT. What each elementary update of the state leaves in each field, and what a register field reads after a write: the
lemmas that keep later proofs from unfolding a record update. -/

namespace Sys2Proof.Machine

variable (s : State)

/-! ### Register fields -/

/-- The field written holds the value, cut to its width. -/
@[simp] theorem rd_wr_self (f : Fld) (v : Nat) : (s.wr f v).rd f = v % 2 ^ f.width := by
  simp [State.rd, State.wr, Nat.xor_assoc]

/-- Every other field holds what it held. -/
theorem rd_wr_ne {f g : Fld} (v : Nat) (h : f.key ≠ g.key) : (s.wr g v).rd f = s.rd f := by
  simp [State.rd, State.wr, SMap.get_set_ne 0 s.regs _ h]

/-- Fields of different registers are different fields. -/
theorem key_ne {f g : Fld} (hf : f.lo < 32) (hg : g.lo < 32) (h : f.addr ≠ g.addr) : f.key ≠ g.key := by
  simp only [Fld.key]
  omega

/-- A field's reading depends on the register file alone. -/
theorem rd_of_regs {s t : State} (h : t.regs = s.regs) (f : Fld) : t.rd f = s.rd f := by simp only [State.rd, h]

theorem rd_put_self (f : Fld) (b : Bool) : (s.put f b).rd f = b2n b % 2 ^ f.width := rd_wr_self ..

theorem rd_put_ne {f g : Fld} (b : Bool) (h : f.key ≠ g.key) : (s.put g b).rd f = s.rd f := rd_wr_ne _ _ h

/-- A one-bit field set or cleared reads as such. -/
theorem on_put_self (f : Fld) (b : Bool) (h : f.width = 1) : (s.put f b).on f = b := by
  simp only [State.on, rd_put_self, h]
  cases b <;> rfl

/-- At reset every field holds its reset value. -/
theorem rd_reset (f : Fld) : State.reset.rd f = f.reset := Nat.zero_xor _


/-! ### Reading a field after a change of another part -/

@[simp] theorem rd_with_pending (x) (f : Fld) : ({ s with pending := x } : State).rd f = s.rd f := rfl
@[simp] theorem rd_with_now (x) (f : Fld) : ({ s with now := x } : State).rd f = s.rd f := rfl
@[simp] theorem rd_with_draws (x) (f : Fld) : ({ s with draws := x } : State).rd f = s.rd f := rfl
@[simp] theorem rd_with_frees (x) (f : Fld) : ({ s with frees := x } : State).rd f = s.rd f := rfl
@[simp] theorem rd_with_events (x) (f : Fld) : ({ s with events := x } : State).rd f = s.rd f := rfl
@[simp] theorem rd_with_oplog (x) (f : Fld) : ({ s with oplog := x } : State).rd f = s.rd f := rfl
@[simp] theorem rd_with_opSeq (x) (f : Fld) : ({ s with opSeq := x } : State).rd f = s.rd f := rfl
@[simp] theorem rd_with_boot (x) (f : Fld) : ({ s with boot := x } : State).rd f = s.rd f := rfl
@[simp] theorem rd_with_led (x) (f : Fld) : ({ s with led := x } : State).rd f = s.rd f := rfl
@[simp] theorem rd_with_sec (x) (f : Fld) : ({ s with sec := x } : State).rd f = s.rd f := rfl
@[simp] theorem rd_with_prf (x) (f : Fld) : ({ s with prf := x } : State).rd f = s.rd f := rfl
@[simp] theorem rd_with_i3c (x) (f : Fld) : ({ s with i3c := x } : State).rd f = s.rd f := rfl
@[simp] theorem rd_with_image (x) (f : Fld) : ({ s with image := x } : State).rd f = s.rd f := rfl
@[simp] theorem rd_with_flash (x) (f : Fld) : ({ s with flash := x } : State).rd f = s.rd f := rfl
@[simp] theorem rd_with_ports (x) (f : Fld) : ({ s with ports := x } : State).rd f = s.rd f := rfl
@[simp] theorem rd_with_leases (x) (f : Fld) : ({ s with leases := x } : State).rd f = s.rd f := rfl
@[simp] theorem rd_with_tb (x) (f : Fld) : ({ s with tb := x } : State).rd f = s.rd f := rfl
@[simp] theorem rd_with_clk (x) (f : Fld) : ({ s with clk := x } : State).rd f = s.rd f := rfl
@[simp] theorem rd_with_cal (x) (f : Fld) : ({ s with cal := x } : State).rd f = s.rd f := rfl
@[simp] theorem rd_with_cap (x) (f : Fld) : ({ s with cap := x } : State).rd f = s.rd f := rfl
@[simp] theorem rd_with_fil (x) (f : Fld) : ({ s with fil := x } : State).rd f = s.rd f := rfl
@[simp] theorem rd_with_trg (x) (f : Fld) : ({ s with trg := x } : State).rd f = s.rd f := rfl
@[simp] theorem rd_with_acc (x) (f : Fld) : ({ s with acc := x } : State).rd f = s.rd f := rfl
@[simp] theorem rd_with_tdc (x) (f : Fld) : ({ s with tdc := x } : State).rd f = s.rd f := rfl
@[simp] theorem rd_with_cmb (x) (f : Fld) : ({ s with cmb := x } : State).rd f = s.rd f := rfl
@[simp] theorem rd_with_arc (x) (f : Fld) : ({ s with arc := x } : State).rd f = s.rd f := rfl
@[simp] theorem rd_with_mon (x) (f : Fld) : ({ s with mon := x } : State).rd f = s.rd f := rfl
@[simp] theorem rd_with_pro (x) (f : Fld) : ({ s with pro := x } : State).rd f = s.rd f := rfl

/-! ### Updates of one part -/

@[simp] theorem modPort_pending (p : Nat) (f : Port → Port) : (s.modPort p f).pending = s.pending := rfl
@[simp] theorem modPort_regs (p : Nat) (f : Port → Port) : (s.modPort p f).regs = s.regs := rfl
@[simp] theorem modPort_now (p : Nat) (f : Port → Port) : (s.modPort p f).now = s.now := rfl
@[simp] theorem modPort_draws (p : Nat) (f : Port → Port) : (s.modPort p f).draws = s.draws := rfl
@[simp] theorem modPort_frees (p : Nat) (f : Port → Port) : (s.modPort p f).frees = s.frees := rfl
@[simp] theorem modPort_events (p : Nat) (f : Port → Port) : (s.modPort p f).events = s.events := rfl
@[simp] theorem modPort_oplog (p : Nat) (f : Port → Port) : (s.modPort p f).oplog = s.oplog := rfl
@[simp] theorem modPort_opSeq (p : Nat) (f : Port → Port) : (s.modPort p f).opSeq = s.opSeq := rfl
@[simp] theorem modPort_boot (p : Nat) (f : Port → Port) : (s.modPort p f).boot = s.boot := rfl
@[simp] theorem modPort_led (p : Nat) (f : Port → Port) : (s.modPort p f).led = s.led := rfl
@[simp] theorem modPort_sec (p : Nat) (f : Port → Port) : (s.modPort p f).sec = s.sec := rfl
@[simp] theorem modPort_prf (p : Nat) (f : Port → Port) : (s.modPort p f).prf = s.prf := rfl
@[simp] theorem modPort_i3c (p : Nat) (f : Port → Port) : (s.modPort p f).i3c = s.i3c := rfl
@[simp] theorem modPort_image (p : Nat) (f : Port → Port) : (s.modPort p f).image = s.image := rfl
@[simp] theorem modPort_flash (p : Nat) (f : Port → Port) : (s.modPort p f).flash = s.flash := rfl
@[simp] theorem modPort_ports (p : Nat) (f : Port → Port) : (s.modPort p f).ports = s.ports.modify p f := rfl
@[simp] theorem modPort_leases (p : Nat) (f : Port → Port) : (s.modPort p f).leases = s.leases := rfl
@[simp] theorem modPort_tb (p : Nat) (f : Port → Port) : (s.modPort p f).tb = s.tb := rfl
@[simp] theorem modPort_clk (p : Nat) (f : Port → Port) : (s.modPort p f).clk = s.clk := rfl
@[simp] theorem modPort_cal (p : Nat) (f : Port → Port) : (s.modPort p f).cal = s.cal := rfl
@[simp] theorem modPort_cap (p : Nat) (f : Port → Port) : (s.modPort p f).cap = s.cap := rfl
@[simp] theorem modPort_fil (p : Nat) (f : Port → Port) : (s.modPort p f).fil = s.fil := rfl
@[simp] theorem modPort_trg (p : Nat) (f : Port → Port) : (s.modPort p f).trg = s.trg := rfl
@[simp] theorem modPort_acc (p : Nat) (f : Port → Port) : (s.modPort p f).acc = s.acc := rfl
@[simp] theorem modPort_tdc (p : Nat) (f : Port → Port) : (s.modPort p f).tdc = s.tdc := rfl
@[simp] theorem modPort_cmb (p : Nat) (f : Port → Port) : (s.modPort p f).cmb = s.cmb := rfl
@[simp] theorem modPort_arc (p : Nat) (f : Port → Port) : (s.modPort p f).arc = s.arc := rfl
@[simp] theorem modPort_mon (p : Nat) (f : Port → Port) : (s.modPort p f).mon = s.mon := rfl
@[simp] theorem modPort_pro (p : Nat) (f : Port → Port) : (s.modPort p f).pro = s.pro := rfl
@[simp] theorem rd_modPort (p : Nat) (f : Port → Port) (g : Fld) : (s.modPort p f).rd g = s.rd g := rfl

@[simp] theorem modBoot_pending (f : Boot → Boot) : (s.modBoot f).pending = s.pending := rfl
@[simp] theorem modBoot_regs (f : Boot → Boot) : (s.modBoot f).regs = s.regs := rfl
@[simp] theorem modBoot_now (f : Boot → Boot) : (s.modBoot f).now = s.now := rfl
@[simp] theorem modBoot_draws (f : Boot → Boot) : (s.modBoot f).draws = s.draws := rfl
@[simp] theorem modBoot_frees (f : Boot → Boot) : (s.modBoot f).frees = s.frees := rfl
@[simp] theorem modBoot_events (f : Boot → Boot) : (s.modBoot f).events = s.events := rfl
@[simp] theorem modBoot_oplog (f : Boot → Boot) : (s.modBoot f).oplog = s.oplog := rfl
@[simp] theorem modBoot_opSeq (f : Boot → Boot) : (s.modBoot f).opSeq = s.opSeq := rfl
@[simp] theorem modBoot_boot (f : Boot → Boot) : (s.modBoot f).boot = f s.boot := rfl
@[simp] theorem modBoot_led (f : Boot → Boot) : (s.modBoot f).led = s.led := rfl
@[simp] theorem modBoot_sec (f : Boot → Boot) : (s.modBoot f).sec = s.sec := rfl
@[simp] theorem modBoot_prf (f : Boot → Boot) : (s.modBoot f).prf = s.prf := rfl
@[simp] theorem modBoot_i3c (f : Boot → Boot) : (s.modBoot f).i3c = s.i3c := rfl
@[simp] theorem modBoot_image (f : Boot → Boot) : (s.modBoot f).image = s.image := rfl
@[simp] theorem modBoot_flash (f : Boot → Boot) : (s.modBoot f).flash = s.flash := rfl
@[simp] theorem modBoot_ports (f : Boot → Boot) : (s.modBoot f).ports = s.ports := rfl
@[simp] theorem modBoot_leases (f : Boot → Boot) : (s.modBoot f).leases = s.leases := rfl
@[simp] theorem modBoot_tb (f : Boot → Boot) : (s.modBoot f).tb = s.tb := rfl
@[simp] theorem modBoot_clk (f : Boot → Boot) : (s.modBoot f).clk = s.clk := rfl
@[simp] theorem modBoot_cal (f : Boot → Boot) : (s.modBoot f).cal = s.cal := rfl
@[simp] theorem modBoot_cap (f : Boot → Boot) : (s.modBoot f).cap = s.cap := rfl
@[simp] theorem modBoot_fil (f : Boot → Boot) : (s.modBoot f).fil = s.fil := rfl
@[simp] theorem modBoot_trg (f : Boot → Boot) : (s.modBoot f).trg = s.trg := rfl
@[simp] theorem modBoot_acc (f : Boot → Boot) : (s.modBoot f).acc = s.acc := rfl
@[simp] theorem modBoot_tdc (f : Boot → Boot) : (s.modBoot f).tdc = s.tdc := rfl
@[simp] theorem modBoot_cmb (f : Boot → Boot) : (s.modBoot f).cmb = s.cmb := rfl
@[simp] theorem modBoot_arc (f : Boot → Boot) : (s.modBoot f).arc = s.arc := rfl
@[simp] theorem modBoot_mon (f : Boot → Boot) : (s.modBoot f).mon = s.mon := rfl
@[simp] theorem modBoot_pro (f : Boot → Boot) : (s.modBoot f).pro = s.pro := rfl
@[simp] theorem rd_modBoot (f : Boot → Boot) (g : Fld) : (s.modBoot f).rd g = s.rd g := rfl

@[simp] theorem modI3c_pending (f : I3cSt → I3cSt) : (s.modI3c f).pending = s.pending := rfl
@[simp] theorem modI3c_regs (f : I3cSt → I3cSt) : (s.modI3c f).regs = s.regs := rfl
@[simp] theorem modI3c_now (f : I3cSt → I3cSt) : (s.modI3c f).now = s.now := rfl
@[simp] theorem modI3c_draws (f : I3cSt → I3cSt) : (s.modI3c f).draws = s.draws := rfl
@[simp] theorem modI3c_frees (f : I3cSt → I3cSt) : (s.modI3c f).frees = s.frees := rfl
@[simp] theorem modI3c_events (f : I3cSt → I3cSt) : (s.modI3c f).events = s.events := rfl
@[simp] theorem modI3c_oplog (f : I3cSt → I3cSt) : (s.modI3c f).oplog = s.oplog := rfl
@[simp] theorem modI3c_opSeq (f : I3cSt → I3cSt) : (s.modI3c f).opSeq = s.opSeq := rfl
@[simp] theorem modI3c_boot (f : I3cSt → I3cSt) : (s.modI3c f).boot = s.boot := rfl
@[simp] theorem modI3c_led (f : I3cSt → I3cSt) : (s.modI3c f).led = s.led := rfl
@[simp] theorem modI3c_sec (f : I3cSt → I3cSt) : (s.modI3c f).sec = s.sec := rfl
@[simp] theorem modI3c_prf (f : I3cSt → I3cSt) : (s.modI3c f).prf = s.prf := rfl
@[simp] theorem modI3c_i3c (f : I3cSt → I3cSt) : (s.modI3c f).i3c = f s.i3c := rfl
@[simp] theorem modI3c_image (f : I3cSt → I3cSt) : (s.modI3c f).image = s.image := rfl
@[simp] theorem modI3c_flash (f : I3cSt → I3cSt) : (s.modI3c f).flash = s.flash := rfl
@[simp] theorem modI3c_ports (f : I3cSt → I3cSt) : (s.modI3c f).ports = s.ports := rfl
@[simp] theorem modI3c_leases (f : I3cSt → I3cSt) : (s.modI3c f).leases = s.leases := rfl
@[simp] theorem modI3c_tb (f : I3cSt → I3cSt) : (s.modI3c f).tb = s.tb := rfl
@[simp] theorem modI3c_clk (f : I3cSt → I3cSt) : (s.modI3c f).clk = s.clk := rfl
@[simp] theorem modI3c_cal (f : I3cSt → I3cSt) : (s.modI3c f).cal = s.cal := rfl
@[simp] theorem modI3c_cap (f : I3cSt → I3cSt) : (s.modI3c f).cap = s.cap := rfl
@[simp] theorem modI3c_fil (f : I3cSt → I3cSt) : (s.modI3c f).fil = s.fil := rfl
@[simp] theorem modI3c_trg (f : I3cSt → I3cSt) : (s.modI3c f).trg = s.trg := rfl
@[simp] theorem modI3c_acc (f : I3cSt → I3cSt) : (s.modI3c f).acc = s.acc := rfl
@[simp] theorem modI3c_tdc (f : I3cSt → I3cSt) : (s.modI3c f).tdc = s.tdc := rfl
@[simp] theorem modI3c_cmb (f : I3cSt → I3cSt) : (s.modI3c f).cmb = s.cmb := rfl
@[simp] theorem modI3c_arc (f : I3cSt → I3cSt) : (s.modI3c f).arc = s.arc := rfl
@[simp] theorem modI3c_mon (f : I3cSt → I3cSt) : (s.modI3c f).mon = s.mon := rfl
@[simp] theorem modI3c_pro (f : I3cSt → I3cSt) : (s.modI3c f).pro = s.pro := rfl
@[simp] theorem rd_modI3c (f : I3cSt → I3cSt) (g : Fld) : (s.modI3c f).rd g = s.rd g := rfl

@[simp] theorem modClk_pending (f : Clk → Clk) : (s.modClk f).pending = s.pending := rfl
@[simp] theorem modClk_regs (f : Clk → Clk) : (s.modClk f).regs = s.regs := rfl
@[simp] theorem modClk_now (f : Clk → Clk) : (s.modClk f).now = s.now := rfl
@[simp] theorem modClk_draws (f : Clk → Clk) : (s.modClk f).draws = s.draws := rfl
@[simp] theorem modClk_frees (f : Clk → Clk) : (s.modClk f).frees = s.frees := rfl
@[simp] theorem modClk_events (f : Clk → Clk) : (s.modClk f).events = s.events := rfl
@[simp] theorem modClk_oplog (f : Clk → Clk) : (s.modClk f).oplog = s.oplog := rfl
@[simp] theorem modClk_opSeq (f : Clk → Clk) : (s.modClk f).opSeq = s.opSeq := rfl
@[simp] theorem modClk_boot (f : Clk → Clk) : (s.modClk f).boot = s.boot := rfl
@[simp] theorem modClk_led (f : Clk → Clk) : (s.modClk f).led = s.led := rfl
@[simp] theorem modClk_sec (f : Clk → Clk) : (s.modClk f).sec = s.sec := rfl
@[simp] theorem modClk_prf (f : Clk → Clk) : (s.modClk f).prf = s.prf := rfl
@[simp] theorem modClk_i3c (f : Clk → Clk) : (s.modClk f).i3c = s.i3c := rfl
@[simp] theorem modClk_image (f : Clk → Clk) : (s.modClk f).image = s.image := rfl
@[simp] theorem modClk_flash (f : Clk → Clk) : (s.modClk f).flash = s.flash := rfl
@[simp] theorem modClk_ports (f : Clk → Clk) : (s.modClk f).ports = s.ports := rfl
@[simp] theorem modClk_leases (f : Clk → Clk) : (s.modClk f).leases = s.leases := rfl
@[simp] theorem modClk_tb (f : Clk → Clk) : (s.modClk f).tb = s.tb := rfl
@[simp] theorem modClk_clk (f : Clk → Clk) : (s.modClk f).clk = f s.clk := rfl
@[simp] theorem modClk_cal (f : Clk → Clk) : (s.modClk f).cal = s.cal := rfl
@[simp] theorem modClk_cap (f : Clk → Clk) : (s.modClk f).cap = s.cap := rfl
@[simp] theorem modClk_fil (f : Clk → Clk) : (s.modClk f).fil = s.fil := rfl
@[simp] theorem modClk_trg (f : Clk → Clk) : (s.modClk f).trg = s.trg := rfl
@[simp] theorem modClk_acc (f : Clk → Clk) : (s.modClk f).acc = s.acc := rfl
@[simp] theorem modClk_tdc (f : Clk → Clk) : (s.modClk f).tdc = s.tdc := rfl
@[simp] theorem modClk_cmb (f : Clk → Clk) : (s.modClk f).cmb = s.cmb := rfl
@[simp] theorem modClk_arc (f : Clk → Clk) : (s.modClk f).arc = s.arc := rfl
@[simp] theorem modClk_mon (f : Clk → Clk) : (s.modClk f).mon = s.mon := rfl
@[simp] theorem modClk_pro (f : Clk → Clk) : (s.modClk f).pro = s.pro := rfl
@[simp] theorem rd_modClk (f : Clk → Clk) (g : Fld) : (s.modClk f).rd g = s.rd g := rfl

@[simp] theorem modCal_pending (m : Nat) (f : ChCal → ChCal) : (s.modCal m f).pending = s.pending := rfl
@[simp] theorem modCal_regs (m : Nat) (f : ChCal → ChCal) : (s.modCal m f).regs = s.regs := rfl
@[simp] theorem modCal_now (m : Nat) (f : ChCal → ChCal) : (s.modCal m f).now = s.now := rfl
@[simp] theorem modCal_draws (m : Nat) (f : ChCal → ChCal) : (s.modCal m f).draws = s.draws := rfl
@[simp] theorem modCal_frees (m : Nat) (f : ChCal → ChCal) : (s.modCal m f).frees = s.frees := rfl
@[simp] theorem modCal_events (m : Nat) (f : ChCal → ChCal) : (s.modCal m f).events = s.events := rfl
@[simp] theorem modCal_oplog (m : Nat) (f : ChCal → ChCal) : (s.modCal m f).oplog = s.oplog := rfl
@[simp] theorem modCal_opSeq (m : Nat) (f : ChCal → ChCal) : (s.modCal m f).opSeq = s.opSeq := rfl
@[simp] theorem modCal_boot (m : Nat) (f : ChCal → ChCal) : (s.modCal m f).boot = s.boot := rfl
@[simp] theorem modCal_led (m : Nat) (f : ChCal → ChCal) : (s.modCal m f).led = s.led := rfl
@[simp] theorem modCal_sec (m : Nat) (f : ChCal → ChCal) : (s.modCal m f).sec = s.sec := rfl
@[simp] theorem modCal_prf (m : Nat) (f : ChCal → ChCal) : (s.modCal m f).prf = s.prf := rfl
@[simp] theorem modCal_i3c (m : Nat) (f : ChCal → ChCal) : (s.modCal m f).i3c = s.i3c := rfl
@[simp] theorem modCal_image (m : Nat) (f : ChCal → ChCal) : (s.modCal m f).image = s.image := rfl
@[simp] theorem modCal_flash (m : Nat) (f : ChCal → ChCal) : (s.modCal m f).flash = s.flash := rfl
@[simp] theorem modCal_ports (m : Nat) (f : ChCal → ChCal) : (s.modCal m f).ports = s.ports := rfl
@[simp] theorem modCal_leases (m : Nat) (f : ChCal → ChCal) : (s.modCal m f).leases = s.leases := rfl
@[simp] theorem modCal_tb (m : Nat) (f : ChCal → ChCal) : (s.modCal m f).tb = s.tb := rfl
@[simp] theorem modCal_clk (m : Nat) (f : ChCal → ChCal) : (s.modCal m f).clk = s.clk := rfl
@[simp] theorem modCal_cal (m : Nat) (f : ChCal → ChCal) : (s.modCal m f).cal = { s.cal with ch := s.cal.ch.modify m f } := rfl
@[simp] theorem modCal_cap (m : Nat) (f : ChCal → ChCal) : (s.modCal m f).cap = s.cap := rfl
@[simp] theorem modCal_fil (m : Nat) (f : ChCal → ChCal) : (s.modCal m f).fil = s.fil := rfl
@[simp] theorem modCal_trg (m : Nat) (f : ChCal → ChCal) : (s.modCal m f).trg = s.trg := rfl
@[simp] theorem modCal_acc (m : Nat) (f : ChCal → ChCal) : (s.modCal m f).acc = s.acc := rfl
@[simp] theorem modCal_tdc (m : Nat) (f : ChCal → ChCal) : (s.modCal m f).tdc = s.tdc := rfl
@[simp] theorem modCal_cmb (m : Nat) (f : ChCal → ChCal) : (s.modCal m f).cmb = s.cmb := rfl
@[simp] theorem modCal_arc (m : Nat) (f : ChCal → ChCal) : (s.modCal m f).arc = s.arc := rfl
@[simp] theorem modCal_mon (m : Nat) (f : ChCal → ChCal) : (s.modCal m f).mon = s.mon := rfl
@[simp] theorem modCal_pro (m : Nat) (f : ChCal → ChCal) : (s.modCal m f).pro = s.pro := rfl
@[simp] theorem rd_modCal (m : Nat) (f : ChCal → ChCal) (g : Fld) : (s.modCal m f).rd g = s.rd g := rfl

@[simp] theorem modCap_pending (n : Nat) (f : CapCh → CapCh) : (s.modCap n f).pending = s.pending := rfl
@[simp] theorem modCap_regs (n : Nat) (f : CapCh → CapCh) : (s.modCap n f).regs = s.regs := rfl
@[simp] theorem modCap_now (n : Nat) (f : CapCh → CapCh) : (s.modCap n f).now = s.now := rfl
@[simp] theorem modCap_draws (n : Nat) (f : CapCh → CapCh) : (s.modCap n f).draws = s.draws := rfl
@[simp] theorem modCap_frees (n : Nat) (f : CapCh → CapCh) : (s.modCap n f).frees = s.frees := rfl
@[simp] theorem modCap_events (n : Nat) (f : CapCh → CapCh) : (s.modCap n f).events = s.events := rfl
@[simp] theorem modCap_oplog (n : Nat) (f : CapCh → CapCh) : (s.modCap n f).oplog = s.oplog := rfl
@[simp] theorem modCap_opSeq (n : Nat) (f : CapCh → CapCh) : (s.modCap n f).opSeq = s.opSeq := rfl
@[simp] theorem modCap_boot (n : Nat) (f : CapCh → CapCh) : (s.modCap n f).boot = s.boot := rfl
@[simp] theorem modCap_led (n : Nat) (f : CapCh → CapCh) : (s.modCap n f).led = s.led := rfl
@[simp] theorem modCap_sec (n : Nat) (f : CapCh → CapCh) : (s.modCap n f).sec = s.sec := rfl
@[simp] theorem modCap_prf (n : Nat) (f : CapCh → CapCh) : (s.modCap n f).prf = s.prf := rfl
@[simp] theorem modCap_i3c (n : Nat) (f : CapCh → CapCh) : (s.modCap n f).i3c = s.i3c := rfl
@[simp] theorem modCap_image (n : Nat) (f : CapCh → CapCh) : (s.modCap n f).image = s.image := rfl
@[simp] theorem modCap_flash (n : Nat) (f : CapCh → CapCh) : (s.modCap n f).flash = s.flash := rfl
@[simp] theorem modCap_ports (n : Nat) (f : CapCh → CapCh) : (s.modCap n f).ports = s.ports := rfl
@[simp] theorem modCap_leases (n : Nat) (f : CapCh → CapCh) : (s.modCap n f).leases = s.leases := rfl
@[simp] theorem modCap_tb (n : Nat) (f : CapCh → CapCh) : (s.modCap n f).tb = s.tb := rfl
@[simp] theorem modCap_clk (n : Nat) (f : CapCh → CapCh) : (s.modCap n f).clk = s.clk := rfl
@[simp] theorem modCap_cal (n : Nat) (f : CapCh → CapCh) : (s.modCap n f).cal = s.cal := rfl
@[simp] theorem modCap_cap (n : Nat) (f : CapCh → CapCh) : (s.modCap n f).cap = { s.cap with ch := s.cap.ch.modify n f } := rfl
@[simp] theorem modCap_fil (n : Nat) (f : CapCh → CapCh) : (s.modCap n f).fil = s.fil := rfl
@[simp] theorem modCap_trg (n : Nat) (f : CapCh → CapCh) : (s.modCap n f).trg = s.trg := rfl
@[simp] theorem modCap_acc (n : Nat) (f : CapCh → CapCh) : (s.modCap n f).acc = s.acc := rfl
@[simp] theorem modCap_tdc (n : Nat) (f : CapCh → CapCh) : (s.modCap n f).tdc = s.tdc := rfl
@[simp] theorem modCap_cmb (n : Nat) (f : CapCh → CapCh) : (s.modCap n f).cmb = s.cmb := rfl
@[simp] theorem modCap_arc (n : Nat) (f : CapCh → CapCh) : (s.modCap n f).arc = s.arc := rfl
@[simp] theorem modCap_mon (n : Nat) (f : CapCh → CapCh) : (s.modCap n f).mon = s.mon := rfl
@[simp] theorem modCap_pro (n : Nat) (f : CapCh → CapCh) : (s.modCap n f).pro = s.pro := rfl
@[simp] theorem rd_modCap (n : Nat) (f : CapCh → CapCh) (g : Fld) : (s.modCap n f).rd g = s.rd g := rfl

@[simp] theorem modTrg_pending (n : Nat) (f : TrgCh → TrgCh) : (s.modTrg n f).pending = s.pending := rfl
@[simp] theorem modTrg_regs (n : Nat) (f : TrgCh → TrgCh) : (s.modTrg n f).regs = s.regs := rfl
@[simp] theorem modTrg_now (n : Nat) (f : TrgCh → TrgCh) : (s.modTrg n f).now = s.now := rfl
@[simp] theorem modTrg_draws (n : Nat) (f : TrgCh → TrgCh) : (s.modTrg n f).draws = s.draws := rfl
@[simp] theorem modTrg_frees (n : Nat) (f : TrgCh → TrgCh) : (s.modTrg n f).frees = s.frees := rfl
@[simp] theorem modTrg_events (n : Nat) (f : TrgCh → TrgCh) : (s.modTrg n f).events = s.events := rfl
@[simp] theorem modTrg_oplog (n : Nat) (f : TrgCh → TrgCh) : (s.modTrg n f).oplog = s.oplog := rfl
@[simp] theorem modTrg_opSeq (n : Nat) (f : TrgCh → TrgCh) : (s.modTrg n f).opSeq = s.opSeq := rfl
@[simp] theorem modTrg_boot (n : Nat) (f : TrgCh → TrgCh) : (s.modTrg n f).boot = s.boot := rfl
@[simp] theorem modTrg_led (n : Nat) (f : TrgCh → TrgCh) : (s.modTrg n f).led = s.led := rfl
@[simp] theorem modTrg_sec (n : Nat) (f : TrgCh → TrgCh) : (s.modTrg n f).sec = s.sec := rfl
@[simp] theorem modTrg_prf (n : Nat) (f : TrgCh → TrgCh) : (s.modTrg n f).prf = s.prf := rfl
@[simp] theorem modTrg_i3c (n : Nat) (f : TrgCh → TrgCh) : (s.modTrg n f).i3c = s.i3c := rfl
@[simp] theorem modTrg_image (n : Nat) (f : TrgCh → TrgCh) : (s.modTrg n f).image = s.image := rfl
@[simp] theorem modTrg_flash (n : Nat) (f : TrgCh → TrgCh) : (s.modTrg n f).flash = s.flash := rfl
@[simp] theorem modTrg_ports (n : Nat) (f : TrgCh → TrgCh) : (s.modTrg n f).ports = s.ports := rfl
@[simp] theorem modTrg_leases (n : Nat) (f : TrgCh → TrgCh) : (s.modTrg n f).leases = s.leases := rfl
@[simp] theorem modTrg_tb (n : Nat) (f : TrgCh → TrgCh) : (s.modTrg n f).tb = s.tb := rfl
@[simp] theorem modTrg_clk (n : Nat) (f : TrgCh → TrgCh) : (s.modTrg n f).clk = s.clk := rfl
@[simp] theorem modTrg_cal (n : Nat) (f : TrgCh → TrgCh) : (s.modTrg n f).cal = s.cal := rfl
@[simp] theorem modTrg_cap (n : Nat) (f : TrgCh → TrgCh) : (s.modTrg n f).cap = s.cap := rfl
@[simp] theorem modTrg_fil (n : Nat) (f : TrgCh → TrgCh) : (s.modTrg n f).fil = s.fil := rfl
@[simp] theorem modTrg_trg (n : Nat) (f : TrgCh → TrgCh) : (s.modTrg n f).trg = { s.trg with ch := s.trg.ch.modify n f } := rfl
@[simp] theorem modTrg_acc (n : Nat) (f : TrgCh → TrgCh) : (s.modTrg n f).acc = s.acc := rfl
@[simp] theorem modTrg_tdc (n : Nat) (f : TrgCh → TrgCh) : (s.modTrg n f).tdc = s.tdc := rfl
@[simp] theorem modTrg_cmb (n : Nat) (f : TrgCh → TrgCh) : (s.modTrg n f).cmb = s.cmb := rfl
@[simp] theorem modTrg_arc (n : Nat) (f : TrgCh → TrgCh) : (s.modTrg n f).arc = s.arc := rfl
@[simp] theorem modTrg_mon (n : Nat) (f : TrgCh → TrgCh) : (s.modTrg n f).mon = s.mon := rfl
@[simp] theorem modTrg_pro (n : Nat) (f : TrgCh → TrgCh) : (s.modTrg n f).pro = s.pro := rfl
@[simp] theorem rd_modTrg (n : Nat) (f : TrgCh → TrgCh) (g : Fld) : (s.modTrg n f).rd g = s.rd g := rfl

@[simp] theorem modAcc_pending (n : Nat) (f : AccCh → AccCh) : (s.modAcc n f).pending = s.pending := rfl
@[simp] theorem modAcc_regs (n : Nat) (f : AccCh → AccCh) : (s.modAcc n f).regs = s.regs := rfl
@[simp] theorem modAcc_now (n : Nat) (f : AccCh → AccCh) : (s.modAcc n f).now = s.now := rfl
@[simp] theorem modAcc_draws (n : Nat) (f : AccCh → AccCh) : (s.modAcc n f).draws = s.draws := rfl
@[simp] theorem modAcc_frees (n : Nat) (f : AccCh → AccCh) : (s.modAcc n f).frees = s.frees := rfl
@[simp] theorem modAcc_events (n : Nat) (f : AccCh → AccCh) : (s.modAcc n f).events = s.events := rfl
@[simp] theorem modAcc_oplog (n : Nat) (f : AccCh → AccCh) : (s.modAcc n f).oplog = s.oplog := rfl
@[simp] theorem modAcc_opSeq (n : Nat) (f : AccCh → AccCh) : (s.modAcc n f).opSeq = s.opSeq := rfl
@[simp] theorem modAcc_boot (n : Nat) (f : AccCh → AccCh) : (s.modAcc n f).boot = s.boot := rfl
@[simp] theorem modAcc_led (n : Nat) (f : AccCh → AccCh) : (s.modAcc n f).led = s.led := rfl
@[simp] theorem modAcc_sec (n : Nat) (f : AccCh → AccCh) : (s.modAcc n f).sec = s.sec := rfl
@[simp] theorem modAcc_prf (n : Nat) (f : AccCh → AccCh) : (s.modAcc n f).prf = s.prf := rfl
@[simp] theorem modAcc_i3c (n : Nat) (f : AccCh → AccCh) : (s.modAcc n f).i3c = s.i3c := rfl
@[simp] theorem modAcc_image (n : Nat) (f : AccCh → AccCh) : (s.modAcc n f).image = s.image := rfl
@[simp] theorem modAcc_flash (n : Nat) (f : AccCh → AccCh) : (s.modAcc n f).flash = s.flash := rfl
@[simp] theorem modAcc_ports (n : Nat) (f : AccCh → AccCh) : (s.modAcc n f).ports = s.ports := rfl
@[simp] theorem modAcc_leases (n : Nat) (f : AccCh → AccCh) : (s.modAcc n f).leases = s.leases := rfl
@[simp] theorem modAcc_tb (n : Nat) (f : AccCh → AccCh) : (s.modAcc n f).tb = s.tb := rfl
@[simp] theorem modAcc_clk (n : Nat) (f : AccCh → AccCh) : (s.modAcc n f).clk = s.clk := rfl
@[simp] theorem modAcc_cal (n : Nat) (f : AccCh → AccCh) : (s.modAcc n f).cal = s.cal := rfl
@[simp] theorem modAcc_cap (n : Nat) (f : AccCh → AccCh) : (s.modAcc n f).cap = s.cap := rfl
@[simp] theorem modAcc_fil (n : Nat) (f : AccCh → AccCh) : (s.modAcc n f).fil = s.fil := rfl
@[simp] theorem modAcc_trg (n : Nat) (f : AccCh → AccCh) : (s.modAcc n f).trg = s.trg := rfl
@[simp] theorem modAcc_acc (n : Nat) (f : AccCh → AccCh) : (s.modAcc n f).acc = s.acc.modify n f := rfl
@[simp] theorem modAcc_tdc (n : Nat) (f : AccCh → AccCh) : (s.modAcc n f).tdc = s.tdc := rfl
@[simp] theorem modAcc_cmb (n : Nat) (f : AccCh → AccCh) : (s.modAcc n f).cmb = s.cmb := rfl
@[simp] theorem modAcc_arc (n : Nat) (f : AccCh → AccCh) : (s.modAcc n f).arc = s.arc := rfl
@[simp] theorem modAcc_mon (n : Nat) (f : AccCh → AccCh) : (s.modAcc n f).mon = s.mon := rfl
@[simp] theorem modAcc_pro (n : Nat) (f : AccCh → AccCh) : (s.modAcc n f).pro = s.pro := rfl
@[simp] theorem rd_modAcc (n : Nat) (f : AccCh → AccCh) (g : Fld) : (s.modAcc n f).rd g = s.rd g := rfl

@[simp] theorem modIn_pending (i : Nat) (f : TdcIn → TdcIn) : (s.modIn i f).pending = s.pending := rfl
@[simp] theorem modIn_regs (i : Nat) (f : TdcIn → TdcIn) : (s.modIn i f).regs = s.regs := rfl
@[simp] theorem modIn_now (i : Nat) (f : TdcIn → TdcIn) : (s.modIn i f).now = s.now := rfl
@[simp] theorem modIn_draws (i : Nat) (f : TdcIn → TdcIn) : (s.modIn i f).draws = s.draws := rfl
@[simp] theorem modIn_frees (i : Nat) (f : TdcIn → TdcIn) : (s.modIn i f).frees = s.frees := rfl
@[simp] theorem modIn_events (i : Nat) (f : TdcIn → TdcIn) : (s.modIn i f).events = s.events := rfl
@[simp] theorem modIn_oplog (i : Nat) (f : TdcIn → TdcIn) : (s.modIn i f).oplog = s.oplog := rfl
@[simp] theorem modIn_opSeq (i : Nat) (f : TdcIn → TdcIn) : (s.modIn i f).opSeq = s.opSeq := rfl
@[simp] theorem modIn_boot (i : Nat) (f : TdcIn → TdcIn) : (s.modIn i f).boot = s.boot := rfl
@[simp] theorem modIn_led (i : Nat) (f : TdcIn → TdcIn) : (s.modIn i f).led = s.led := rfl
@[simp] theorem modIn_sec (i : Nat) (f : TdcIn → TdcIn) : (s.modIn i f).sec = s.sec := rfl
@[simp] theorem modIn_prf (i : Nat) (f : TdcIn → TdcIn) : (s.modIn i f).prf = s.prf := rfl
@[simp] theorem modIn_i3c (i : Nat) (f : TdcIn → TdcIn) : (s.modIn i f).i3c = s.i3c := rfl
@[simp] theorem modIn_image (i : Nat) (f : TdcIn → TdcIn) : (s.modIn i f).image = s.image := rfl
@[simp] theorem modIn_flash (i : Nat) (f : TdcIn → TdcIn) : (s.modIn i f).flash = s.flash := rfl
@[simp] theorem modIn_ports (i : Nat) (f : TdcIn → TdcIn) : (s.modIn i f).ports = s.ports := rfl
@[simp] theorem modIn_leases (i : Nat) (f : TdcIn → TdcIn) : (s.modIn i f).leases = s.leases := rfl
@[simp] theorem modIn_tb (i : Nat) (f : TdcIn → TdcIn) : (s.modIn i f).tb = s.tb := rfl
@[simp] theorem modIn_clk (i : Nat) (f : TdcIn → TdcIn) : (s.modIn i f).clk = s.clk := rfl
@[simp] theorem modIn_cal (i : Nat) (f : TdcIn → TdcIn) : (s.modIn i f).cal = s.cal := rfl
@[simp] theorem modIn_cap (i : Nat) (f : TdcIn → TdcIn) : (s.modIn i f).cap = s.cap := rfl
@[simp] theorem modIn_fil (i : Nat) (f : TdcIn → TdcIn) : (s.modIn i f).fil = s.fil := rfl
@[simp] theorem modIn_trg (i : Nat) (f : TdcIn → TdcIn) : (s.modIn i f).trg = s.trg := rfl
@[simp] theorem modIn_acc (i : Nat) (f : TdcIn → TdcIn) : (s.modIn i f).acc = s.acc := rfl
@[simp] theorem modIn_tdc (i : Nat) (f : TdcIn → TdcIn) : (s.modIn i f).tdc = { s.tdc with ins := s.tdc.ins.modify i f } := rfl
@[simp] theorem modIn_cmb (i : Nat) (f : TdcIn → TdcIn) : (s.modIn i f).cmb = s.cmb := rfl
@[simp] theorem modIn_arc (i : Nat) (f : TdcIn → TdcIn) : (s.modIn i f).arc = s.arc := rfl
@[simp] theorem modIn_mon (i : Nat) (f : TdcIn → TdcIn) : (s.modIn i f).mon = s.mon := rfl
@[simp] theorem modIn_pro (i : Nat) (f : TdcIn → TdcIn) : (s.modIn i f).pro = s.pro := rfl
@[simp] theorem rd_modIn (i : Nat) (f : TdcIn → TdcIn) (g : Fld) : (s.modIn i f).rd g = s.rd g := rfl

@[simp] theorem modCell_pending (c : Nat) (f : Cell → Cell) : (s.modCell c f).pending = s.pending := rfl
@[simp] theorem modCell_regs (c : Nat) (f : Cell → Cell) : (s.modCell c f).regs = s.regs := rfl
@[simp] theorem modCell_now (c : Nat) (f : Cell → Cell) : (s.modCell c f).now = s.now := rfl
@[simp] theorem modCell_draws (c : Nat) (f : Cell → Cell) : (s.modCell c f).draws = s.draws := rfl
@[simp] theorem modCell_frees (c : Nat) (f : Cell → Cell) : (s.modCell c f).frees = s.frees := rfl
@[simp] theorem modCell_events (c : Nat) (f : Cell → Cell) : (s.modCell c f).events = s.events := rfl
@[simp] theorem modCell_oplog (c : Nat) (f : Cell → Cell) : (s.modCell c f).oplog = s.oplog := rfl
@[simp] theorem modCell_opSeq (c : Nat) (f : Cell → Cell) : (s.modCell c f).opSeq = s.opSeq := rfl
@[simp] theorem modCell_boot (c : Nat) (f : Cell → Cell) : (s.modCell c f).boot = s.boot := rfl
@[simp] theorem modCell_led (c : Nat) (f : Cell → Cell) : (s.modCell c f).led = s.led := rfl
@[simp] theorem modCell_sec (c : Nat) (f : Cell → Cell) : (s.modCell c f).sec = s.sec := rfl
@[simp] theorem modCell_prf (c : Nat) (f : Cell → Cell) : (s.modCell c f).prf = s.prf := rfl
@[simp] theorem modCell_i3c (c : Nat) (f : Cell → Cell) : (s.modCell c f).i3c = s.i3c := rfl
@[simp] theorem modCell_image (c : Nat) (f : Cell → Cell) : (s.modCell c f).image = s.image := rfl
@[simp] theorem modCell_flash (c : Nat) (f : Cell → Cell) : (s.modCell c f).flash = s.flash := rfl
@[simp] theorem modCell_ports (c : Nat) (f : Cell → Cell) : (s.modCell c f).ports = s.ports := rfl
@[simp] theorem modCell_leases (c : Nat) (f : Cell → Cell) : (s.modCell c f).leases = s.leases := rfl
@[simp] theorem modCell_tb (c : Nat) (f : Cell → Cell) : (s.modCell c f).tb = s.tb := rfl
@[simp] theorem modCell_clk (c : Nat) (f : Cell → Cell) : (s.modCell c f).clk = s.clk := rfl
@[simp] theorem modCell_cal (c : Nat) (f : Cell → Cell) : (s.modCell c f).cal = s.cal := rfl
@[simp] theorem modCell_cap (c : Nat) (f : Cell → Cell) : (s.modCell c f).cap = s.cap := rfl
@[simp] theorem modCell_fil (c : Nat) (f : Cell → Cell) : (s.modCell c f).fil = s.fil := rfl
@[simp] theorem modCell_trg (c : Nat) (f : Cell → Cell) : (s.modCell c f).trg = s.trg := rfl
@[simp] theorem modCell_acc (c : Nat) (f : Cell → Cell) : (s.modCell c f).acc = s.acc := rfl
@[simp] theorem modCell_tdc (c : Nat) (f : Cell → Cell) : (s.modCell c f).tdc = s.tdc := rfl
@[simp] theorem modCell_cmb (c : Nat) (f : Cell → Cell) : (s.modCell c f).cmb = { s.cmb with cells := s.cmb.cells.modify c f } := rfl
@[simp] theorem modCell_arc (c : Nat) (f : Cell → Cell) : (s.modCell c f).arc = s.arc := rfl
@[simp] theorem modCell_mon (c : Nat) (f : Cell → Cell) : (s.modCell c f).mon = s.mon := rfl
@[simp] theorem modCell_pro (c : Nat) (f : Cell → Cell) : (s.modCell c f).pro = s.pro := rfl
@[simp] theorem rd_modCell (c : Nat) (f : Cell → Cell) (g : Fld) : (s.modCell c f).rd g = s.rd g := rfl

@[simp] theorem modArc_pending (f : Arc → Arc) : (s.modArc f).pending = s.pending := rfl
@[simp] theorem modArc_regs (f : Arc → Arc) : (s.modArc f).regs = s.regs := rfl
@[simp] theorem modArc_now (f : Arc → Arc) : (s.modArc f).now = s.now := rfl
@[simp] theorem modArc_draws (f : Arc → Arc) : (s.modArc f).draws = s.draws := rfl
@[simp] theorem modArc_frees (f : Arc → Arc) : (s.modArc f).frees = s.frees := rfl
@[simp] theorem modArc_events (f : Arc → Arc) : (s.modArc f).events = s.events := rfl
@[simp] theorem modArc_oplog (f : Arc → Arc) : (s.modArc f).oplog = s.oplog := rfl
@[simp] theorem modArc_opSeq (f : Arc → Arc) : (s.modArc f).opSeq = s.opSeq := rfl
@[simp] theorem modArc_boot (f : Arc → Arc) : (s.modArc f).boot = s.boot := rfl
@[simp] theorem modArc_led (f : Arc → Arc) : (s.modArc f).led = s.led := rfl
@[simp] theorem modArc_sec (f : Arc → Arc) : (s.modArc f).sec = s.sec := rfl
@[simp] theorem modArc_prf (f : Arc → Arc) : (s.modArc f).prf = s.prf := rfl
@[simp] theorem modArc_i3c (f : Arc → Arc) : (s.modArc f).i3c = s.i3c := rfl
@[simp] theorem modArc_image (f : Arc → Arc) : (s.modArc f).image = s.image := rfl
@[simp] theorem modArc_flash (f : Arc → Arc) : (s.modArc f).flash = s.flash := rfl
@[simp] theorem modArc_ports (f : Arc → Arc) : (s.modArc f).ports = s.ports := rfl
@[simp] theorem modArc_leases (f : Arc → Arc) : (s.modArc f).leases = s.leases := rfl
@[simp] theorem modArc_tb (f : Arc → Arc) : (s.modArc f).tb = s.tb := rfl
@[simp] theorem modArc_clk (f : Arc → Arc) : (s.modArc f).clk = s.clk := rfl
@[simp] theorem modArc_cal (f : Arc → Arc) : (s.modArc f).cal = s.cal := rfl
@[simp] theorem modArc_cap (f : Arc → Arc) : (s.modArc f).cap = s.cap := rfl
@[simp] theorem modArc_fil (f : Arc → Arc) : (s.modArc f).fil = s.fil := rfl
@[simp] theorem modArc_trg (f : Arc → Arc) : (s.modArc f).trg = s.trg := rfl
@[simp] theorem modArc_acc (f : Arc → Arc) : (s.modArc f).acc = s.acc := rfl
@[simp] theorem modArc_tdc (f : Arc → Arc) : (s.modArc f).tdc = s.tdc := rfl
@[simp] theorem modArc_cmb (f : Arc → Arc) : (s.modArc f).cmb = s.cmb := rfl
@[simp] theorem modArc_arc (f : Arc → Arc) : (s.modArc f).arc = f s.arc := rfl
@[simp] theorem modArc_mon (f : Arc → Arc) : (s.modArc f).mon = s.mon := rfl
@[simp] theorem modArc_pro (f : Arc → Arc) : (s.modArc f).pro = s.pro := rfl
@[simp] theorem rd_modArc (f : Arc → Arc) (g : Fld) : (s.modArc f).rd g = s.rd g := rfl

@[simp] theorem modMon_pending (f : Mon → Mon) : (s.modMon f).pending = s.pending := rfl
@[simp] theorem modMon_regs (f : Mon → Mon) : (s.modMon f).regs = s.regs := rfl
@[simp] theorem modMon_now (f : Mon → Mon) : (s.modMon f).now = s.now := rfl
@[simp] theorem modMon_draws (f : Mon → Mon) : (s.modMon f).draws = s.draws := rfl
@[simp] theorem modMon_frees (f : Mon → Mon) : (s.modMon f).frees = s.frees := rfl
@[simp] theorem modMon_events (f : Mon → Mon) : (s.modMon f).events = s.events := rfl
@[simp] theorem modMon_oplog (f : Mon → Mon) : (s.modMon f).oplog = s.oplog := rfl
@[simp] theorem modMon_opSeq (f : Mon → Mon) : (s.modMon f).opSeq = s.opSeq := rfl
@[simp] theorem modMon_boot (f : Mon → Mon) : (s.modMon f).boot = s.boot := rfl
@[simp] theorem modMon_led (f : Mon → Mon) : (s.modMon f).led = s.led := rfl
@[simp] theorem modMon_sec (f : Mon → Mon) : (s.modMon f).sec = s.sec := rfl
@[simp] theorem modMon_prf (f : Mon → Mon) : (s.modMon f).prf = s.prf := rfl
@[simp] theorem modMon_i3c (f : Mon → Mon) : (s.modMon f).i3c = s.i3c := rfl
@[simp] theorem modMon_image (f : Mon → Mon) : (s.modMon f).image = s.image := rfl
@[simp] theorem modMon_flash (f : Mon → Mon) : (s.modMon f).flash = s.flash := rfl
@[simp] theorem modMon_ports (f : Mon → Mon) : (s.modMon f).ports = s.ports := rfl
@[simp] theorem modMon_leases (f : Mon → Mon) : (s.modMon f).leases = s.leases := rfl
@[simp] theorem modMon_tb (f : Mon → Mon) : (s.modMon f).tb = s.tb := rfl
@[simp] theorem modMon_clk (f : Mon → Mon) : (s.modMon f).clk = s.clk := rfl
@[simp] theorem modMon_cal (f : Mon → Mon) : (s.modMon f).cal = s.cal := rfl
@[simp] theorem modMon_cap (f : Mon → Mon) : (s.modMon f).cap = s.cap := rfl
@[simp] theorem modMon_fil (f : Mon → Mon) : (s.modMon f).fil = s.fil := rfl
@[simp] theorem modMon_trg (f : Mon → Mon) : (s.modMon f).trg = s.trg := rfl
@[simp] theorem modMon_acc (f : Mon → Mon) : (s.modMon f).acc = s.acc := rfl
@[simp] theorem modMon_tdc (f : Mon → Mon) : (s.modMon f).tdc = s.tdc := rfl
@[simp] theorem modMon_cmb (f : Mon → Mon) : (s.modMon f).cmb = s.cmb := rfl
@[simp] theorem modMon_arc (f : Mon → Mon) : (s.modMon f).arc = s.arc := rfl
@[simp] theorem modMon_mon (f : Mon → Mon) : (s.modMon f).mon = f s.mon := rfl
@[simp] theorem modMon_pro (f : Mon → Mon) : (s.modMon f).pro = s.pro := rfl
@[simp] theorem rd_modMon (f : Mon → Mon) (g : Fld) : (s.modMon f).rd g = s.rd g := rfl

@[simp] theorem modPro_pending (f : Pro → Pro) : (s.modPro f).pending = s.pending := rfl
@[simp] theorem modPro_regs (f : Pro → Pro) : (s.modPro f).regs = s.regs := rfl
@[simp] theorem modPro_now (f : Pro → Pro) : (s.modPro f).now = s.now := rfl
@[simp] theorem modPro_draws (f : Pro → Pro) : (s.modPro f).draws = s.draws := rfl
@[simp] theorem modPro_frees (f : Pro → Pro) : (s.modPro f).frees = s.frees := rfl
@[simp] theorem modPro_events (f : Pro → Pro) : (s.modPro f).events = s.events := rfl
@[simp] theorem modPro_oplog (f : Pro → Pro) : (s.modPro f).oplog = s.oplog := rfl
@[simp] theorem modPro_opSeq (f : Pro → Pro) : (s.modPro f).opSeq = s.opSeq := rfl
@[simp] theorem modPro_boot (f : Pro → Pro) : (s.modPro f).boot = s.boot := rfl
@[simp] theorem modPro_led (f : Pro → Pro) : (s.modPro f).led = s.led := rfl
@[simp] theorem modPro_sec (f : Pro → Pro) : (s.modPro f).sec = s.sec := rfl
@[simp] theorem modPro_prf (f : Pro → Pro) : (s.modPro f).prf = s.prf := rfl
@[simp] theorem modPro_i3c (f : Pro → Pro) : (s.modPro f).i3c = s.i3c := rfl
@[simp] theorem modPro_image (f : Pro → Pro) : (s.modPro f).image = s.image := rfl
@[simp] theorem modPro_flash (f : Pro → Pro) : (s.modPro f).flash = s.flash := rfl
@[simp] theorem modPro_ports (f : Pro → Pro) : (s.modPro f).ports = s.ports := rfl
@[simp] theorem modPro_leases (f : Pro → Pro) : (s.modPro f).leases = s.leases := rfl
@[simp] theorem modPro_tb (f : Pro → Pro) : (s.modPro f).tb = s.tb := rfl
@[simp] theorem modPro_clk (f : Pro → Pro) : (s.modPro f).clk = s.clk := rfl
@[simp] theorem modPro_cal (f : Pro → Pro) : (s.modPro f).cal = s.cal := rfl
@[simp] theorem modPro_cap (f : Pro → Pro) : (s.modPro f).cap = s.cap := rfl
@[simp] theorem modPro_fil (f : Pro → Pro) : (s.modPro f).fil = s.fil := rfl
@[simp] theorem modPro_trg (f : Pro → Pro) : (s.modPro f).trg = s.trg := rfl
@[simp] theorem modPro_acc (f : Pro → Pro) : (s.modPro f).acc = s.acc := rfl
@[simp] theorem modPro_tdc (f : Pro → Pro) : (s.modPro f).tdc = s.tdc := rfl
@[simp] theorem modPro_cmb (f : Pro → Pro) : (s.modPro f).cmb = s.cmb := rfl
@[simp] theorem modPro_arc (f : Pro → Pro) : (s.modPro f).arc = s.arc := rfl
@[simp] theorem modPro_mon (f : Pro → Pro) : (s.modPro f).mon = s.mon := rfl
@[simp] theorem modPro_pro (f : Pro → Pro) : (s.modPro f).pro = f s.pro := rfl
@[simp] theorem rd_modPro (f : Pro → Pro) (g : Fld) : (s.modPro f).rd g = s.rd g := rfl

@[simp] theorem setChain_pending (n : Nat) (c : Chain) : (s.setChain n c).pending = s.pending := rfl
@[simp] theorem setChain_regs (n : Nat) (c : Chain) : (s.setChain n c).regs = s.regs := rfl
@[simp] theorem setChain_now (n : Nat) (c : Chain) : (s.setChain n c).now = s.now := rfl
@[simp] theorem setChain_draws (n : Nat) (c : Chain) : (s.setChain n c).draws = s.draws := rfl
@[simp] theorem setChain_frees (n : Nat) (c : Chain) : (s.setChain n c).frees = s.frees := rfl
@[simp] theorem setChain_events (n : Nat) (c : Chain) : (s.setChain n c).events = s.events := rfl
@[simp] theorem setChain_oplog (n : Nat) (c : Chain) : (s.setChain n c).oplog = s.oplog := rfl
@[simp] theorem setChain_opSeq (n : Nat) (c : Chain) : (s.setChain n c).opSeq = s.opSeq := rfl
@[simp] theorem setChain_boot (n : Nat) (c : Chain) : (s.setChain n c).boot = s.boot := rfl
@[simp] theorem setChain_led (n : Nat) (c : Chain) : (s.setChain n c).led = s.led := rfl
@[simp] theorem setChain_sec (n : Nat) (c : Chain) : (s.setChain n c).sec = s.sec := rfl
@[simp] theorem setChain_prf (n : Nat) (c : Chain) : (s.setChain n c).prf = s.prf := rfl
@[simp] theorem setChain_i3c (n : Nat) (c : Chain) : (s.setChain n c).i3c = s.i3c := rfl
@[simp] theorem setChain_image (n : Nat) (c : Chain) : (s.setChain n c).image = s.image := rfl
@[simp] theorem setChain_flash (n : Nat) (c : Chain) : (s.setChain n c).flash = s.flash := rfl
@[simp] theorem setChain_ports (n : Nat) (c : Chain) : (s.setChain n c).ports = s.ports := rfl
@[simp] theorem setChain_leases (n : Nat) (c : Chain) : (s.setChain n c).leases = s.leases := rfl
@[simp] theorem setChain_tb (n : Nat) (c : Chain) : (s.setChain n c).tb = s.tb := rfl
@[simp] theorem setChain_clk (n : Nat) (c : Chain) : (s.setChain n c).clk = s.clk := rfl
@[simp] theorem setChain_cal (n : Nat) (c : Chain) : (s.setChain n c).cal = s.cal := rfl
@[simp] theorem setChain_cap (n : Nat) (c : Chain) : (s.setChain n c).cap = s.cap := rfl
@[simp] theorem setChain_fil (n : Nat) (c : Chain) : (s.setChain n c).fil = s.fil.set n c := rfl
@[simp] theorem setChain_trg (n : Nat) (c : Chain) : (s.setChain n c).trg = s.trg := rfl
@[simp] theorem setChain_acc (n : Nat) (c : Chain) : (s.setChain n c).acc = s.acc := rfl
@[simp] theorem setChain_tdc (n : Nat) (c : Chain) : (s.setChain n c).tdc = s.tdc := rfl
@[simp] theorem setChain_cmb (n : Nat) (c : Chain) : (s.setChain n c).cmb = s.cmb := rfl
@[simp] theorem setChain_arc (n : Nat) (c : Chain) : (s.setChain n c).arc = s.arc := rfl
@[simp] theorem setChain_mon (n : Nat) (c : Chain) : (s.setChain n c).mon = s.mon := rfl
@[simp] theorem setChain_pro (n : Nat) (c : Chain) : (s.setChain n c).pro = s.pro := rfl
@[simp] theorem rd_setChain (n : Nat) (c : Chain) (g : Fld) : (s.setChain n c).rd g = s.rd g := rfl

@[simp] theorem setLease_pending (i : Nat) (h : Option Nat) (e : Nat) : (s.setLease i h e).pending = s.pending := rfl
@[simp] theorem setLease_regs (i : Nat) (h : Option Nat) (e : Nat) : (s.setLease i h e).regs = s.regs := rfl
@[simp] theorem setLease_now (i : Nat) (h : Option Nat) (e : Nat) : (s.setLease i h e).now = s.now := rfl
@[simp] theorem setLease_draws (i : Nat) (h : Option Nat) (e : Nat) : (s.setLease i h e).draws = s.draws := rfl
@[simp] theorem setLease_frees (i : Nat) (h : Option Nat) (e : Nat) : (s.setLease i h e).frees = s.frees := rfl
@[simp] theorem setLease_events (i : Nat) (h : Option Nat) (e : Nat) : (s.setLease i h e).events = s.events := rfl
@[simp] theorem setLease_oplog (i : Nat) (h : Option Nat) (e : Nat) : (s.setLease i h e).oplog = s.oplog := rfl
@[simp] theorem setLease_opSeq (i : Nat) (h : Option Nat) (e : Nat) : (s.setLease i h e).opSeq = s.opSeq := rfl
@[simp] theorem setLease_boot (i : Nat) (h : Option Nat) (e : Nat) : (s.setLease i h e).boot = s.boot := rfl
@[simp] theorem setLease_led (i : Nat) (h : Option Nat) (e : Nat) : (s.setLease i h e).led = s.led := rfl
@[simp] theorem setLease_sec (i : Nat) (h : Option Nat) (e : Nat) : (s.setLease i h e).sec = s.sec := rfl
@[simp] theorem setLease_prf (i : Nat) (h : Option Nat) (e : Nat) : (s.setLease i h e).prf = s.prf := rfl
@[simp] theorem setLease_i3c (i : Nat) (h : Option Nat) (e : Nat) : (s.setLease i h e).i3c = s.i3c := rfl
@[simp] theorem setLease_image (i : Nat) (h : Option Nat) (e : Nat) : (s.setLease i h e).image = s.image := rfl
@[simp] theorem setLease_flash (i : Nat) (h : Option Nat) (e : Nat) : (s.setLease i h e).flash = s.flash := rfl
@[simp] theorem setLease_ports (i : Nat) (h : Option Nat) (e : Nat) : (s.setLease i h e).ports = s.ports := rfl
@[simp] theorem setLease_leases (i : Nat) (h : Option Nat) (e : Nat) : (s.setLease i h e).leases = s.leases.set i ⟨h, e⟩ := rfl
@[simp] theorem setLease_tb (i : Nat) (h : Option Nat) (e : Nat) : (s.setLease i h e).tb = s.tb := rfl
@[simp] theorem setLease_clk (i : Nat) (h : Option Nat) (e : Nat) : (s.setLease i h e).clk = s.clk := rfl
@[simp] theorem setLease_cal (i : Nat) (h : Option Nat) (e : Nat) : (s.setLease i h e).cal = s.cal := rfl
@[simp] theorem setLease_cap (i : Nat) (h : Option Nat) (e : Nat) : (s.setLease i h e).cap = s.cap := rfl
@[simp] theorem setLease_fil (i : Nat) (h : Option Nat) (e : Nat) : (s.setLease i h e).fil = s.fil := rfl
@[simp] theorem setLease_trg (i : Nat) (h : Option Nat) (e : Nat) : (s.setLease i h e).trg = s.trg := rfl
@[simp] theorem setLease_acc (i : Nat) (h : Option Nat) (e : Nat) : (s.setLease i h e).acc = s.acc := rfl
@[simp] theorem setLease_tdc (i : Nat) (h : Option Nat) (e : Nat) : (s.setLease i h e).tdc = s.tdc := rfl
@[simp] theorem setLease_cmb (i : Nat) (h : Option Nat) (e : Nat) : (s.setLease i h e).cmb = s.cmb := rfl
@[simp] theorem setLease_arc (i : Nat) (h : Option Nat) (e : Nat) : (s.setLease i h e).arc = s.arc := rfl
@[simp] theorem setLease_mon (i : Nat) (h : Option Nat) (e : Nat) : (s.setLease i h e).mon = s.mon := rfl
@[simp] theorem setLease_pro (i : Nat) (h : Option Nat) (e : Nat) : (s.setLease i h e).pro = s.pro := rfl
@[simp] theorem rd_setLease (i : Nat) (h : Option Nat) (e : Nat) (g : Fld) : (s.setLease i h e).rd g = s.rd g := rfl

@[simp] theorem wr_pending (f : Fld) (v : Nat) : (s.wr f v).pending = s.pending := rfl
@[simp] theorem wr_regs (f : Fld) (v : Nat) : (s.wr f v).regs = SMap.set 0 s.regs f.key ((v % 2 ^ f.width) ^^^ f.reset) := rfl
@[simp] theorem wr_now (f : Fld) (v : Nat) : (s.wr f v).now = s.now := rfl
@[simp] theorem wr_draws (f : Fld) (v : Nat) : (s.wr f v).draws = s.draws := rfl
@[simp] theorem wr_frees (f : Fld) (v : Nat) : (s.wr f v).frees = s.frees := rfl
@[simp] theorem wr_events (f : Fld) (v : Nat) : (s.wr f v).events = s.events := rfl
@[simp] theorem wr_oplog (f : Fld) (v : Nat) : (s.wr f v).oplog = s.oplog := rfl
@[simp] theorem wr_opSeq (f : Fld) (v : Nat) : (s.wr f v).opSeq = s.opSeq := rfl
@[simp] theorem wr_boot (f : Fld) (v : Nat) : (s.wr f v).boot = s.boot := rfl
@[simp] theorem wr_led (f : Fld) (v : Nat) : (s.wr f v).led = s.led := rfl
@[simp] theorem wr_sec (f : Fld) (v : Nat) : (s.wr f v).sec = s.sec := rfl
@[simp] theorem wr_prf (f : Fld) (v : Nat) : (s.wr f v).prf = s.prf := rfl
@[simp] theorem wr_i3c (f : Fld) (v : Nat) : (s.wr f v).i3c = s.i3c := rfl
@[simp] theorem wr_image (f : Fld) (v : Nat) : (s.wr f v).image = s.image := rfl
@[simp] theorem wr_flash (f : Fld) (v : Nat) : (s.wr f v).flash = s.flash := rfl
@[simp] theorem wr_ports (f : Fld) (v : Nat) : (s.wr f v).ports = s.ports := rfl
@[simp] theorem wr_leases (f : Fld) (v : Nat) : (s.wr f v).leases = s.leases := rfl
@[simp] theorem wr_tb (f : Fld) (v : Nat) : (s.wr f v).tb = s.tb := rfl
@[simp] theorem wr_clk (f : Fld) (v : Nat) : (s.wr f v).clk = s.clk := rfl
@[simp] theorem wr_cal (f : Fld) (v : Nat) : (s.wr f v).cal = s.cal := rfl
@[simp] theorem wr_cap (f : Fld) (v : Nat) : (s.wr f v).cap = s.cap := rfl
@[simp] theorem wr_fil (f : Fld) (v : Nat) : (s.wr f v).fil = s.fil := rfl
@[simp] theorem wr_trg (f : Fld) (v : Nat) : (s.wr f v).trg = s.trg := rfl
@[simp] theorem wr_acc (f : Fld) (v : Nat) : (s.wr f v).acc = s.acc := rfl
@[simp] theorem wr_tdc (f : Fld) (v : Nat) : (s.wr f v).tdc = s.tdc := rfl
@[simp] theorem wr_cmb (f : Fld) (v : Nat) : (s.wr f v).cmb = s.cmb := rfl
@[simp] theorem wr_arc (f : Fld) (v : Nat) : (s.wr f v).arc = s.arc := rfl
@[simp] theorem wr_mon (f : Fld) (v : Nat) : (s.wr f v).mon = s.mon := rfl
@[simp] theorem wr_pro (f : Fld) (v : Nat) : (s.wr f v).pro = s.pro := rfl

@[simp] theorem put_pending (f : Fld) (b : Bool) : (s.put f b).pending = s.pending := rfl
@[simp] theorem put_regs (f : Fld) (b : Bool) : (s.put f b).regs = SMap.set 0 s.regs f.key ((b2n b % 2 ^ f.width) ^^^ f.reset) := rfl
@[simp] theorem put_now (f : Fld) (b : Bool) : (s.put f b).now = s.now := rfl
@[simp] theorem put_draws (f : Fld) (b : Bool) : (s.put f b).draws = s.draws := rfl
@[simp] theorem put_frees (f : Fld) (b : Bool) : (s.put f b).frees = s.frees := rfl
@[simp] theorem put_events (f : Fld) (b : Bool) : (s.put f b).events = s.events := rfl
@[simp] theorem put_oplog (f : Fld) (b : Bool) : (s.put f b).oplog = s.oplog := rfl
@[simp] theorem put_opSeq (f : Fld) (b : Bool) : (s.put f b).opSeq = s.opSeq := rfl
@[simp] theorem put_boot (f : Fld) (b : Bool) : (s.put f b).boot = s.boot := rfl
@[simp] theorem put_led (f : Fld) (b : Bool) : (s.put f b).led = s.led := rfl
@[simp] theorem put_sec (f : Fld) (b : Bool) : (s.put f b).sec = s.sec := rfl
@[simp] theorem put_prf (f : Fld) (b : Bool) : (s.put f b).prf = s.prf := rfl
@[simp] theorem put_i3c (f : Fld) (b : Bool) : (s.put f b).i3c = s.i3c := rfl
@[simp] theorem put_image (f : Fld) (b : Bool) : (s.put f b).image = s.image := rfl
@[simp] theorem put_flash (f : Fld) (b : Bool) : (s.put f b).flash = s.flash := rfl
@[simp] theorem put_ports (f : Fld) (b : Bool) : (s.put f b).ports = s.ports := rfl
@[simp] theorem put_leases (f : Fld) (b : Bool) : (s.put f b).leases = s.leases := rfl
@[simp] theorem put_tb (f : Fld) (b : Bool) : (s.put f b).tb = s.tb := rfl
@[simp] theorem put_clk (f : Fld) (b : Bool) : (s.put f b).clk = s.clk := rfl
@[simp] theorem put_cal (f : Fld) (b : Bool) : (s.put f b).cal = s.cal := rfl
@[simp] theorem put_cap (f : Fld) (b : Bool) : (s.put f b).cap = s.cap := rfl
@[simp] theorem put_fil (f : Fld) (b : Bool) : (s.put f b).fil = s.fil := rfl
@[simp] theorem put_trg (f : Fld) (b : Bool) : (s.put f b).trg = s.trg := rfl
@[simp] theorem put_acc (f : Fld) (b : Bool) : (s.put f b).acc = s.acc := rfl
@[simp] theorem put_tdc (f : Fld) (b : Bool) : (s.put f b).tdc = s.tdc := rfl
@[simp] theorem put_cmb (f : Fld) (b : Bool) : (s.put f b).cmb = s.cmb := rfl
@[simp] theorem put_arc (f : Fld) (b : Bool) : (s.put f b).arc = s.arc := rfl
@[simp] theorem put_mon (f : Fld) (b : Bool) : (s.put f b).mon = s.mon := rfl
@[simp] theorem put_pro (f : Fld) (b : Bool) : (s.put f b).pro = s.pro := rfl

/-! ### Records of one unit -/

theorem getD_modify {α : Type} (l : List α) (i : Nat) (f : α → α) (d : α) (h : i < l.length) :
    (l.modify i f).getD i d = f (l.getD i d) := by
  simp [List.getD_eq_getElem?_getD, List.getElem?_modify, h]

theorem getD_modify_ne {α : Type} (l : List α) {i j : Nat} (f : α → α) (d : α) (h : i ≠ j) :
    (l.modify i f).getD j d = l.getD j d := by
  simp [List.getD_eq_getElem?_getD, List.getElem?_modify, h]

end Sys2Proof.Machine
end

