-- ==== Sys2Proof/Laws/Event.lean ====
section
/-! SUPPORT. Frames: what `OnlyRegs` and `OnlyLogged` let through, and that events, streams' items and interrupts change nothing
outside `OnlyLogged`. -/

namespace Sys2Proof.Machine

variable {s t u : State} {w w' : List Fld}

/-! ### The two frames -/

theorem OnlyRegs.refl (s : State) : OnlyRegs s s w := ⟨rfl, fun _ _ => rfl⟩

theorem OnlyRegs.trans (h : OnlyRegs s t w) (k : OnlyRegs t u w) : OnlyRegs s u w := by
  refine ⟨?_, fun f hf => (k.regs f hf).trans (h.regs f hf)⟩
  rw [k.rest, h.rest]

theorem OnlyRegs.wr {f : Fld} (v : Nat) (hf : f ∈ w) (h : OnlyRegs s t w) : OnlyRegs s (t.wr f v) w := by
  refine ⟨?_, fun g hg => ?_⟩
  · rw [h.rest]
    rfl
  · rw [rd_wr_ne (f := g) (g := f) _ v (fun e => hg (e.symm ▸ List.mem_map_of_mem hf)), h.regs g hg]

theorem OnlyRegs.put {f : Fld} (b : Bool) (hf : f ∈ w) (h : OnlyRegs s t w) : OnlyRegs s (t.put f b) w := h.wr _ hf

theorem OnlyRegs.ite {c : Prop} [Decidable c] (h : OnlyRegs s t w) (k : OnlyRegs s u w) : OnlyRegs s (if c then t else u) w := by
  split <;> assumption

theorem OnlyRegs.rd (h : OnlyRegs s t w) {f : Fld} (hf : f.key ∉ w.map Fld.key) : t.rd f = s.rd f := h.regs f hf

theorem OnlyRegs.logged (h : OnlyRegs s t w) : OnlyLogged s t w := by
  refine ⟨?_, fun f hf => h.regs f (fun e => hf (by rw [List.map_append]; exact List.mem_append_left _ e))⟩
  rw [h.rest]

theorem OnlyLogged.refl (s : State) : OnlyLogged s s w := (OnlyRegs.refl s).logged

theorem OnlyLogged.trans (h : OnlyLogged s t w) (k : OnlyLogged t u w) : OnlyLogged s u w := by
  refine ⟨?_, fun f hf => (k.regs f hf).trans (h.regs f hf)⟩
  rw [k.rest, h.rest]

theorem OnlyLogged.mono (e : ∀ f ∈ w, f ∈ w') (h : OnlyLogged s t w) : OnlyLogged s t w' :=
  ⟨h.rest, fun f hf => h.regs f (fun hk => hf (by
    simp only [List.map_append, List.mem_append, List.mem_map] at hk ⊢
    obtain ⟨g, hg, hk⟩ | hk := hk
    · exact .inl ⟨g, e g hg, hk⟩
    · exact .inr hk))⟩

theorem OnlyLogged.wr {f : Fld} (v : Nat) (hf : f ∈ w ++ logFields) (h : OnlyLogged s t w) : OnlyLogged s (t.wr f v) w := by
  refine ⟨?_, fun g hg => ?_⟩
  · rw [h.rest]
    rfl
  · rw [rd_wr_ne (f := g) (g := f) _ v (fun e => hg (e.symm ▸ List.mem_map_of_mem hf)), h.regs g hg]

theorem OnlyLogged.put {f : Fld} (b : Bool) (hf : f ∈ w ++ logFields) (h : OnlyLogged s t w) : OnlyLogged s (t.put f b) w :=
  h.wr _ hf

theorem OnlyLogged.ite {c : Prop} [Decidable c] (h : OnlyLogged s t w) (k : OnlyLogged s u w) :
    OnlyLogged s (if c then t else u) w := by
  split <;> assumption

theorem OnlyLogged.foldl {α : Type} {f : State → α → State} (l : List α) (h : OnlyLogged s t w)
    (k : ∀ t x, OnlyLogged s t w → OnlyLogged s (f t x) w) : OnlyLogged s (l.foldl f t) w := by
  induction l generalizing t with
  | nil => exact h
  | cons x l ih => exact ih (k t x h)

theorem OnlyLogged.ports (x : List Port) (h : OnlyLogged s t w) : OnlyLogged s { t with ports := x } w := by
  refine ⟨?_, h.regs⟩
  rw [h.rest]

theorem OnlyLogged.events (x : List Event) (h : OnlyLogged s t w) : OnlyLogged s { t with events := x } w := by
  refine ⟨?_, h.regs⟩
  rw [h.rest]

theorem OnlyLogged.i3c (x : List Ibi) (y : List Nat) (h : OnlyLogged s t w) :
    OnlyLogged s { t with i3c := { t.i3c with ibis := x, eventSeqs := y } } w := by
  refine ⟨?_, h.regs⟩
  rw [h.rest]

theorem OnlyLogged.rd (h : OnlyLogged s t w) {f : Fld} (hf : f.key ∉ (w ++ logFields).map Fld.key) : t.rd f = s.rd f := h.regs f hf

/-! ### Events -/

theorem offer_logged (p id : Nat) (i : Item) (a b c : Nat) (h : OnlyLogged s t w) : OnlyLogged s (t.offer p id i a b c).1 w :=
  h.ports _

theorem statusOut_logged (e : Event) (h : OnlyLogged s t w) : OnlyLogged s (t.statusOut e) w :=
  h.foldl _ (fun _ _ h => (offer_logged _ _ _ _ _ _ h).ite h)

theorem raiseIbi_logged (i : Ibi) (h : OnlyLogged s t w) : OnlyLogged s (t.raiseIbi i) w :=
  ((h.i3c _ t.i3c.eventSeqs).wr _ (List.mem_append_right _ (by simp [logFields]))).ite h

theorem eventIbi_logged (e : Event) (h : OnlyLogged s t w) : OnlyLogged s (t.eventIbi e) w := by
  refine OnlyLogged.ite (OnlyLogged.ite ?_ ?_) h
  · exact raiseIbi_logged _ (h.i3c t.i3c.ibis _)
  · exact ((h.i3c _ []).wr _ (List.mem_append_right _ (by simp [logFields]))).put _
      (List.mem_append_right _ (by simp [logFields]))

theorem record_logged (e : Event) (h : OnlyLogged s t w) : OnlyLogged s (t.record e) w :=
  (((h.events _).wr _ (List.mem_append_right _ (by simp [logFields]))).wr _ (List.mem_append_right _ (by simp [logFields]))).wr _
    (List.mem_append_right _ (by simp [logFields]))

theorem logOne_logged (code tb : Nat) (ps : List Nat) (h : OnlyLogged s t w) : OnlyLogged s (t.logOne code tb ps) w :=
  eventIbi_logged _ (statusOut_logged _
    (((record_logged _ h).put _ (List.mem_append_right _ (by simp [logFields]))).ite (record_logged _ h)))

theorem eventHalted_logged (code : Nat) (ps : List Nat) (h : OnlyLogged s t w) : OnlyLogged s (t.eventHalted code ps) w :=
  ((record_logged _ h).put _ (List.mem_append_right _ (by simp [logFields]))).ite (record_logged _ h)

/-- An event changes nothing but the log, the streams' items and the interrupts. -/
theorem eventAt_logged (code tb : Nat) (ps : List Nat) (h : OnlyLogged s t w) : OnlyLogged s (t.eventAt code tb ps) w :=
  (((eventHalted_logged _ _ h).ite h).ite h).ite (OnlyLogged.ite (logOne_logged _ _ _ ((logOne_logged _ _ _ h).put _ (List.mem_append_right _ (by simp [logFields]))))
    (logOne_logged _ _ _ h))

@[inherit_doc eventAt_logged]
theorem event_logged (code : Nat) (ps : List Nat) (h : OnlyLogged s t w) : OnlyLogged s (t.event code ps) w :=
  eventAt_logged _ _ _ h

@[simp] theorem event_pending (s : State) (code : Nat) (ps : List Nat) : (s.event code ps).pending = s.pending := by
  rw [(event_logged code ps (OnlyLogged.refl (w := []) s)).rest]

@[simp] theorem event_now (s : State) (code : Nat) (ps : List Nat) : (s.event code ps).now = s.now := by
  rw [(event_logged code ps (OnlyLogged.refl (w := []) s)).rest]

@[simp] theorem event_draws (s : State) (code : Nat) (ps : List Nat) : (s.event code ps).draws = s.draws := by
  rw [(event_logged code ps (OnlyLogged.refl (w := []) s)).rest]

@[simp] theorem event_frees (s : State) (code : Nat) (ps : List Nat) : (s.event code ps).frees = s.frees := by
  rw [(event_logged code ps (OnlyLogged.refl (w := []) s)).rest]

@[simp] theorem event_oplog (s : State) (code : Nat) (ps : List Nat) : (s.event code ps).oplog = s.oplog := by
  rw [(event_logged code ps (OnlyLogged.refl (w := []) s)).rest]

@[simp] theorem event_opSeq (s : State) (code : Nat) (ps : List Nat) : (s.event code ps).opSeq = s.opSeq := by
  rw [(event_logged code ps (OnlyLogged.refl (w := []) s)).rest]

@[simp] theorem event_boot (s : State) (code : Nat) (ps : List Nat) : (s.event code ps).boot = s.boot := by
  rw [(event_logged code ps (OnlyLogged.refl (w := []) s)).rest]

@[simp] theorem event_led (s : State) (code : Nat) (ps : List Nat) : (s.event code ps).led = s.led := by
  rw [(event_logged code ps (OnlyLogged.refl (w := []) s)).rest]

@[simp] theorem event_sec (s : State) (code : Nat) (ps : List Nat) : (s.event code ps).sec = s.sec := by
  rw [(event_logged code ps (OnlyLogged.refl (w := []) s)).rest]

@[simp] theorem event_prf (s : State) (code : Nat) (ps : List Nat) : (s.event code ps).prf = s.prf := by
  rw [(event_logged code ps (OnlyLogged.refl (w := []) s)).rest]

@[simp] theorem event_image (s : State) (code : Nat) (ps : List Nat) : (s.event code ps).image = s.image := by
  rw [(event_logged code ps (OnlyLogged.refl (w := []) s)).rest]

@[simp] theorem event_flash (s : State) (code : Nat) (ps : List Nat) : (s.event code ps).flash = s.flash := by
  rw [(event_logged code ps (OnlyLogged.refl (w := []) s)).rest]

@[simp] theorem event_leases (s : State) (code : Nat) (ps : List Nat) : (s.event code ps).leases = s.leases := by
  rw [(event_logged code ps (OnlyLogged.refl (w := []) s)).rest]

@[simp] theorem event_tb (s : State) (code : Nat) (ps : List Nat) : (s.event code ps).tb = s.tb := by
  rw [(event_logged code ps (OnlyLogged.refl (w := []) s)).rest]

@[simp] theorem event_clk (s : State) (code : Nat) (ps : List Nat) : (s.event code ps).clk = s.clk := by
  rw [(event_logged code ps (OnlyLogged.refl (w := []) s)).rest]

@[simp] theorem event_cal (s : State) (code : Nat) (ps : List Nat) : (s.event code ps).cal = s.cal := by
  rw [(event_logged code ps (OnlyLogged.refl (w := []) s)).rest]

@[simp] theorem event_cap (s : State) (code : Nat) (ps : List Nat) : (s.event code ps).cap = s.cap := by
  rw [(event_logged code ps (OnlyLogged.refl (w := []) s)).rest]

@[simp] theorem event_fil (s : State) (code : Nat) (ps : List Nat) : (s.event code ps).fil = s.fil := by
  rw [(event_logged code ps (OnlyLogged.refl (w := []) s)).rest]

@[simp] theorem event_trg (s : State) (code : Nat) (ps : List Nat) : (s.event code ps).trg = s.trg := by
  rw [(event_logged code ps (OnlyLogged.refl (w := []) s)).rest]

@[simp] theorem event_acc (s : State) (code : Nat) (ps : List Nat) : (s.event code ps).acc = s.acc := by
  rw [(event_logged code ps (OnlyLogged.refl (w := []) s)).rest]

@[simp] theorem event_tdc (s : State) (code : Nat) (ps : List Nat) : (s.event code ps).tdc = s.tdc := by
  rw [(event_logged code ps (OnlyLogged.refl (w := []) s)).rest]

@[simp] theorem event_cmb (s : State) (code : Nat) (ps : List Nat) : (s.event code ps).cmb = s.cmb := by
  rw [(event_logged code ps (OnlyLogged.refl (w := []) s)).rest]

@[simp] theorem event_arc (s : State) (code : Nat) (ps : List Nat) : (s.event code ps).arc = s.arc := by
  rw [(event_logged code ps (OnlyLogged.refl (w := []) s)).rest]

@[simp] theorem event_mon (s : State) (code : Nat) (ps : List Nat) : (s.event code ps).mon = s.mon := by
  rw [(event_logged code ps (OnlyLogged.refl (w := []) s)).rest]

@[simp] theorem event_pro (s : State) (code : Nat) (ps : List Nat) : (s.event code ps).pro = s.pro := by
  rw [(event_logged code ps (OnlyLogged.refl (w := []) s)).rest]

/-- What a field outside the log reads is what it read before the event. -/
theorem rd_event {f : Fld} (s : State) (code : Nat) (ps : List Nat) (hf : f.key ∉ logFields.map Fld.key) :
    (s.event code ps).rd f = s.rd f :=
  (event_logged code ps (OnlyLogged.refl (w := []) s)).rd hf

theorem on_event {f : Fld} (s : State) (code : Nat) (ps : List Nat) (hf : f.key ∉ logFields.map Fld.key) :
    (s.event code ps).on f = s.on f := by
  simp only [State.on, rd_event s code ps hf]

end Sys2Proof.Machine
end

