-- ==== Sys2Proof/Laws/Access.lean ====
section
/-! SUPPORT. What an accepted and a refused write access do, once for all registers. -/

namespace Sys2Proof.Machine

variable {s : State} {a : Att} {addr v : Nat}

/-- An accepted write: its record, then every counted field stored, then every effect (R588, R589). -/
theorem arrives_accepted (h : Accepts s a addr v) (hr : addr < 0x8000) :
    s.arrives a addr v =
      (s.written a addr v).foldl (fun t f => t.effect a (s.given a addr v) f)
        ((s.written a addr v).foldl (fun t f => t.store a (s.given a addr v) f)
          (s.logWrite a addr (s.wordOf a ((regFields addr).getD [])) v 0)) := by
  have hv : v % 2 ^ 32 = v := Nat.mod_eq_of_lt h.word
  have ha : s.access a addr v = ((s.written a addr v).foldl (fun t f => t.effect a (s.given a addr v) f)
        ((s.written a addr v).foldl (fun t f => t.store a (s.given a addr v) f)
          (s.logWrite a addr (s.wordOf a ((regFields addr).getD [])) v 0)), ⟨0, 0⟩) := by
    unfold State.access
    rw [hv, if_neg (by omega)]
    simp only [h.judge, ite_self]
  cases a with
  | i3c => simp only [State.arrives, ha, if_true]
  | port p => simp only [State.arrives, h.session p rfl, if_true, ha]

end Sys2Proof.Machine
end

