-- ==== Sys2Proof/Laws/After.lean ====
section
/-! SUPPORT. Frames of write accesses: what `AfterWrite` lets through, and that the record of a write changes nothing outside it. -/

namespace Sys2Proof.Machine

variable {s t u : State} {w w' : List Fld}

theorem AfterWrite.of_logged (h : OnlyLogged s t w) : AfterWrite s t w :=
  ⟨by rw [h.rest], fun f hf => h.regs f (fun e => hf (by rw [List.map_append]; exact List.mem_append_left _ e))⟩

theorem AfterWrite.refl (s : State) : AfterWrite s s w := .of_logged (.refl s)

theorem AfterWrite.trans (h : AfterWrite s t w) (k : AfterWrite t u w) : AfterWrite s u w := by
  refine ⟨?_, fun f hf => (k.regs f hf).trans (h.regs f hf)⟩
  rw [k.rest, h.rest]

theorem AfterWrite.wr {f : Fld} (v : Nat) (hf : f ∈ w ++ logFields ++ auditFields) (h : AfterWrite s t w) :
    AfterWrite s (t.wr f v) w := by
  refine ⟨?_, fun g hg => ?_⟩
  · rw [h.rest]
    rfl
  · rw [rd_wr_ne (f := g) (g := f) _ v (fun e => hg (e.symm ▸ List.mem_map_of_mem hf)), h.regs g hg]

theorem AfterWrite.put {f : Fld} (b : Bool) (hf : f ∈ w ++ logFields ++ auditFields) (h : AfterWrite s t w) :
    AfterWrite s (t.put f b) w := h.wr _ hf

theorem AfterWrite.ite {c : Prop} [Decidable c] (h : AfterWrite s t w) (k : AfterWrite s u w) :
    AfterWrite s (if c then t else u) w := by
  split <;> assumption

theorem AfterWrite.foldl {α : Type} {f : State → α → State} (l : List α) (h : AfterWrite s t w)
    (k : ∀ t x, AfterWrite s t w → AfterWrite s (f t x) w) : AfterWrite s (l.foldl f t) w := by
  induction l generalizing t with
  | nil => exact h
  | cons x l ih => exact ih (k t x h)

theorem AfterWrite.event (code : Nat) (ps : List Nat) (h : AfterWrite s t w) : AfterWrite s (t.event code ps) w :=
  h.trans (.of_logged (event_logged _ _ (.refl t)))

theorem AfterWrite.count {f g : Fld} (n : Nat) (hf : f ∈ w ++ logFields ++ auditFields) (hg : g ∈ w ++ logFields ++ auditFields)
    (h : AfterWrite s t w) : AfterWrite s (t.count f g n) w := by
  unfold State.count
  exact ((h.wr _ hf).put _ hg).ite (h.wr _ hf)

theorem AfterWrite.rd (h : AfterWrite s t w) {f : Fld} (hf : f.key ∉ (w ++ logFields ++ auditFields).map Fld.key) :
    t.rd f = s.rd f := h.regs f hf

theorem AfterWrite.on (h : AfterWrite s t w) {f : Fld} (hf : f.key ∉ (w ++ logFields ++ auditFields).map Fld.key) :
    t.on f = s.on f := by
  simp only [State.on, h.regs f hf]

/-- An entry of the audit log. -/
theorem audit_after (k r a i p q x y : Nat) (h : AfterWrite s t w) : AfterWrite s (t.audit k r a i p q x y) w := by
  unfold State.audit
  split
  · exact h.count _ (by simp [auditFields]) (by simp [auditFields])
  · extract_lets _ e
    have g : AfterWrite s { t with led := { t.led with audit := e :: t.led.audit, auditSeq := t.led.auditSeq + 1 } } w := by
      refine ⟨?_, h.regs⟩
      rw [h.rest]
    exact (g.event _ _).ite ((g.event _ _).ite g)

/-- An entry of the operator log. -/
theorem opEntry_after (a b c d e : Nat) (h : AfterWrite s t w) : AfterWrite s (t.opEntry a b c d e) w := by
  have g : ∀ l n, AfterWrite s { t with oplog := l, opSeq := n } w := by
    intro l n
    refine ⟨?_, h.regs⟩
    rw [h.rest]
  unfold State.opEntry
  exact (((g _ _).wr _ (by simp [auditFields])).put _ (by simp [auditFields])).ite ((g _ _).wr _ (by simp [auditFields]))

/-- The record of a write access. -/
theorem logWrite_after (s : State) (a : Att) (addr old v st : Nat) : AfterWrite s (s.logWrite a addr old v st) w :=
  (opEntry_after _ _ _ _ _ (.refl s)).ite ((AfterWrite.refl s).ite (audit_after _ _ _ _ _ _ _ _ (.refl s)))

theorem AfterWrite.mono (e : ∀ f ∈ w, f ∈ w') (h : AfterWrite s t w) : AfterWrite s t w' :=
  ⟨h.rest, fun f hf => h.regs f (fun hk => hf (by
    simp only [List.map_append, List.mem_append, List.mem_map] at hk ⊢
    obtain (⟨g, hg, hk⟩ | hk) | hk := hk
    · exact .inl (.inl ⟨g, e g hg, hk⟩)
    · exact .inl (.inr hk)
    · exact .inr hk))⟩

/-- An accepted write: after its record every counted field is stored, then every effect follows. -/
theorem arrives_after {a : Att} {addr v : Nat} (h : Accepts s a addr v) (hr : addr < 0x8000) : ∃ u, AfterWrite s u [] ∧
    s.arrives a addr v = (s.written a addr v).foldl (fun t f => t.effect a (s.given a addr v) f)
      ((s.written a addr v).foldl (fun t f => t.store a (s.given a addr v) f) u) :=
  ⟨_, logWrite_after .., arrives_accepted h hr⟩

end Sys2Proof.Machine
end

