-- ==== Sys2Proof/Laws/Halt.lean ====
section
/-! SUPPORT. What entry into HALTED does, once for every fault. -/

namespace Sys2Proof.Machine

/-- `t` differs from `s` in the ports alone. -/
def OnlyPorts (s t : State) : Prop := t = { s with ports := t.ports }

theorem OnlyPorts.foldl {α : Type} {s t : State} {f : State → α → State} (l : List α) (h : OnlyPorts s t)
    (k : ∀ t x, OnlyPorts s t → OnlyPorts s (f t x)) : OnlyPorts s (l.foldl f t) := by
  induction l generalizing t with
  | nil => exact h
  | cons x l ih => exact ih (k t x h)

theorem OnlyPorts.ports {s t : State} (x : List Port) (h : OnlyPorts s t) : OnlyPorts s { t with ports := x } := by
  unfold OnlyPorts at h ⊢
  rw [h]

theorem sendNow_ports {s t : State} (p typ : Nat) (bs : List Nat) (h : OnlyPorts s t) : OnlyPorts s (t.sendNow p typ bs) := by
  unfold State.sendNow
  split
  · exact h
  · split
    · exact h
    · exact ((h.ports _).ports _).ports _

/-- A packet to every session changes the ports alone. -/
theorem statusAll_ports (s : State) (bs : List Nat) : OnlyPorts s (s.statusAll bs) :=
  OnlyPorts.foldl _ rfl (fun t p h => by
    split
    · exact sendNow_ports _ _ _ h
    · exact h)

theorem raiseIbi_regs (s : State) (i : Ibi) : ∀ f : Fld, f.key ≠ I3C.IBI_STATUS.WAITING.key → (s.raiseIbi i).rd f = s.rd f := by
  intro f hf
  unfold State.raiseIbi
  extract_lets sel l
  clear_value sel l
  split
  · rw [rd_wr_ne _ _ hf]
    rfl
  · rfl

theorem arcHalt_rest (s : State) : s.arcHalt = { s with
    regs := s.arcHalt.regs
    arc := { s.arc with mem := s.arcHalt.arc.mem, subs := s.arcHalt.arc.subs, outside := s.arcHalt.arc.outside }
    clk := { s.clk with good := s.arcHalt.clk.good, broken := s.arcHalt.clk.broken, pll3Off := s.arcHalt.clk.pll3Off } } := by
  unfold State.arcHalt
  extract_lets put m subs out s1
  clear_value m subs out
  cases out <;> rfl

/-- With the writes out, none waits. -/
theorem arcHalt_written (s : State) : s.arcHalt.arc.outside = [] ∧ ∀ b ∈ s.arcHalt.arc.subs, b.writes = [] := by
  refine ⟨rfl, fun b hb => ?_⟩
  obtain ⟨c, -, rfl⟩ := List.mem_map.mp (show b ∈ s.arc.subs.map _ from hb)
  rfl

/-- Of the register fields, entry writes those of the DRAM and of PLL3. -/
theorem arcHalt_regs (s : State) (f : Fld) (h : f.key ∉ [DRM.STATE.STATE, DRM.SR_STATUS.ENTRIES, CLK.PLLn_STATUS.LOCKED 3,
    CLK.PLLn_STATUS.COAST 3, CLK.PLLn_STATUS.RELOCK 3, CLK.PLLn_STATUS.GATED 3].map Fld.key) : s.arcHalt.rd f = s.rd f := by
  simp only [List.map_cons, List.map_nil, List.mem_cons, List.not_mem_nil, or_false, not_or] at h
  obtain ⟨h1, h2, h3, h4, h5, h6⟩ := h
  unfold State.arcHalt
  extract_lets put m subs out s1
  have e : s1.rd f = s.rd f := by
    simp only [s1]
    split
    · simp only [State.pll3Stop, State.put, rd_wr_ne _ _ h3, rd_wr_ne _ _ h4, rd_wr_ne _ _ h5, rd_wr_ne _ _ h6]
      rfl
    · rfl
  rw [rd_wr_ne _ _ h1, ← e]
  exact rd_wr_ne _ _ h2

theorem raiseIbi_rest (s : State) (i : Ibi) : s.raiseIbi i =
    { s with regs := (s.raiseIbi i).regs, i3c := { s.i3c with ibis := (s.raiseIbi i).i3c.ibis } } := by
  unfold State.raiseIbi
  extract_lets sel l
  clear_value sel l
  split <;> rfl

/-- `t` differs from `s` in what entry into HALTED changes. -/
structure HaltRest (s t : State) : Prop where
  rest : t = { s with regs := t.regs, ports := t.ports, i3c := { s.i3c with ibis := t.i3c.ibis }, boot := { s.boot with haltAt := s.now }, events := s.haltEvents,
                      arc := { s.arc with mem := t.arc.mem, subs := t.arc.subs, outside := t.arc.outside },
                      clk := { s.clk with good := t.clk.good, broken := t.clk.broken, pll3Off := t.clk.pll3Off },
                      sec := { s.sec with signing := t.sec.signing } }

variable {s t : State}

theorem HaltRest.wr (f : Fld) (v : Nat) (h : HaltRest s t) : HaltRest s (t.wr f v) := by
  constructor
  rw [h.rest]
  rfl

theorem HaltRest.ports (h : HaltRest s t) {u : State} (k : OnlyPorts t u) : HaltRest s u := by
  constructor
  rw [k, h.rest]

theorem HaltRest.raiseIbi (i : Ibi) (h : HaltRest s t) : HaltRest s (t.raiseIbi i) := by
  constructor
  rw [raiseIbi_rest, h.rest]

theorem HaltRest.arcHalt (h : HaltRest s t) : HaltRest s t.arcHalt := by
  constructor
  rw [arcHalt_rest, h.rest]

theorem HaltRest.signing (n : Nat) (h : HaltRest s t) : HaltRest s { t with sec := { t.sec with signing := n } } := by
  constructor
  rw [h.rest]

theorem HaltRest.ite {c : Prop} [Decidable c] {u : State} (h : HaltRest s t) (k : HaltRest s u) : HaltRest s (if c then t else u) := by
  split <;> assumption

/-- An internal fault short of HALTED enters it (R532). -/
theorem halt_halts (s : State) (reason detail addr : Nat) (h : s.dev ≠ devHalted) : Halts s (s.halt reason detail addr) reason detail addr := by
  have hl : s.live = true := by simp [State.live, h]
  unfold State.halt
  rw [if_pos hl]
  extract_lets t b s0 s1 s2 s3 s4 s5 s6 x s7
  have e3 : s3 = { s2 with ports := s3.ports } := statusAll_ports _ _
  have r4 : ∀ f : Fld, f.key ≠ I3C.IBI_STATUS.WAITING.key → s4.rd f = s2.rd f := fun f hf => by
    rw [show s4 = s3.raiseIbi _ from rfl, raiseIbi_regs _ _ f hf, e3]
    rfl
  have r7 : ∀ f, s7.rd f = s6.rd f := fun f => by
    simp only [s7]
    split <;> rfl
  let low6 : List Nat := [DRM.STATE.STATE, DRM.SR_STATUS.ENTRIES, CLK.PLLn_STATUS.LOCKED 3, CLK.PLLn_STATUS.COAST 3,
    CLK.PLLn_STATUS.RELOCK 3, CLK.PLLn_STATUS.GATED 3].map Fld.key
  have r6 : ∀ f : Fld, f.key ≠ PRO.STATUS.STATE.key → f.key ∉ low6 → s6.rd f = s4.rd f := fun f h1 h2 => by
    rw [show s6 = s5.wr PRO.STATUS.STATE 6 from rfl, rd_wr_ne _ _ h1]
    exact arcHalt_regs _ _ h2
  have h7 : HaltRest s s7 := by
    have h2 : HaltRest s s2 := (((((⟨rfl⟩ : HaltRest s s0).wr _ _).wr _ _).wr _ _).wr _ _ |>.wr _ _).wr _ _
    have h6 : HaltRest s s6 := (((h2.ports (statusAll_ports _ _)).raiseIbi _).arcHalt).wr _ _
    exact h6.ite (h6.signing _)
  have r2 : ∀ f : Fld, f.key ∉ [FLT.REASON.CODE, FLT.REASON.DETAIL, FLT.ADDR_LO.ADDR, FLT.ADDR_HI.ADDR, FLT.HALT_TB_LO.TICKS,
      FLT.HALT_TB_HI.TICKS].map Fld.key → s2.rd f = s.rd f := fun f hf => by
    simp only [List.map_cons, List.map_nil, List.mem_cons, List.not_mem_nil, or_false, not_or] at hf
    simp only [s2, s1, s0, rd_wr_ne _ _ hf.1, rd_wr_ne _ _ hf.2.1, rd_wr_ne _ _ hf.2.2.1, rd_wr_ne _ _ hf.2.2.2.1,
      rd_wr_ne _ _ hf.2.2.2.2.1, rd_wr_ne _ _ hf.2.2.2.2.2]
    rfl
  have low : ∀ f : Fld, f.key ≠ PRO.STATUS.STATE.key → f.key ∉ low6 → f.key ≠ I3C.IBI_STATUS.WAITING.key → s7.rd f = s2.rd f :=
    fun f h1 h2 h4 => (r7 f).trans ((r6 f h1 h2).trans (r4 f h4))
  have w7 : s7.arc.outside = [] ∧ ∀ b ∈ s7.arc.subs, b.writes = [] := by
    have w5 := arcHalt_written s4
    simp only [s7]
    split <;> exact w5
  have ht : t / 2 ^ 32 % 2 ^ 32 = t / 2 ^ 32 := by
    have : t < 2 ^ 64 := Nat.mod_lt _ (by decide)
    omega
  have d : s6.rd DRM.STATE.STATE = 6 := by
    rw [show s6 = s5.wr PRO.STATUS.STATE 6 from rfl, rd_wr_ne _ _ (by decide)]
    exact rd_wr_self ..
  have p : s6.rd PRO.STATUS.STATE = 6 := rd_wr_self ..
  clear_value s7 x s6 s5 s4 s3
  constructor
  case rest =>
    exact ((((((h7.wr _ _).wr _ _).wr _ _).wr _ _).wr _ _).wr _ _).rest
  case written => exact w7
  case regs =>
    intro f hf
    simp only [haltFields, List.map_cons, List.map_nil, List.mem_cons, List.not_mem_nil, or_false, not_or] at hf
    obtain ⟨a1, a2, a3, a4, a5, a6, a7, a8, a9, b1, b2, b3, b4, b5, b6, b7, c1, c2, c3, c4⟩ := hf
    simp only [State.put, rd_wr_ne _ _ b1, rd_wr_ne _ _ b2, rd_wr_ne _ _ b3, rd_wr_ne _ _ b4, rd_wr_ne _ _ b5, rd_wr_ne _ _ b6]
    rw [low f a9 (by simp [low6, a8, b7, c1, c2, c3, c4]) a7]
    refine r2 f ?_
    simp [a1, a2, a3, a4, a5, a6]
  all_goals
    simp (disch := decide) only [State.dev, State.on, State.put, rd_wr_self, rd_wr_ne, low, r7, d, p]
  all_goals
    try simp (disch := decide) only [s2, s1, rd_wr_self, rd_wr_ne]
  all_goals first | rfl | exact ht | exact Nat.mod_mod_of_dvd _ (by decide) | exact Nat.mod_mod ..

end Sys2Proof.Machine
end

