-- ==== Sys2Proof/Laws/Regs.lean ====
section
/-! SUPPORT. The register table places every field where its register is: what `regFields` answers lies at the address asked for. -/

namespace Sys2Proof.Machine

/-- The fields of replica `n`, `k` lie in its register. -/
def Reg.Good (r : Reg) : Prop :=
  ∀ n k, ∀ f ∈ r.fields n k, f.addr = r.base + r.stride * n + r.stride2 * k ∧ f.lo + f.width ≤ 32

theorem Reg.at_addr {r : Reg} (h : r.Good) {a : Nat} {fs : List Fld} (e : r.at a = some fs) :
    ∀ f ∈ fs, f.addr = a ∧ f.lo + f.width ≤ 32 := by
  unfold Reg.at at e
  by_cases ha : a < r.base
  · rw [if_pos ha] at e
    exact nomatch e
  rw [if_neg ha] at e
  extract_lets d n x k y at e
  by_cases hc : n < r.count ∧ k < r.count2 ∧ y = 0
  · rw [if_pos hc] at e
    have e := Option.some.inj e
    subst e
    intro f hf
    obtain ⟨hx, hw⟩ := h _ _ f hf
    refine ⟨hx.trans ?_, hw⟩
    have h1 := Nat.div_add_mod d r.stride
    have h2 := Nat.div_add_mod x r.stride2
    have hd : d = r.stride * n + x := by
      by_cases hs : r.stride = 0
      · simp [n, x, hs]
      · simp [n, x, hs, h1]
    have hx : x = r.stride2 * k := by
      by_cases hs : r.stride2 = 0
      · have := hc.2.2
        simp [y, hs] at this
        simp [hs, this]
      · have := hc.2.2
        simp [y, hs] at this
        simp [k, hs]
        omega
    have : a = r.base + d := by omega
    omega
  · rw [if_neg hc] at e
    exact nomatch e

theorem fieldsIn_addr {rs : List Reg} (h : ∀ r ∈ rs, r.Good) {a : Nat} {fs : List Fld} (e : fieldsIn a rs = some fs) :
    ∀ f ∈ fs, f.addr = a ∧ f.lo + f.width ≤ 32 := by
  induction rs with
  | nil => cases e
  | cons r rs ih =>
    unfold fieldsIn at e
    split at e
    · rename_i g
      cases e
      exact Reg.at_addr (h r (List.mem_cons_self ..)) g
    · exact ih (fun r hr => h r (List.mem_cons_of_mem _ hr)) e

theorem ID.regs_good : ∀ r ∈ ID.regs, r.Good := by
  simp only [ID.regs, List.forall_mem_cons, Reg.Good, List.not_mem_nil, false_implies, implies_true, and_true]
  repeat' first
    | intro _
    | refine And.intro ?_ ?_
  all_goals first
    | rfl
    | exact Nat.le_of_ble_eq_true rfl
    | (simp only [Nat.zero_mul, Nat.add_zero]; rfl)

theorem SYS.regs_good : ∀ r ∈ SYS.regs, r.Good := by
  simp only [SYS.regs, List.forall_mem_cons, Reg.Good, List.not_mem_nil, false_implies, implies_true, and_true]
  repeat' first
    | intro _
    | refine And.intro ?_ ?_
  all_goals first
    | rfl
    | exact Nat.le_of_ble_eq_true rfl
    | (simp only [Nat.zero_mul, Nat.add_zero]; rfl)

theorem FLT.regs_good : ∀ r ∈ FLT.regs, r.Good := by
  simp only [FLT.regs, List.forall_mem_cons, Reg.Good, List.not_mem_nil, false_implies, implies_true, and_true]
  repeat' first
    | intro _
    | refine And.intro ?_ ?_
  all_goals first
    | rfl
    | exact Nat.le_of_ble_eq_true rfl
    | (simp only [Nat.zero_mul, Nat.add_zero]; rfl)

theorem PRF.regs_good : ∀ r ∈ PRF.regs, r.Good := by
  simp only [PRF.regs, List.forall_mem_cons, Reg.Good, List.not_mem_nil, false_implies, implies_true, and_true]
  repeat' first
    | intro _
    | refine And.intro ?_ ?_
  all_goals first
    | rfl
    | exact Nat.le_of_ble_eq_true rfl
    | (simp only [Nat.zero_mul, Nat.add_zero]; rfl)

theorem ADC.regs_good : ∀ r ∈ ADC.regs, r.Good := by
  simp only [ADC.regs, List.forall_mem_cons, Reg.Good, List.not_mem_nil, false_implies, implies_true, and_true]
  repeat' first
    | intro _
    | refine And.intro ?_ ?_
  all_goals first
    | rfl
    | exact Nat.le_of_ble_eq_true rfl
    | (simp only [Nat.zero_mul, Nat.add_zero]; rfl)

theorem CAL.regs_good : ∀ r ∈ CAL.regs, r.Good := by
  simp only [CAL.regs, List.forall_mem_cons, Reg.Good, List.not_mem_nil, false_implies, implies_true, and_true]
  repeat' first
    | intro _
    | refine And.intro ?_ ?_
  all_goals first
    | rfl
    | exact Nat.le_of_ble_eq_true rfl
    | (simp only [Nat.zero_mul, Nat.add_zero]; rfl)

theorem CLK.regs_good : ∀ r ∈ CLK.regs, r.Good := by
  simp only [CLK.regs, List.forall_mem_cons, Reg.Good, List.not_mem_nil, false_implies, implies_true, and_true]
  repeat' first
    | intro _
    | refine And.intro ?_ ?_
  all_goals first
    | rfl
    | exact Nat.le_of_ble_eq_true rfl
    | (simp only [Nat.zero_mul, Nat.add_zero]; rfl)

theorem TB.regs_good : ∀ r ∈ TB.regs, r.Good := by
  simp only [TB.regs, List.forall_mem_cons, Reg.Good, List.not_mem_nil, false_implies, implies_true, and_true]
  repeat' first
    | intro _
    | refine And.intro ?_ ?_
  all_goals first
    | rfl
    | exact Nat.le_of_ble_eq_true rfl
    | (simp only [Nat.zero_mul, Nat.add_zero]; rfl)

theorem TDC.regs_good : ∀ r ∈ TDC.regs, r.Good := by
  simp only [TDC.regs, List.forall_mem_cons, Reg.Good, List.not_mem_nil, false_implies, implies_true, and_true]
  repeat' first
    | intro _
    | refine And.intro ?_ ?_
  all_goals first
    | rfl
    | exact Nat.le_of_ble_eq_true rfl
    | (simp only [Nat.zero_mul, Nat.add_zero]; rfl)

theorem TRG.regs_good : ∀ r ∈ TRG.regs, r.Good := by
  simp only [TRG.regs, List.forall_mem_cons, Reg.Good, List.not_mem_nil, false_implies, implies_true, and_true]
  repeat' first
    | intro _
    | refine And.intro ?_ ?_
  all_goals first
    | rfl
    | exact Nat.le_of_ble_eq_true rfl
    | (simp only [Nat.zero_mul, Nat.add_zero]; rfl)

theorem CAP.regs_good : ∀ r ∈ CAP.regs, r.Good := by
  simp only [CAP.regs, List.forall_mem_cons, Reg.Good, List.not_mem_nil, false_implies, implies_true, and_true]
  repeat' first
    | intro _
    | refine And.intro ?_ ?_
  all_goals first
    | rfl
    | exact Nat.le_of_ble_eq_true rfl
    | (simp only [Nat.zero_mul, Nat.add_zero]; rfl)

theorem FIL.regs_good : ∀ r ∈ FIL.regs, r.Good := by
  simp only [FIL.regs, List.forall_mem_cons, Reg.Good, List.not_mem_nil, false_implies, implies_true, and_true]
  repeat' first
    | intro _
    | refine And.intro ?_ ?_
  all_goals first
    | rfl
    | exact Nat.le_of_ble_eq_true rfl
    | (simp only [Nat.zero_mul, Nat.add_zero]; rfl)

theorem ACC.regs_good : ∀ r ∈ ACC.regs, r.Good := by
  simp only [ACC.regs, List.forall_mem_cons, Reg.Good, List.not_mem_nil, false_implies, implies_true, and_true]
  repeat' first
    | intro _
    | refine And.intro ?_ ?_
  all_goals first
    | rfl
    | exact Nat.le_of_ble_eq_true rfl
    | (simp only [Nat.zero_mul, Nat.add_zero]; rfl)

theorem CMB.regs_good : ∀ r ∈ CMB.regs, r.Good := by
  simp only [CMB.regs, List.forall_mem_cons, Reg.Good, List.not_mem_nil, false_implies, implies_true, and_true]
  repeat' first
    | intro _
    | refine And.intro ?_ ?_
  all_goals first
    | rfl
    | exact Nat.le_of_ble_eq_true rfl
    | (simp only [Nat.zero_mul, Nat.add_zero]; rfl)

theorem DRM.regs_good : ∀ r ∈ DRM.regs, r.Good := by
  simp only [DRM.regs, List.forall_mem_cons, Reg.Good, List.not_mem_nil, false_implies, implies_true, and_true]
  repeat' first
    | intro _
    | refine And.intro ?_ ?_
  all_goals first
    | rfl
    | exact Nat.le_of_ble_eq_true rfl
    | (simp only [Nat.zero_mul, Nat.add_zero]; rfl)

theorem WAG.regs_good : ∀ r ∈ WAG.regs, r.Good := by
  simp only [WAG.regs, List.forall_mem_cons, Reg.Good, List.not_mem_nil, false_implies, implies_true, and_true]
  repeat' first
    | intro _
    | refine And.intro ?_ ?_
  all_goals first
    | rfl
    | exact Nat.le_of_ble_eq_true rfl
    | (simp only [Nat.zero_mul, Nat.add_zero]; rfl)

theorem HPT.regs_good : ∀ r ∈ HPT.regs, r.Good := by
  simp only [HPT.regs, List.forall_mem_cons, Reg.Good, List.not_mem_nil, false_implies, implies_true, and_true]
  repeat' first
    | intro _
    | refine And.intro ?_ ?_
  all_goals first
    | rfl
    | exact Nat.le_of_ble_eq_true rfl
    | (simp only [Nat.zero_mul, Nat.add_zero]; rfl)

theorem WIN.regs_good : ∀ r ∈ WIN.regs, r.Good := by
  simp only [WIN.regs, List.forall_mem_cons, Reg.Good, List.not_mem_nil, false_implies, implies_true, and_true]
  repeat' first
    | intro _
    | refine And.intro ?_ ?_
  all_goals first
    | rfl
    | exact Nat.le_of_ble_eq_true rfl
    | (simp only [Nat.zero_mul, Nat.add_zero]; rfl)

theorem MCV.regs_good : ∀ r ∈ MCV.regs, r.Good := by
  simp only [MCV.regs, List.forall_mem_cons, Reg.Good, List.not_mem_nil, false_implies, implies_true, and_true]
  repeat' first
    | intro _
    | refine And.intro ?_ ?_
  all_goals first
    | rfl
    | exact Nat.le_of_ble_eq_true rfl
    | (simp only [Nat.zero_mul, Nat.add_zero]; rfl)

theorem PRO.regs_good : ∀ r ∈ PRO.regs, r.Good := by
  simp only [PRO.regs, List.forall_mem_cons, Reg.Good, List.not_mem_nil, false_implies, implies_true, and_true]
  repeat' first
    | intro _
    | refine And.intro ?_ ?_
  all_goals first
    | rfl
    | exact Nat.le_of_ble_eq_true rfl
    | (simp only [Nat.zero_mul, Nat.add_zero]; rfl)

theorem SEC.regs_good : ∀ r ∈ SEC.regs, r.Good := by
  simp only [SEC.regs, List.forall_mem_cons, Reg.Good, List.not_mem_nil, false_implies, implies_true, and_true]
  repeat' first
    | intro _
    | refine And.intro ?_ ?_
  all_goals first
    | rfl
    | exact Nat.le_of_ble_eq_true rfl
    | (simp only [Nat.zero_mul, Nat.add_zero]; rfl)

theorem LGR.regs_good : ∀ r ∈ LGR.regs, r.Good := by
  simp only [LGR.regs, List.forall_mem_cons, Reg.Good, List.not_mem_nil, false_implies, implies_true, and_true]
  repeat' first
    | intro _
    | refine And.intro ?_ ?_
  all_goals first
    | rfl
    | exact Nat.le_of_ble_eq_true rfl
    | (simp only [Nat.zero_mul, Nat.add_zero]; rfl)

theorem I3C.regs_good : ∀ r ∈ I3C.regs, r.Good := by
  simp only [I3C.regs, List.forall_mem_cons, Reg.Good, List.not_mem_nil, false_implies, implies_true, and_true]
  repeat' first
    | intro _
    | refine And.intro ?_ ?_
  all_goals first
    | rfl
    | exact Nat.le_of_ble_eq_true rfl
    | (simp only [Nat.zero_mul, Nat.add_zero]; rfl)

/-- What lies above `SYS.STATE`: every field a write can store, and every counter that one clears. -/
def Reg.Above (r : Reg) : Prop :=
  ∀ n k, (∀ f ∈ r.fields n k, 1025 ≤ f.addr ∨ f.addr < 1025 ∧ f.access = .ro) ∧ ∀ p ∈ r.clears n k, ∀ f ∈ p.2, 1025 ≤ f.addr

theorem ID.regs_above : ∀ r ∈ ID.regs, r.Above := by
  simp only [ID.regs, List.forall_mem_cons, Reg.Above, List.not_mem_nil, false_implies, implies_true, and_true]
  repeat' first
    | intro _
    | refine And.intro ?_ ?_
  all_goals first
    | exact Nat.le_of_ble_eq_true rfl
    | exact .inl (Nat.le_of_ble_eq_true rfl)
    | exact .inr ⟨Nat.le_of_ble_eq_true rfl, rfl⟩
    | exact .inl (Nat.le_trans (by decide) (Nat.le_add_right _ _))
    | exact Nat.le_trans (by decide) (Nat.le_add_right _ _)
    | exact .inl (Nat.le_trans (Nat.le_trans (by decide) (Nat.le_add_right _ _)) (Nat.le_add_right _ _))

theorem SYS.regs_above : ∀ r ∈ SYS.regs, r.Above := by
  simp only [SYS.regs, List.forall_mem_cons, Reg.Above, List.not_mem_nil, false_implies, implies_true, and_true]
  repeat' first
    | intro _
    | refine And.intro ?_ ?_
  all_goals first
    | exact Nat.le_of_ble_eq_true rfl
    | exact .inl (Nat.le_of_ble_eq_true rfl)
    | exact .inr ⟨Nat.le_of_ble_eq_true rfl, rfl⟩
    | exact .inl (Nat.le_trans (by decide) (Nat.le_add_right _ _))
    | exact Nat.le_trans (by decide) (Nat.le_add_right _ _)
    | exact .inl (Nat.le_trans (Nat.le_trans (by decide) (Nat.le_add_right _ _)) (Nat.le_add_right _ _))

theorem FLT.regs_above : ∀ r ∈ FLT.regs, r.Above := by
  simp only [FLT.regs, List.forall_mem_cons, Reg.Above, List.not_mem_nil, false_implies, implies_true, and_true]
  repeat' first
    | intro _
    | refine And.intro ?_ ?_
  all_goals first
    | exact Nat.le_of_ble_eq_true rfl
    | exact .inl (Nat.le_of_ble_eq_true rfl)
    | exact .inr ⟨Nat.le_of_ble_eq_true rfl, rfl⟩
    | exact .inl (Nat.le_trans (by decide) (Nat.le_add_right _ _))
    | exact Nat.le_trans (by decide) (Nat.le_add_right _ _)
    | exact .inl (Nat.le_trans (Nat.le_trans (by decide) (Nat.le_add_right _ _)) (Nat.le_add_right _ _))

theorem PRF.regs_above : ∀ r ∈ PRF.regs, r.Above := by
  simp only [PRF.regs, List.forall_mem_cons, Reg.Above, List.not_mem_nil, false_implies, implies_true, and_true]
  repeat' first
    | intro _
    | refine And.intro ?_ ?_
  all_goals first
    | exact Nat.le_of_ble_eq_true rfl
    | exact .inl (Nat.le_of_ble_eq_true rfl)
    | exact .inr ⟨Nat.le_of_ble_eq_true rfl, rfl⟩
    | exact .inl (Nat.le_trans (by decide) (Nat.le_add_right _ _))
    | exact Nat.le_trans (by decide) (Nat.le_add_right _ _)
    | exact .inl (Nat.le_trans (Nat.le_trans (by decide) (Nat.le_add_right _ _)) (Nat.le_add_right _ _))

theorem ADC.regs_above : ∀ r ∈ ADC.regs, r.Above := by
  simp only [ADC.regs, List.forall_mem_cons, Reg.Above, List.not_mem_nil, false_implies, implies_true, and_true]
  repeat' first
    | intro _
    | refine And.intro ?_ ?_
  all_goals first
    | exact Nat.le_of_ble_eq_true rfl
    | exact .inl (Nat.le_of_ble_eq_true rfl)
    | exact .inr ⟨Nat.le_of_ble_eq_true rfl, rfl⟩
    | exact .inl (Nat.le_trans (by decide) (Nat.le_add_right _ _))
    | exact Nat.le_trans (by decide) (Nat.le_add_right _ _)
    | exact .inl (Nat.le_trans (Nat.le_trans (by decide) (Nat.le_add_right _ _)) (Nat.le_add_right _ _))

theorem CAL.regs_above : ∀ r ∈ CAL.regs, r.Above := by
  simp only [CAL.regs, List.forall_mem_cons, Reg.Above, List.not_mem_nil, false_implies, implies_true, and_true]
  repeat' first
    | intro _
    | refine And.intro ?_ ?_
  all_goals first
    | exact Nat.le_of_ble_eq_true rfl
    | exact .inl (Nat.le_of_ble_eq_true rfl)
    | exact .inr ⟨Nat.le_of_ble_eq_true rfl, rfl⟩
    | exact .inl (Nat.le_trans (by decide) (Nat.le_add_right _ _))
    | exact Nat.le_trans (by decide) (Nat.le_add_right _ _)
    | exact .inl (Nat.le_trans (Nat.le_trans (by decide) (Nat.le_add_right _ _)) (Nat.le_add_right _ _))

theorem CLK.regs_above : ∀ r ∈ CLK.regs, r.Above := by
  simp only [CLK.regs, List.forall_mem_cons, Reg.Above, List.not_mem_nil, false_implies, implies_true, and_true]
  repeat' first
    | intro _
    | refine And.intro ?_ ?_
  all_goals first
    | exact Nat.le_of_ble_eq_true rfl
    | exact .inl (Nat.le_of_ble_eq_true rfl)
    | exact .inr ⟨Nat.le_of_ble_eq_true rfl, rfl⟩
    | exact .inl (Nat.le_trans (by decide) (Nat.le_add_right _ _))
    | exact Nat.le_trans (by decide) (Nat.le_add_right _ _)
    | exact .inl (Nat.le_trans (Nat.le_trans (by decide) (Nat.le_add_right _ _)) (Nat.le_add_right _ _))

theorem TB.regs_above : ∀ r ∈ TB.regs, r.Above := by
  simp only [TB.regs, List.forall_mem_cons, Reg.Above, List.not_mem_nil, false_implies, implies_true, and_true]
  repeat' first
    | intro _
    | refine And.intro ?_ ?_
  all_goals first
    | exact Nat.le_of_ble_eq_true rfl
    | exact .inl (Nat.le_of_ble_eq_true rfl)
    | exact .inr ⟨Nat.le_of_ble_eq_true rfl, rfl⟩
    | exact .inl (Nat.le_trans (by decide) (Nat.le_add_right _ _))
    | exact Nat.le_trans (by decide) (Nat.le_add_right _ _)
    | exact .inl (Nat.le_trans (Nat.le_trans (by decide) (Nat.le_add_right _ _)) (Nat.le_add_right _ _))

theorem TDC.regs_above : ∀ r ∈ TDC.regs, r.Above := by
  simp only [TDC.regs, List.forall_mem_cons, Reg.Above, List.not_mem_nil, false_implies, implies_true, and_true]
  repeat' first
    | intro _
    | refine And.intro ?_ ?_
  all_goals first
    | exact Nat.le_of_ble_eq_true rfl
    | exact .inl (Nat.le_of_ble_eq_true rfl)
    | exact .inr ⟨Nat.le_of_ble_eq_true rfl, rfl⟩
    | exact .inl (Nat.le_trans (by decide) (Nat.le_add_right _ _))
    | exact Nat.le_trans (by decide) (Nat.le_add_right _ _)
    | exact .inl (Nat.le_trans (Nat.le_trans (by decide) (Nat.le_add_right _ _)) (Nat.le_add_right _ _))

theorem TRG.regs_above : ∀ r ∈ TRG.regs, r.Above := by
  simp only [TRG.regs, List.forall_mem_cons, Reg.Above, List.not_mem_nil, false_implies, implies_true, and_true]
  repeat' first
    | intro _
    | refine And.intro ?_ ?_
  all_goals first
    | exact Nat.le_of_ble_eq_true rfl
    | exact .inl (Nat.le_of_ble_eq_true rfl)
    | exact .inr ⟨Nat.le_of_ble_eq_true rfl, rfl⟩
    | exact .inl (Nat.le_trans (by decide) (Nat.le_add_right _ _))
    | exact Nat.le_trans (by decide) (Nat.le_add_right _ _)
    | exact .inl (Nat.le_trans (Nat.le_trans (by decide) (Nat.le_add_right _ _)) (Nat.le_add_right _ _))

theorem CAP.regs_above : ∀ r ∈ CAP.regs, r.Above := by
  simp only [CAP.regs, List.forall_mem_cons, Reg.Above, List.not_mem_nil, false_implies, implies_true, and_true]
  repeat' first
    | intro _
    | refine And.intro ?_ ?_
  all_goals first
    | exact Nat.le_of_ble_eq_true rfl
    | exact .inl (Nat.le_of_ble_eq_true rfl)
    | exact .inr ⟨Nat.le_of_ble_eq_true rfl, rfl⟩
    | exact .inl (Nat.le_trans (by decide) (Nat.le_add_right _ _))
    | exact Nat.le_trans (by decide) (Nat.le_add_right _ _)
    | exact .inl (Nat.le_trans (Nat.le_trans (by decide) (Nat.le_add_right _ _)) (Nat.le_add_right _ _))

theorem FIL.regs_above : ∀ r ∈ FIL.regs, r.Above := by
  simp only [FIL.regs, List.forall_mem_cons, Reg.Above, List.not_mem_nil, false_implies, implies_true, and_true]
  repeat' first
    | intro _
    | refine And.intro ?_ ?_
  all_goals first
    | exact Nat.le_of_ble_eq_true rfl
    | exact .inl (Nat.le_of_ble_eq_true rfl)
    | exact .inr ⟨Nat.le_of_ble_eq_true rfl, rfl⟩
    | exact .inl (Nat.le_trans (by decide) (Nat.le_add_right _ _))
    | exact Nat.le_trans (by decide) (Nat.le_add_right _ _)
    | exact .inl (Nat.le_trans (Nat.le_trans (by decide) (Nat.le_add_right _ _)) (Nat.le_add_right _ _))

theorem ACC.regs_above : ∀ r ∈ ACC.regs, r.Above := by
  simp only [ACC.regs, List.forall_mem_cons, Reg.Above, List.not_mem_nil, false_implies, implies_true, and_true]
  repeat' first
    | intro _
    | refine And.intro ?_ ?_
  all_goals first
    | exact Nat.le_of_ble_eq_true rfl
    | exact .inl (Nat.le_of_ble_eq_true rfl)
    | exact .inr ⟨Nat.le_of_ble_eq_true rfl, rfl⟩
    | exact .inl (Nat.le_trans (by decide) (Nat.le_add_right _ _))
    | exact Nat.le_trans (by decide) (Nat.le_add_right _ _)
    | exact .inl (Nat.le_trans (Nat.le_trans (by decide) (Nat.le_add_right _ _)) (Nat.le_add_right _ _))

theorem CMB.regs_above : ∀ r ∈ CMB.regs, r.Above := by
  simp only [CMB.regs, List.forall_mem_cons, Reg.Above, List.not_mem_nil, false_implies, implies_true, and_true]
  repeat' first
    | intro _
    | refine And.intro ?_ ?_
  all_goals first
    | exact Nat.le_of_ble_eq_true rfl
    | exact .inl (Nat.le_of_ble_eq_true rfl)
    | exact .inr ⟨Nat.le_of_ble_eq_true rfl, rfl⟩
    | exact .inl (Nat.le_trans (by decide) (Nat.le_add_right _ _))
    | exact Nat.le_trans (by decide) (Nat.le_add_right _ _)
    | exact .inl (Nat.le_trans (Nat.le_trans (by decide) (Nat.le_add_right _ _)) (Nat.le_add_right _ _))

theorem DRM.regs_above : ∀ r ∈ DRM.regs, r.Above := by
  simp only [DRM.regs, List.forall_mem_cons, Reg.Above, List.not_mem_nil, false_implies, implies_true, and_true]
  repeat' first
    | intro _
    | refine And.intro ?_ ?_
  all_goals first
    | exact Nat.le_of_ble_eq_true rfl
    | exact .inl (Nat.le_of_ble_eq_true rfl)
    | exact .inr ⟨Nat.le_of_ble_eq_true rfl, rfl⟩
    | exact .inl (Nat.le_trans (by decide) (Nat.le_add_right _ _))
    | exact Nat.le_trans (by decide) (Nat.le_add_right _ _)
    | exact .inl (Nat.le_trans (Nat.le_trans (by decide) (Nat.le_add_right _ _)) (Nat.le_add_right _ _))

theorem WAG.regs_above : ∀ r ∈ WAG.regs, r.Above := by
  simp only [WAG.regs, List.forall_mem_cons, Reg.Above, List.not_mem_nil, false_implies, implies_true, and_true]
  repeat' first
    | intro _
    | refine And.intro ?_ ?_
  all_goals first
    | exact Nat.le_of_ble_eq_true rfl
    | exact .inl (Nat.le_of_ble_eq_true rfl)
    | exact .inr ⟨Nat.le_of_ble_eq_true rfl, rfl⟩
    | exact .inl (Nat.le_trans (by decide) (Nat.le_add_right _ _))
    | exact Nat.le_trans (by decide) (Nat.le_add_right _ _)
    | exact .inl (Nat.le_trans (Nat.le_trans (by decide) (Nat.le_add_right _ _)) (Nat.le_add_right _ _))

theorem HPT.regs_above : ∀ r ∈ HPT.regs, r.Above := by
  simp only [HPT.regs, List.forall_mem_cons, Reg.Above, List.not_mem_nil, false_implies, implies_true, and_true]
  repeat' first
    | intro _
    | refine And.intro ?_ ?_
  all_goals first
    | exact Nat.le_of_ble_eq_true rfl
    | exact .inl (Nat.le_of_ble_eq_true rfl)
    | exact .inr ⟨Nat.le_of_ble_eq_true rfl, rfl⟩
    | exact .inl (Nat.le_trans (by decide) (Nat.le_add_right _ _))
    | exact Nat.le_trans (by decide) (Nat.le_add_right _ _)
    | exact .inl (Nat.le_trans (Nat.le_trans (by decide) (Nat.le_add_right _ _)) (Nat.le_add_right _ _))

theorem WIN.regs_above : ∀ r ∈ WIN.regs, r.Above := by
  simp only [WIN.regs, List.forall_mem_cons, Reg.Above, List.not_mem_nil, false_implies, implies_true, and_true]
  repeat' first
    | intro _
    | refine And.intro ?_ ?_
  all_goals first
    | exact Nat.le_of_ble_eq_true rfl
    | exact .inl (Nat.le_of_ble_eq_true rfl)
    | exact .inr ⟨Nat.le_of_ble_eq_true rfl, rfl⟩
    | exact .inl (Nat.le_trans (by decide) (Nat.le_add_right _ _))
    | exact Nat.le_trans (by decide) (Nat.le_add_right _ _)
    | exact .inl (Nat.le_trans (Nat.le_trans (by decide) (Nat.le_add_right _ _)) (Nat.le_add_right _ _))

theorem MCV.regs_above : ∀ r ∈ MCV.regs, r.Above := by
  simp only [MCV.regs, List.forall_mem_cons, Reg.Above, List.not_mem_nil, false_implies, implies_true, and_true]
  repeat' first
    | intro _
    | refine And.intro ?_ ?_
  all_goals first
    | exact Nat.le_of_ble_eq_true rfl
    | exact .inl (Nat.le_of_ble_eq_true rfl)
    | exact .inr ⟨Nat.le_of_ble_eq_true rfl, rfl⟩
    | exact .inl (Nat.le_trans (by decide) (Nat.le_add_right _ _))
    | exact Nat.le_trans (by decide) (Nat.le_add_right _ _)
    | exact .inl (Nat.le_trans (Nat.le_trans (by decide) (Nat.le_add_right _ _)) (Nat.le_add_right _ _))

theorem PRO.regs_above : ∀ r ∈ PRO.regs, r.Above := by
  simp only [PRO.regs, List.forall_mem_cons, Reg.Above, List.not_mem_nil, false_implies, implies_true, and_true]
  repeat' first
    | intro _
    | refine And.intro ?_ ?_
  all_goals first
    | exact Nat.le_of_ble_eq_true rfl
    | exact .inl (Nat.le_of_ble_eq_true rfl)
    | exact .inr ⟨Nat.le_of_ble_eq_true rfl, rfl⟩
    | exact .inl (Nat.le_trans (by decide) (Nat.le_add_right _ _))
    | exact Nat.le_trans (by decide) (Nat.le_add_right _ _)
    | exact .inl (Nat.le_trans (Nat.le_trans (by decide) (Nat.le_add_right _ _)) (Nat.le_add_right _ _))

theorem SEC.regs_above : ∀ r ∈ SEC.regs, r.Above := by
  simp only [SEC.regs, List.forall_mem_cons, Reg.Above, List.not_mem_nil, false_implies, implies_true, and_true]
  repeat' first
    | intro _
    | refine And.intro ?_ ?_
  all_goals first
    | exact Nat.le_of_ble_eq_true rfl
    | exact .inl (Nat.le_of_ble_eq_true rfl)
    | exact .inr ⟨Nat.le_of_ble_eq_true rfl, rfl⟩
    | exact .inl (Nat.le_trans (by decide) (Nat.le_add_right _ _))
    | exact Nat.le_trans (by decide) (Nat.le_add_right _ _)
    | exact .inl (Nat.le_trans (Nat.le_trans (by decide) (Nat.le_add_right _ _)) (Nat.le_add_right _ _))

theorem LGR.regs_above : ∀ r ∈ LGR.regs, r.Above := by
  simp only [LGR.regs, List.forall_mem_cons, Reg.Above, List.not_mem_nil, false_implies, implies_true, and_true]
  repeat' first
    | intro _
    | refine And.intro ?_ ?_
  all_goals first
    | exact Nat.le_of_ble_eq_true rfl
    | exact .inl (Nat.le_of_ble_eq_true rfl)
    | exact .inr ⟨Nat.le_of_ble_eq_true rfl, rfl⟩
    | exact .inl (Nat.le_trans (by decide) (Nat.le_add_right _ _))
    | exact Nat.le_trans (by decide) (Nat.le_add_right _ _)
    | exact .inl (Nat.le_trans (Nat.le_trans (by decide) (Nat.le_add_right _ _)) (Nat.le_add_right _ _))

theorem I3C.regs_above : ∀ r ∈ I3C.regs, r.Above := by
  simp only [I3C.regs, List.forall_mem_cons, Reg.Above, List.not_mem_nil, false_implies, implies_true, and_true]
  repeat' first
    | intro _
    | refine And.intro ?_ ?_
  all_goals first
    | exact Nat.le_of_ble_eq_true rfl
    | exact .inl (Nat.le_of_ble_eq_true rfl)
    | exact .inr ⟨Nat.le_of_ble_eq_true rfl, rfl⟩
    | exact .inl (Nat.le_trans (by decide) (Nat.le_add_right _ _))
    | exact Nat.le_trans (by decide) (Nat.le_add_right _ _)
    | exact .inl (Nat.le_trans (Nat.le_trans (by decide) (Nat.le_add_right _ _)) (Nat.le_add_right _ _))

theorem forall_append {α : Type} {P : α → Prop} {l m : List α} (h : ∀ x ∈ l, P x) (k : ∀ x ∈ m, P x) : ∀ x ∈ l ++ m, P x :=
  fun x hx => (List.mem_append.mp hx).elim (h x) (k x)

theorem allRegs_good : ∀ r ∈ allRegs, r.Good :=
  forall_append (forall_append (forall_append (forall_append (forall_append (forall_append (forall_append (forall_append (forall_append (forall_append (forall_append (forall_append (forall_append (forall_append (forall_append (forall_append (forall_append (forall_append (forall_append (forall_append (forall_append (forall_append ID.regs_good SYS.regs_good) FLT.regs_good) PRF.regs_good) ADC.regs_good) CAL.regs_good) CLK.regs_good) TB.regs_good) TDC.regs_good) TRG.regs_good) CAP.regs_good) FIL.regs_good) ACC.regs_good) CMB.regs_good)
    DRM.regs_good) WAG.regs_good) HPT.regs_good) WIN.regs_good) MCV.regs_good) PRO.regs_good) SEC.regs_good) LGR.regs_good) I3C.regs_good

theorem allRegs_above : ∀ r ∈ allRegs, r.Above :=
  forall_append (forall_append (forall_append (forall_append (forall_append (forall_append (forall_append (forall_append (forall_append (forall_append (forall_append (forall_append (forall_append (forall_append (forall_append (forall_append (forall_append (forall_append (forall_append (forall_append (forall_append (forall_append ID.regs_above SYS.regs_above) FLT.regs_above) PRF.regs_above) ADC.regs_above) CAL.regs_above) CLK.regs_above) TB.regs_above) TDC.regs_above) TRG.regs_above) CAP.regs_above) FIL.regs_above) ACC.regs_above) CMB.regs_above)
    DRM.regs_above) WAG.regs_above) HPT.regs_above) WIN.regs_above) MCV.regs_above) PRO.regs_above) SEC.regs_above) LGR.regs_above) I3C.regs_above

/-- The fields at an address lie there. -/
theorem regFields_addr {a : Nat} {fs : List Fld} (e : regFields a = some fs) : ∀ f ∈ fs, f.addr = a ∧ f.lo + f.width ≤ 32 :=
  fieldsIn_addr allRegs_good e

end Sys2Proof.Machine
end

