-- ==== Sys2Proof/WellFormed.lean ====
section
/-! DEFINITION. Which operands a command can carry: register words are 32 bits wide, bytes eight, and an index names a
channel, port, cell, stamp input, window or PLL that the device has. The meanings are total all the same: a command that
names a part the device does not have changes nothing (notes/assumptions/3.md). -/

namespace Sys2Proof

/-- Every number of the list is below `n`. -/
def below (n : Nat) (l : List Nat) : Bool := l.all (fun x => decide (x < n))

/-- A port attachment names one of the 64 host ports (R381). -/
def Att.wf : Att → Bool
  | .i3c => true
  | .port p => decide (p < 64)

/-- The fields of an Ethernet frame have their widths (R385). -/
def EthFrame.wf (e : EthFrame) : Bool :=
  decide (e.dst < 2 ^ 48) && decide (e.src < 2 ^ 48) && e.vid.all (fun v => decide (v < 4096)) && decide (e.etherType < 2 ^ 16)
    && below 256 e.bytes

/-- Every operand of the command is within its range. -/
def Instr.wf (i : Instr) : Bool :=
  match i with
  | .registerWrite a addr v => a.wf && decide (addr < 2 ^ 32) && decide (v < 2 ^ 32)
  | .powerOn _ psel _ => decide (psel < 8)
  | .resetRecognised => true
  | .resetRelease psel _ => decide (psel < 8)
  | .brownOut => true
  | .startUp reason detail addr _ _ size mode clock => decide (reason < 2 ^ 16) && decide (detail < 2 ^ 32) && decide (addr < 2 ^ 32) && decide (size < 2 ^ 32) && decide (mode < 2 ^ 32) && decide (clock < 2 ^ 32)
  | .internalFault reason detail addr => decide (reason < 2 ^ 16) && decide (detail < 2 ^ 32) && decide (addr < 2 ^ 32)
  | .thermalTrip m reading => decide (m < 16) && decide (-32768 ≤ reading ∧ reading < 32768)
  | .vddioSample side => decide (side < 3)
  | .sclkMeasurementWindow khz => decide (khz < 2 ^ 32)
  | .adcSclkLost => true
  | .correctedSample n _ raw => decide (n < 8) && decide (raw.length = 7) && below 4096 raw
  | .primingComplete n => decide (n < 8)
  | .adcCommit a n v => a.wf && decide (n < 8) && decide (v < 2 ^ 32)
  | .rangeChange n => decide (n < 8)
  | .modeWrite a v => a.wf && decide (v < 2 ^ 32)
  | .modeChange => true
  | .modeCalComplete => true
  | .calPassReq a v => a.wf && decide (v < 2 ^ 32)
  | .passOverdue n => decide (n < 8)
  | .calPassStart n => decide (n < 8)
  | .referenceCheckRetry n => decide (n < 9)
  | .staticCalComplete n k mG mB mC _ => decide (n < 8) && decide (k < 17) && decide (mG.length = 8) && decide (mB.length = 8) && decide (mC.length = 8)
  | .handover n codes ins => decide (n < 8) && decide (codes.length = 64) && codes.all (fun q => decide (q.length = 7) && below 4096 q) && decide (ins.length = 64) && below 4096 ins
  | .bgWindowComplete n _ eq _ => decide (n < 8) && eq.all (fun q => decide (q.1.length = 7) && decide (q.2.length = 16) && q.2.all (fun t => decide (t.length = 7)))
  | .calOverdueSet n => decide (n < 8)
  | .certCommit a v => a.wf && decide (v < 2 ^ 32)
  | .rangeCheckReq a v => a.wf && decide (v < 2 ^ 32)
  | .rangeCheckComplete n r factor => decide (n < 8) && decide (r < 4) && decide (factor < 2 ^ 32)
  | .refinMeasurement khz pll0Khz => decide (khz < 2 ^ 32) && decide (pll0Khz < 2 ^ 32)
  | .clkRefLost => true
  | .pllLockWindow n _ _ => decide (n < 6)
  | .pllLockTimeout n => decide (n < 6)
  | .tbRephased => true
  | .ocxoWarmChange _ => true
  | .clkCommit a v => a.wf && decide (v < 2 ^ 32)
  | .clkCommitApply => true
  | .syncEdge => true
  | .tbSetArm a v => a.wf && decide (v < 2 ^ 32)
  | .tbSetDisarm a v => a.wf && decide (v < 2 ^ 32)
  | .tbNowRead a => a.wf
  | .marker t => decide (t < 2 ^ 80)
  | .edgeSelect a i v => a.wf && decide (i < 64) && decide (v < 2 ^ 32)
  | .stampEdge i _ phase => decide (i < 40) && decide (phase < 65536)
  | .vernierConversion i v => decide (i < 64) && decide (v < 16)
  | .spillMove i => decide (i < 65)
  | .curveTestGo a v => a.wf && decide (v < 2 ^ 32)
  | .curveTestComplete i hist => decide (i < 65) && decide (hist.length = 256) && below 4194305 hist
  | .vernierLockMeasurement i u _ => decide (i < 65) && decide (u < 2)
  | .vernierLockTimeout i u => decide (i < 65) && decide (u < 2)
  | .darkStamp i _ => decide (i < 40)
  | .sequencerEvent n => decide (n < 8)
  | .sequencerTimerExpiry n k => decide (n < 8) && decide (k < 4)
  | .holdoffEnd n => decide (n < 8)
  | .channelRearm n => decide (n < 8)
  | .trgCommit a n v => a.wf && decide (n < 8) && decide (v < 2 ^ 32)
  | .trgSettingsApply n => decide (n < 8)
  | .trgRearm a n v => a.wf && decide (n < 8) && decide (v < 2 ^ 32)
  | .trgForce a n v => a.wf && decide (n < 8) && decide (v < 2 ^ 32)
  | .trgCmd a n v => a.wf && decide (n < 8) && decide (v < 2 ^ 32)
  | .trgoutCtlWrite a k v => a.wf && decide (k < 4) && decide (v < 2 ^ 32)
  | .trgoutPulseEnd k => decide (k < 4)
  | .trgCurveLearn a v => a.wf && decide (v < 2 ^ 32)
  | .curveLearnComplete => true
  | .capStart a v => a.wf && decide (v < 2 ^ 32)
  | .heldStartAct => true
  | .capStop a v => a.wf && decide (v < 2 ^ 32)
  | .capAbort a v => a.wf && decide (v < 2 ^ 32)
  | .continuousRollStart => true
  | .frameEnd n => decide (n < 8)
  | .frameClosed n => decide (n < 8)
  | .q0ReservationChange => true
  | .qdrSlotGrant err => decide (err < 3)
  | .capRelease a v => a.wf && decide (v < 2 ^ 32)
  | .poolLowReset a v => a.wf && decide (v < 2 ^ 32)
  | .accSnapStk a n v => a.wf && decide (n < 8) && decide (v < 2 ^ 32)
  | .accSnapMap a n v => a.wf && decide (n < 8) && decide (v < 2 ^ 32)
  | .accClearStk a n v => a.wf && decide (n < 8) && decide (v < 2 ^ 32)
  | .accClearMap a n v => a.wf && decide (n < 8) && decide (v < 2 ^ 32)
  | .snapshotPeriod n => decide (n < 8)
  | .accSnapshot n kind => decide (n < 8) && decide (kind < 2)
  | .stackMerge n => decide (n < 8)
  | .tileMerge n => decide (n < 8)
  | .decayStep n => decide (n < 8)
  | .cmbLoad a c v => a.wf && decide (c < 192) && decide (v < 2 ^ 32)
  | .cellLoadComplete c => decide (c < 192)
  | .cmbRun a c v => a.wf && decide (c < 192) && decide (v < 2 ^ 32)
  | .cmbHalt a c v => a.wf && decide (c < 192) && decide (v < 2 ^ 32)
  | .cmbUnload a c v => a.wf && decide (c < 192) && decide (v < 2 ^ 32)
  | .cmbGroupRun a v => a.wf && decide (v < 2 ^ 32)
  | .cmbGroupHalt a v => a.wf && decide (v < 2 ^ 32)
  | .parameterWrite a w v => a.wf && decide (w < 64) && decide (v < 2 ^ 32)
  | .bufferReady c _ err => decide (c < 192) && decide (err < 4)
  | .stampsFlush c _ => decide (c < 192)
  | .dmaComplete c err => decide (c < 192) && decide (err < 4)
  | .cellMove c => decide (c < 192)
  | .cellClr c => decide (c < 192)
  | .cellAdd c => decide (c < 192)
  | .cellSub c => decide (c < 192)
  | .cellNeg c => decide (c < 192)
  | .cellAbs c => decide (c < 192)
  | .cellMax c => decide (c < 192)
  | .cellMin c => decide (c < 192)
  | .cellCmp c => decide (c < 192)
  | .cellAnd c => decide (c < 192)
  | .cellOr c => decide (c < 192)
  | .cellXor c => decide (c < 192)
  | .cellAsl c => decide (c < 192)
  | .cellAsr c => decide (c < 192)
  | .cellLsr c => decide (c < 192)
  | .cellCls c => decide (c < 192)
  | .cellDiv c => decide (c < 192)
  | .cellSqrt c => decide (c < 192)
  | .cellMul c => decide (c < 192)
  | .cellMla c => decide (c < 192)
  | .cellMls c => decide (c < 192)
  | .cellMlah c => decide (c < 192)
  | .cellDmul c => decide (c < 192)
  | .cellDmla c => decide (c < 192)
  | .cellDmls c => decide (c < 192)
  | .cellDsum c => decide (c < 192)
  | .cellDdif c => decide (c < 192)
  | .cellLdi c => decide (c < 192)
  | .cellAddi c => decide (c < 192)
  | .cellCmpi c => decide (c < 192)
  | .cellAndi c => decide (c < 192)
  | .cellSeta c => decide (c < 192)
  | .cellAdda c => decide (c < 192)
  | .cellSetb c => decide (c < 192)
  | .cellSetw c => decide (c < 192)
  | .cellSets c => decide (c < 192)
  | .cellMva c => decide (c < 192)
  | .cellMvd c => decide (c < 192)
  | .cellMvc c => decide (c < 192)
  | .cellMcv c => decide (c < 192)
  | .cellSetsh c => decide (c < 192)
  | .cellNop c => decide (c < 192)
  | .cellBra c => decide (c < 192)
  | .cellCall c => decide (c < 192)
  | .cellRet c => decide (c < 192)
  | .cellLoop c => decide (c < 192)
  | .cellLoopr c => decide (c < 192)
  | .cellRpt c => decide (c < 192)
  | .cellLeave c => decide (c < 192)
  | .cellHalt c => decide (c < 192)
  | .cellTrap c => decide (c < 192)
  | .cellClrf c => decide (c < 192)
  | .cellIn c => decide (c < 192)
  | .cellFree c => decide (c < 192)
  | .cellOpen c => decide (c < 192)
  | .cellOut c => decide (c < 192)
  | .cellClose c => decide (c < 192)
  | .cellDma c => decide (c < 192)
  | .cellDwait c => decide (c < 192)
  | .cellEvent c => decide (c < 192)
  | .ddrRefresh => true
  | .mr4Poll _ bad _ => bad.all (fun q => decide (q.1 < 4))
  | .dqsTrack drift _ => drift.all (fun q => decide (q.1 < 4) && decide (q.2 < 2))
  | .zqCalibration _ => true
  | .writeDrain k => decide (k < 4)
  | .ddrReadComplete k asked err => decide (k < 4) && asked.all (fun q => decide (q.1 < 4)) && decide (err < 3)
  | .selfRefreshEntry => true
  | .selfRefreshExit => true
  | .archiveRecordCommit => true
  | .archTrim a v => a.wf && decide (v < 2 ^ 32)
  | .grainWrite a v => a.wf && decide (v < 2 ^ 32)
  | .archRegionWrite a k v => a.wf && decide (k < 3) && decide (v < 2 ^ 32)
  | .frameReceived p e => decide (p < 64) && e.wf
  | .hello p e => decide (p < 64) && e.wf
  | .auth p e => decide (p < 64) && e.wf
  | .wagRead p e => decide (p < 64) && e.wf
  | .wagWrite p e => decide (p < 64) && e.wf
  | .wagOpen p e => decide (p < 64) && e.wf
  | .wagClose p e => decide (p < 64) && e.wf
  | .leaseAcquire p e => decide (p < 64) && e.wf
  | .leaseRelease p e => decide (p < 64) && e.wf
  | .leaseTakeOver p e => decide (p < 64) && e.wf
  | .bye p e => decide (p < 64) && e.wf
  | .wagAttest p e => decide (p < 64) && e.wf
  | .ack p e => decide (p < 64) && e.wf
  | .goback p e => decide (p < 64) && e.wf
  | .packetSend p id err => decide (p < 64) && decide (id < 256) && decide (err < 2)
  | .retransmitTimeout p id => decide (p < 64) && decide (id < 256)
  | .keepaliveAck p => decide (p < 64)
  | .absentTimeout p => decide (p < 64)
  | .absentHoldEnd p => decide (p < 64)
  | .resumeExpiry p => decide (p < 64)
  | .leaseExpiry i => decide (i < 9)
  | .authTimeout p => decide (p < 64)
  | .snapshotClaimTimeout p id => decide (p < 64) && decide (id < 256)
  | .linkChange p _ => decide (p < 64)
  | .portEnWrite a p v => a.wf && decide (p < 64) && decide (v < 2 ^ 32)
  | .portReopen a p v => a.wf && decide (p < 64) && decide (v < 2 ^ 32)
  | .groupCfgWrite a g v => a.wf && decide (g < 16) && decide (v < 2 ^ 32)
  | .viewClear a v => a.wf && decide (v < 2 ^ 32)
  | .windowEvent w k _ phase => decide (w < 24) && decide (k < 2) && decide (phase < 65536)
  | .winCfgWrite a w _ v => a.wf && decide (w < 24) && decide (v < 2 ^ 32)
  | .windowSettled w => decide (w < 24)
  | .rbGo a v => a.wf && decide (v < 2 ^ 32)
  | .winRbDone raw => decide (raw.length = 512) && below 65536 raw
  | .mcvPass => true
  | .mcvConversionComplete vals => below 65536 vals
  | .mcvInject a v => a.wf && decide (v < 2 ^ 32)
  | .mcvInjDone vals => below 65536 vals
  | .mcvPop a v => a.wf && decide (v < 2 ^ 32)
  | .mcvCal a v => a.wf && decide (v < 2 ^ 32)
  | .mcvCalDone _ _ => true
  | .injDisable a v => a.wf && decide (v < 2 ^ 32)
  | .proCommit a v => a.wf && decide (v < 2 ^ 32)
  | .proCommitApply => true
  | .compositionStart => true
  | .compositionComplete => true
  | .displayFrameStart _ => true
  | .teEdge => true
  | .proTeLost => true
  | .flipCountRead a => a.wf
  | .overlayWrite a addr v => a.wf && decide (0x8000 ≤ addr ∧ addr < 0x10000 ∧ addr % 4 = 0) && decide (v < 2 ^ 32)
  | .tokenSubmit a v => a.wf && decide (v < 2 ^ 32)
  | .tokKeyPass _ => true
  | .tokAdopt _ => true
  | .tokEnrol _ => true
  | .tokRevoke _ => true
  | .tokAuditAck _ => true
  | .tokRelease _ => true
  | .tokService _ => true
  | .tokServiceEnd _ => true
  | .attestGo a v => a.wf && decide (v < 2 ^ 32)
  | .attestationSigned => true
  | .manifestClose => true
  | .manifestSigned => true
  | .signTimeout => true
  | .knownAnswerTest failed => decide (failed.getD 0 < 2 ^ 16)
  | .exportGo a v => a.wf && decide (v < 2 ^ 32)
  | .exportReady => true
  | .pselChange v => decide (v < 8)
  | .profileSwitchRequest a v => a.wf && decide (v < 2 ^ 32)
  | .prfSwitch => true
  | .idleDarkTimeout => true
  | .stageCheck a v => a.wf && decide (v < 2 ^ 32)
  | .prfStaged _ _ => true
  | .adoptionStart => true
  | .adoptionRereadDone _ _ => true
  | .darkRequest a v => a.wf && decide (v < 2 ^ 32)
  | .darkEntry => true
  | .wakePin _ => true
  | .wakeAlarm => true
  | .sysWakeWrite v => decide (v < 2 ^ 32)
  | .wake => true
  | .i3cPrivateWrite da bytes _ => decide (da < 128) && below 256 bytes
  | .i3cPrivateRead da _ => decide (da < 128)
  | .hdrWrite da bytes _ => decide (da < 128) && below 256 bytes
  | .hdrRead da _ => decide (da < 128)
  | .enec da bits => da.all (fun d => decide (d < 128)) && decide (bits < 256)
  | .disec da bits => da.all (fun d => decide (d < 128)) && decide (bits < 256)
  | .rstdaa => true
  | .entdaa da => decide (da < 128)
  | .setdasa st da => decide (st < 128) && decide (da < 128)
  | .setnewda old da => decide (old < 128) && decide (da < 128)
  | .getpid da => decide (da < 128)
  | .getbcr da => decide (da < 128)
  | .getdcr da => decide (da < 128)
  | .getstatus da => decide (da < 128)
  | .setmwl da len => da.all (fun d => decide (d < 128)) && decide (len < 65536)
  | .setmrl da len => da.all (fun d => decide (d < 128)) && decide (len < 65536)
  | .getmwl da => decide (da < 128)
  | .getmrl da => decide (da < 128)
  | .getmxds da => decide (da < 128)
  | .enthdr0 => true
  | .hotJoin => true
  | .ibiRequest _ => true
  | .authNonce a v => a.wf && decide (v < 2 ^ 32)
  | .authGo a v => a.wf && decide (v < 2 ^ 32)
  | .authLogout a v => a.wf && decide (v < 2 ^ 32)
  | .authIdleTimeout => true
  | .flashOpen a v => a.wf && decide (v < 2 ^ 32)
  | .flashClose a v => a.wf && decide (v < 2 ^ 32)
  | .flashRead a v => a.wf && decide (v < 2 ^ 32)
  | .flashProgram a v => a.wf && decide (v < 2 ^ 32)
  | .flashErase4k a v => a.wf && decide (v < 2 ^ 32)
  | .flashErase64k a v => a.wf && decide (v < 2 ^ 32)
  | .flashOpComplete _ left => below 256 left
  | .jtagExtest => true
  | .jtagIdcode => true
  | .jtagSamplePreload => true
  | .jtagExtestPulse => true
  | .jtagExtestTrain => true
  | .jtagHighz => true
  | .jtagClamp => true
  | .jtagBypass ir => decide (ir < 256)
  | .comparatorResolves w k _ => decide (w < 24) && decide (k < 2)
  | .resultPathTaken c => decide (c < 192)
  | .jtagTapReset => true
  | .domainStartUpTimer => true

end Sys2Proof
end

