-- ==== Sys2Proof/Tests/Slice0.lean ====
section
/-! SUPPORT. Small tests: ill-formed commands that the checks refuse, the spec's worked examples, and for every statement with
hypotheses a witness, clause by clause, of states and operands that meet them. -/

namespace Sys2Proof.Tests

set_option Elab.async false

open Sys2Proof Sys2Proof.Machine

/-! ### Ill-formed commands -/

/-- A well-formed frame. -/
def f0 : EthFrame := ⟨true, 0, 0, none, 0x88B5, []⟩

/-- An ill-formed one: a byte of 256. -/
def fBad : EthFrame := { f0 with bytes := [256] }

/-- The 64 windows of seven raw codes of a handover. -/
def ws64 : List (List Nat) := List.replicate 64 (List.replicate 7 0)

theorem test_wf_1 : ([
    .registerWrite (.port 64) 0 0, .registerWrite .i3c (2 ^ 32) 0, .registerWrite .i3c 0 (2 ^ 32), .powerOn true 8 true,
    .resetRelease 8 true, .startUp (2 ^ 16) 0 0 true true 0 0 0, .startUp 0 (2 ^ 32) 0 true true 0 0 0,
    .startUp 0 0 (2 ^ 32) true true 0 0 0, .startUp 0 0 0 true true (2 ^ 32) 0 0, .startUp 0 0 0 true true 0 (2 ^ 32) 0,
    .startUp 0 0 0 true true 0 0 (2 ^ 32), .internalFault (2 ^ 16) 0 0, .internalFault 0 (2 ^ 32) 0,
    .internalFault 0 0 (2 ^ 32), .thermalTrip 16 0, .thermalTrip 0 32768, .vddioSample 3,
    .sclkMeasurementWindow (2 ^ 32), .correctedSample 8 0 (List.replicate 7 0), .correctedSample 0 0 [],
    .correctedSample 0 0 (List.replicate 7 4096), .primingComplete 8, .adcCommit (.port 64) 0 0, .adcCommit .i3c 8 0] : List Instr).all (fun i => !i.wf) = true := by decide +kernel

theorem test_wf_2 : ([
    .adcCommit .i3c 0 (2 ^ 32), .rangeChange 8, .modeWrite (.port 64) 0, .modeWrite .i3c (2 ^ 32),
    .calPassReq (.port 64) 0, .calPassReq .i3c (2 ^ 32), .passOverdue 8, .calPassStart 8, .referenceCheckRetry 9,
    .staticCalComplete 8 0 (List.replicate 8 0) (List.replicate 8 0) (List.replicate 8 0) 0,
    .staticCalComplete 0 17 (List.replicate 8 0) (List.replicate 8 0) (List.replicate 8 0) 0,
    .staticCalComplete 0 0 [] (List.replicate 8 0) (List.replicate 8 0) 0,
    .staticCalComplete 0 0 (List.replicate 8 0) [] (List.replicate 8 0) 0,
    .staticCalComplete 0 0 (List.replicate 8 0) (List.replicate 8 0) [] 0, .handover 8 ws64 (List.replicate 64 0),
    .handover 0 [] (List.replicate 64 0), .handover 0 ws64 [], .handover 0 ws64 (List.replicate 64 4096),
    .bgWindowComplete 8 1 [] [], .calOverdueSet 8, .certCommit (.port 64) 0, .certCommit .i3c (2 ^ 32),
    .rangeCheckReq (.port 64) 0, .rangeCheckReq .i3c (2 ^ 32)] : List Instr).all (fun i => !i.wf) = true := by decide +kernel

theorem test_wf_3 : ([
    .rangeCheckComplete 8 0 0, .rangeCheckComplete 0 4 0, .rangeCheckComplete 0 0 (2 ^ 32),
    .refinMeasurement (2 ^ 32) 0, .refinMeasurement 0 (2 ^ 32), .pllLockWindow 6 0 0, .pllLockTimeout 6,
    .clkCommit (.port 64) 0, .clkCommit .i3c (2 ^ 32), .tbSetArm (.port 64) 0, .tbSetArm .i3c (2 ^ 32),
    .tbSetDisarm (.port 64) 0, .tbSetDisarm .i3c (2 ^ 32), .tbNowRead (.port 64), .marker (2 ^ 80),
    .edgeSelect (.port 64) 0 0, .edgeSelect .i3c 64 0, .edgeSelect .i3c 0 (2 ^ 32), .stampEdge 40 true 0,
    .stampEdge 0 true 65536, .vernierConversion 64 0, .vernierConversion 0 16, .spillMove 65, .curveTestGo (.port 64) 0] : List Instr).all (fun i => !i.wf) = true := by decide +kernel

theorem test_wf_4 : ([
    .curveTestGo .i3c (2 ^ 32), .curveTestComplete 65 (List.replicate 256 0), .curveTestComplete 0 [],
    .curveTestComplete 0 (List.replicate 256 4194305), .vernierLockMeasurement 65 0 0, .vernierLockMeasurement 0 2 0,
    .vernierLockTimeout 65 0, .vernierLockTimeout 0 2, .darkStamp 40 true, .sequencerEvent 8, .sequencerTimerExpiry 8 0,
    .sequencerTimerExpiry 0 4, .holdoffEnd 8, .channelRearm 8, .trgCommit (.port 64) 0 0, .trgCommit .i3c 8 0,
    .trgCommit .i3c 0 (2 ^ 32), .trgSettingsApply 8, .trgRearm (.port 64) 0 0, .trgRearm .i3c 8 0,
    .trgRearm .i3c 0 (2 ^ 32), .trgForce (.port 64) 0 0, .trgForce .i3c 8 0, .trgForce .i3c 0 (2 ^ 32)] : List Instr).all (fun i => !i.wf) = true := by decide +kernel

theorem test_wf_5 : ([
    .trgCmd (.port 64) 0 0, .trgCmd .i3c 8 0, .trgCmd .i3c 0 (2 ^ 32), .trgoutCtlWrite (.port 64) 0 0,
    .trgoutCtlWrite .i3c 4 0, .trgoutCtlWrite .i3c 0 (2 ^ 32), .trgoutPulseEnd 4, .trgCurveLearn (.port 64) 0,
    .trgCurveLearn .i3c (2 ^ 32), .capStart (.port 64) 0, .capStart .i3c (2 ^ 32), .capStop (.port 64) 0,
    .capStop .i3c (2 ^ 32), .capAbort (.port 64) 0, .capAbort .i3c (2 ^ 32), .frameEnd 8, .frameClosed 8,
    .qdrSlotGrant 3, .capRelease (.port 64) 0, .capRelease .i3c (2 ^ 32), .poolLowReset (.port 64) 0,
    .poolLowReset .i3c (2 ^ 32), .accSnapStk (.port 64) 0 0, .accSnapStk .i3c 8 0] : List Instr).all (fun i => !i.wf) = true := by decide +kernel

theorem test_wf_6 : ([
    .accSnapStk .i3c 0 (2 ^ 32), .accSnapMap (.port 64) 0 0, .accSnapMap .i3c 8 0, .accSnapMap .i3c 0 (2 ^ 32),
    .accClearStk (.port 64) 0 0, .accClearStk .i3c 8 0, .accClearStk .i3c 0 (2 ^ 32), .accClearMap (.port 64) 0 0,
    .accClearMap .i3c 8 0, .accClearMap .i3c 0 (2 ^ 32), .snapshotPeriod 8, .accSnapshot 8 0, .accSnapshot 0 2,
    .stackMerge 8, .tileMerge 8, .decayStep 8, .cmbLoad (.port 64) 0 0, .cmbLoad .i3c 192 0, .cmbLoad .i3c 0 (2 ^ 32),
    .cellLoadComplete 192, .cmbRun (.port 64) 0 0, .cmbRun .i3c 192 0, .cmbRun .i3c 0 (2 ^ 32), .cmbHalt (.port 64) 0 0] : List Instr).all (fun i => !i.wf) = true := by decide +kernel

theorem test_wf_7 : ([
    .cmbHalt .i3c 192 0, .cmbHalt .i3c 0 (2 ^ 32), .cmbUnload (.port 64) 0 0, .cmbUnload .i3c 192 0,
    .cmbUnload .i3c 0 (2 ^ 32), .cmbGroupRun (.port 64) 0, .cmbGroupRun .i3c (2 ^ 32), .cmbGroupHalt (.port 64) 0,
    .cmbGroupHalt .i3c (2 ^ 32), .parameterWrite (.port 64) 0 0, .parameterWrite .i3c 64 0,
    .parameterWrite .i3c 0 (2 ^ 32), .bufferReady 192 0 0, .stampsFlush 192 0, .dmaComplete 192 0, .cellMove 192,
    .cellClr 192, .cellAdd 192, .cellSub 192, .cellNeg 192, .cellAbs 192, .cellMax 192, .cellMin 192, .cellCmp 192] : List Instr).all (fun i => !i.wf) = true := by decide +kernel

theorem test_wf_8 : ([
    .cellAnd 192, .cellOr 192, .cellXor 192, .cellAsl 192, .cellAsr 192, .cellLsr 192, .cellCls 192, .cellDiv 192,
    .cellSqrt 192, .cellMul 192, .cellMla 192, .cellMls 192, .cellMlah 192, .cellDmul 192, .cellDmla 192, .cellDmls 192,
    .cellDsum 192, .cellDdif 192, .cellLdi 192, .cellAddi 192, .cellCmpi 192, .cellAndi 192, .cellSeta 192,
    .cellAdda 192] : List Instr).all (fun i => !i.wf) = true := by decide +kernel

theorem test_wf_9 : ([
    .cellSetb 192, .cellSetw 192, .cellSets 192, .cellMva 192, .cellMvd 192, .cellMvc 192, .cellMcv 192, .cellSetsh 192,
    .cellNop 192, .cellBra 192, .cellCall 192, .cellRet 192, .cellLoop 192, .cellLoopr 192, .cellRpt 192,
    .cellLeave 192, .cellHalt 192, .cellTrap 192, .cellClrf 192, .cellIn 192, .cellFree 192, .cellOpen 192,
    .cellOut 192, .cellClose 192] : List Instr).all (fun i => !i.wf) = true := by decide +kernel

theorem test_wf_10 : ([
    .cellDma 192, .cellDwait 192, .cellEvent 192, .writeDrain 4, .ddrReadComplete 4 [] 0, .ddrReadComplete 0 [] 3,
    .archTrim (.port 64) 0, .archTrim .i3c (2 ^ 32), .grainWrite (.port 64) 0, .grainWrite .i3c (2 ^ 32),
    .archRegionWrite (.port 64) 0 0, .archRegionWrite .i3c 3 0, .archRegionWrite .i3c 0 (2 ^ 32), .frameReceived 64 f0,
    .frameReceived 0 fBad, .hello 64 f0, .hello 0 fBad, .auth 64 f0, .auth 0 fBad, .wagRead 64 f0, .wagRead 0 fBad,
    .wagWrite 64 f0, .wagWrite 0 fBad, .wagOpen 64 f0] : List Instr).all (fun i => !i.wf) = true := by decide +kernel

theorem test_wf_11 : ([
    .wagOpen 0 fBad, .wagClose 64 f0, .wagClose 0 fBad, .leaseAcquire 64 f0, .leaseAcquire 0 fBad, .leaseRelease 64 f0,
    .leaseRelease 0 fBad, .leaseTakeOver 64 f0, .leaseTakeOver 0 fBad, .bye 64 f0, .bye 0 fBad, .wagAttest 64 f0,
    .wagAttest 0 fBad, .ack 64 f0, .ack 0 fBad, .goback 64 f0, .goback 0 fBad, .packetSend 64 0 0, .packetSend 0 256 0,
    .retransmitTimeout 64 0, .retransmitTimeout 0 256, .keepaliveAck 64, .absentTimeout 64, .absentHoldEnd 64] : List Instr).all (fun i => !i.wf) = true := by decide +kernel

theorem test_wf_12 : ([
    .resumeExpiry 64, .leaseExpiry 9, .authTimeout 64, .snapshotClaimTimeout 64 0, .snapshotClaimTimeout 0 256,
    .linkChange 64 true, .portEnWrite (.port 64) 0 0, .portEnWrite .i3c 64 0, .portEnWrite .i3c 0 (2 ^ 32),
    .portReopen (.port 64) 0 0, .portReopen .i3c 64 0, .portReopen .i3c 0 (2 ^ 32), .groupCfgWrite (.port 64) 0 0,
    .groupCfgWrite .i3c 16 0, .groupCfgWrite .i3c 0 (2 ^ 32), .viewClear (.port 64) 0, .viewClear .i3c (2 ^ 32),
    .windowEvent 24 0 0 0, .windowEvent 0 2 0 0, .windowEvent 0 0 0 65536, .winCfgWrite (.port 64) 0 true 0,
    .winCfgWrite .i3c 24 true 0, .winCfgWrite .i3c 0 true (2 ^ 32), .windowSettled 24] : List Instr).all (fun i => !i.wf) = true := by decide +kernel

theorem test_wf_13 : ([
    .rbGo (.port 64) 0, .rbGo .i3c (2 ^ 32), .winRbDone [], .winRbDone (List.replicate 512 65536),
    .mcvConversionComplete [65536], .mcvInject (.port 64) 0, .mcvInject .i3c (2 ^ 32), .mcvInjDone [65536],
    .mcvPop (.port 64) 0, .mcvPop .i3c (2 ^ 32), .mcvCal (.port 64) 0, .mcvCal .i3c (2 ^ 32), .injDisable (.port 64) 0,
    .injDisable .i3c (2 ^ 32), .proCommit (.port 64) 0, .proCommit .i3c (2 ^ 32), .flipCountRead (.port 64),
    .overlayWrite (.port 64) 0x8000 0, .overlayWrite .i3c 0x1002 0, .overlayWrite .i3c 0x8000 (2 ^ 32),
    .tokenSubmit (.port 64) 0, .tokenSubmit .i3c (2 ^ 32), .attestGo (.port 64) 0, .attestGo .i3c (2 ^ 32)] : List Instr).all (fun i => !i.wf) = true := by decide +kernel

theorem test_wf_14 : ([
    .knownAnswerTest (some (2 ^ 16)), .exportGo (.port 64) 0, .exportGo .i3c (2 ^ 32), .pselChange 8,
    .profileSwitchRequest (.port 64) 0, .profileSwitchRequest .i3c (2 ^ 32), .stageCheck (.port 64) 0,
    .stageCheck .i3c (2 ^ 32), .darkRequest (.port 64) 0, .darkRequest .i3c (2 ^ 32), .sysWakeWrite (2 ^ 32),
    .i3cPrivateWrite 128 [] none, .i3cPrivateWrite 0 [256] none, .i3cPrivateRead 128 0, .hdrWrite 128 [] none,
    .hdrWrite 0 [256] none, .hdrRead 128 0, .enec (some 128) 0, .enec none 256, .disec (some 128) 0, .disec none 256,
    .entdaa 128, .setdasa 128 0, .setdasa 0 128] : List Instr).all (fun i => !i.wf) = true := by decide +kernel

theorem test_wf_15 : ([
    .setnewda 128 0, .setnewda 0 128, .getpid 128, .getbcr 128, .getdcr 128, .getstatus 128, .setmwl (some 128) 0,
    .setmwl none 65536, .setmrl (some 128) 0, .setmrl none 65536, .getmwl 128, .getmrl 128, .getmxds 128,
    .authNonce (.port 64) 0, .authNonce .i3c (2 ^ 32), .authGo (.port 64) 0, .authGo .i3c (2 ^ 32),
    .authLogout (.port 64) 0, .authLogout .i3c (2 ^ 32), .flashOpen (.port 64) 0, .flashOpen .i3c (2 ^ 32),
    .flashClose (.port 64) 0, .flashClose .i3c (2 ^ 32), .flashRead (.port 64) 0] : List Instr).all (fun i => !i.wf) = true := by decide +kernel

theorem test_wf_16 : ([
    .flashRead .i3c (2 ^ 32), .flashProgram (.port 64) 0, .flashProgram .i3c (2 ^ 32), .flashErase4k (.port 64) 0,
    .flashErase4k .i3c (2 ^ 32), .flashErase64k (.port 64) 0, .flashErase64k .i3c (2 ^ 32), .flashOpComplete true [256],
    .jtagBypass 256, .comparatorResolves 24 0 0, .comparatorResolves 0 2 0, .resultPathTaken 192,
    .handover 0 (List.replicate 64 []) (List.replicate 64 0),
    .handover 0 (List.replicate 64 [4096, 0, 0, 0, 0, 0, 0]) (List.replicate 64 0),
    .bgWindowComplete 0 1 [([], [[0]])] [], .mr4Poll true (some (4, 0)) true, .dqsTrack (some (4, 0)) true,
    .dqsTrack (some (0, 2)) true, .ddrReadComplete 0 [(4, 0, 0)] 0, .hello 0 { f0 with dst := 2 ^ 48 },
    .hello 0 { f0 with src := 2 ^ 48 }, .hello 0 { f0 with vid := some 4096 }, .hello 0 { f0 with etherType := 2 ^ 16 }] : List Instr).all (fun i => !i.wf) = true := by decide +kernel

theorem test_wf_good : ([.powerOn true 7 true, .hello 63 f0, .handover 7 ws64 (List.replicate 64 4095), .registerWrite (.port 63) 0 (2 ^ 32 - 1)]
    : List Instr).all Instr.wf = true := by decide +kernel

theorem test_decode_none : decodeTableWord 16 5 = none := by decide

/-! ### The device that most tests start from -/

/-- An IDLE device with its clocks, its time base and its slice clock running, and an installer at the I3C target. -/
def w0 : State :=
  let s := (((State.reset.wr SYS.STATE.STATE devIdle).put ADC.SCLK.OK true).put CLK.REF.OK true)
  let s := ((s.put (CLK.PLLn_STATUS.LOCKED 0) true).put I3C.STATUS.AUTH true).wr I3C.STATUS.ROLE 2
  { s with now := 10 ^ 13, tb := 2 ^ 60, clk := { tbRuns := true }, i3c := { rights := 255 } }

/-! ### The spec's worked examples -/

/-- A running cell whose every word is `w`, changed by `f`. -/
def cellOf (w : Nat) (f : Cell → Cell) : State :=
  (w0.wr (CMB.CELLc.STATE 190) cellRunning).modCell 190 (fun _ => f { p := List.replicate 8 w, pc := 3 })

/-- The state a command leaves. -/
def after (i : Instr) (s : State) : State := match exec i s with
  | .next t => t
  | _ => s

/-- The eight samples of the example under R65. -/
theorem test_raw12 : packRaw12 ([291, -1, 0, 2047, -2048, 1, 171, -256].map (ofSigned 12))
    = [0x23, 0xF1, 0xFF, 0x00, 0xF0, 0x7F, 0x00, 0x18, 0x00, 0xAB, 0x00, 0xF0] := by decide +kernel

/-- The keepers of the examples under R144 (R = 125) and R527 (R = 12.5). -/
theorem test_keeper : w0.overR 250000000000 = 2000000000
    ∧ (w0.put CLK.REF.FREQ_SEL true).overR 1250000000000 = 100000000000 := by decide +kernel

/-- TB.SCLK_REF.RATIO of the example under R148: SCLK 8.0 GHz, 1.25 tick per slice clock; 32 samples of M4 to a slice clock. -/
theorem test_ratio : ((w0.wr ADC.MODE.ACTIVE 1).wr ADC.SCLK.FREQ_KHZ 8000000).rhoNow = 0x50000000
    ∧ (w0.wr ADC.MODE.ACTIVE 1).posPerSc = 32 := by decide +kernel

/-- Archive record 70,000 of the example under R354, two ranks and a grain of 4 KB: subchannel 2, address 0x98_B000 in it, bank group
3, bank 1, rank 0, row 38; and its index entry (under R375). -/
def dram2 : State := ((w0.put DRM.CFG.RANKS true).wr DRM.MAP.GRAIN 12).wr DRM.ARCH_CFG.IDX_PAGES 64
@[inherit_doc dram2] theorem test_dram : dram2.subOf 0x0262E000 = 2 ∧ dram2.inSub 0x0262E000 = 0x0098B000
    ∧ dram2.bankOf 0x0262E000 = 3 + 8 * 1 ∧ dram2.rowOf 0x0262E000 = 38 ∧ dram2.indexAddr 70000 = 0x00222E00 := by decide +kernel

/-- Two channels of raw12 in M8 at 10 GHz reserve 50 positions of Q0, eight reserve 200 (R221, and the examples under R30 and R244). -/
def keep8 : State := (List.range 8).foldl (fun s n => s.put (CAP.CHn_CFG.KEEP n) true) (w0.wr ADC.SCLK.FREQ_KHZ 10000000)
@[inherit_doc keep8] theorem test_reservation : reservation (keep8.demand [2, 5]) = 50
    ∧ reservation (keep8.demand (List.range 8)) = 200 := by decide +kernel

/-- Point 300 of the stack of the example under R291, in format 0x06. -/
theorem test_stack_point : (({ sum := [(0, 3195392)], sq := [(0, 2492842048)] } : AccCh).points true 1)
    = [0x00, 0xC2, 0x30, 0x00, 0x00, 0x00, 0x00, 0x00, 0x40, 0xC0, 0x95, 0x94, 0x00, 0x00, 0x00, 0x00] := by decide +kernel

/-- The two encodings of the examples under R324: the pair multiply-accumulate with both moves, and the shift. -/
theorem test_dmla : let x := (after (.cellDmla 190) (cellOf 0x210624440444 (fun x => { x with
      d := [3, 4, 0, 0, 0, 0, 5, 0], a := [100, 200, 0, 0], cur := [10, 0, 0, 0, 20, 0, 0, 0], x := [(10, 77)], y := [(20, 88)] }))).cell 190
    (x.a, x.d, x.cur.map curAddr, x.pc) = ([115, 216, 0, 0], [77, 88, 0, 0, 0, 0, 5, 0], [11, 0, 0, 0, 21, 0, 0, 0], 4) := by decide +kernel
@[inherit_doc test_dmla] theorem test_asl : let x := (after (.cellAsl 190) (cellOf 0x030C94E10000 (fun x => { x with a := [5, 3, 0, 0] }))).cell 190
    (x.a, x.d.getD 4 0) = ([5, 3072, 0, 0], 5) := by decide +kernel

/-- SHA-256 of "abc", the first example of FIPS 180-4. -/
theorem test_sha256 : sha256 [0x61, 0x62, 0x63]
    = beBytes 32 0xba7816bf8f01cfea414140de5dae2223b00361a396177a9cb410ff61f20015ad := by decide +kernel

/-! ### Tools of the witnesses -/

/-- An accepted write at the I3C target, by evaluation. -/
theorem accepts {s : State} {addr v : Nat} (h : v < 2 ^ 32 ∧ s.judge .i3c addr v (s.written .i3c addr v) = none) :
    Accepts s .i3c addr v := ⟨h.1, (fun _ e => nomatch e), h.2⟩

/-- Every register store and memory of a state is canonical, by evaluation. -/
theorem canonical_of {s : State} (h : (SMap.wf 0 s.regs && Memory.wf 0xFF s.flash && Memory.wf 0 s.cap.mem && Memory.wf 0 s.arc.mem
    && Memory.wf 0 s.sec.aperture && Memory.wf 0 s.i3c.flashBuf && Memory.wf 0 s.pro.ovlA && Memory.wf 0 s.pro.ovlB) = true) :
    s.canonical := by simpa [State.canonical, and_assoc] using h

/-- A state with the parts of the device at reset and canonical stores is sound. -/
def soundB (s : State) : Bool :=
  SMap.wf 0 s.regs && Memory.wf 0xFF s.flash && Memory.wf 0 s.cap.mem && Memory.wf 0 s.arc.mem && Memory.wf 0 s.sec.aperture
    && Memory.wf 0 s.i3c.flashBuf && Memory.wf 0 s.pro.ovlA && Memory.wf 0 s.pro.ovlB
    && s.ports.length == 64 && s.leases.length == 9 && s.cal.ch.length == 8 && s.cap.ch.length == 8 && s.fil.length == 8
    && s.trg.ch.length == 8 && s.acc.length == 8 && s.tdc.ins.length == 65 && s.cmb.cells.length == 192 && s.arc.subs.length == 4
    && [s.led.instRing, s.led.makerRing, s.led.rollbackRing, s.led.rollRing, s.led.manRing].all (fun r => r.slots.length == 64)
    && decide (s.events.length ≤ 1024) && decide (s.oplog.length ≤ 4096) && decide (s.led.audit.length ≤ 16384)
    && decide (s.sec.signed.length ≤ 256)

@[inherit_doc soundB] theorem sound_of {s : State} (h : soundB s = true) : s.sound := by
  simp only [soundB, Bool.and_eq_true, beq_iff_eq, decide_eq_true_eq, List.all_eq_true] at h
  simp only [State.sound, State.canonical, State.peopled, State.ringsFit]
  obtain ⟨⟨⟨⟨⟨⟨⟨⟨⟨⟨⟨⟨⟨⟨⟨⟨⟨⟨⟨⟨⟨⟨h1, h2⟩, h3⟩, h4⟩, h5⟩, h6⟩, h7⟩, h8⟩, h9⟩, h10⟩, h11⟩, h12⟩, h13⟩, h14⟩, h15⟩, h16⟩, h17⟩, h18⟩, h19⟩, h20⟩,
    h21⟩, h22⟩, h23⟩ := h
  exact ⟨⟨h1, h2, h3, h4, h5, h6, h7, h8⟩, ⟨h9, h10, h11, h12, h13, h14, h15, h16, h17, h18, h19⟩, h20, h21, h22, h23⟩

/-- A sound state and what else is decided of it, by one evaluation. -/
theorem both {s : State} {P : Prop} [Decidable P] (h : (soundB s && decide P) = true) : s.sound ∧ P :=
  ⟨sound_of (Bool.and_eq_true_iff.mp h).1, of_decide_eq_true (Bool.and_eq_true_iff.mp h).2⟩

/-- No channel has a stop ahead of it, by evaluation. -/
theorem stops_of {s : State} (h : s.cap.ch.all (fun c => c.stopAt.isNone) = true) : ∀ n, (s.cch n).stopAt = none := by
  intro n
  rw [List.all_eq_true] at h
  rw [State.cch, List.getD_eq_getElem?_getD]
  cases e : s.cap.ch[n]? with
  | none => rfl
  | some c => exact Option.isNone_iff_eq_none.mp (h c (List.mem_of_getElem? e))

/-- What holds of what an option holds, by evaluation. -/
theorem some_of {α : Type} {o : Option α} {P : α → Prop} [∀ a, Decidable (P a)]
    (h : o.all (fun a => decide (P a)) = true) : ∀ a, o = some a → P a := by
  intro a e; subst e; simpa using h

/-- Nothing is under way on a channel, by evaluation. -/
def quietB (s : State) (n : Nat) : Bool :=
  (s.cch n).openF.isNone && (s.cch n).liveF.isNone && (s.tch n).queue.isEmpty && (s.tch n).det.wait.isNone
    && (s.tch n).timers.all (fun x => !x.on) && s.tdc.ins.all (fun x => x.cells.all (fun r => r.sent))
    && !s.accOn n 0 && !s.accOn n 1

@[inherit_doc quietB] theorem quiet_of {s : State} {n : Nat} (h : quietB s n = true) : s.quiet n := by
  simpa [quietB, State.quiet, and_assoc] using h

@[inherit_doc quietB] theorem quiets_of {s : State} {l : List Nat} (h : l.all (quietB s) = true) : ∀ n, n ∈ l → s.quiet n :=
  fun n m => quiet_of (List.all_eq_true.mp h n m)

/-! ### The states of the witnesses -/

def w1 : State := ((w0.put (TRG.CHn_STATUS.HOLDOFF 7) true).modTrg 7 (fun c => { c with hold := { kind := 3 } }))
def w2 : State := (((w0.wr SYS.STATE.STATE devActive).wr (CAP.CHn_STATUS.STATE 7) chArmed).put (CAP.CHn_STATUS.IN_ROLL 7) true)
def w3 : State := w2.put CAP.ROLL_STATUS.OPEN true
def w3g : State := (w0.wr SYS.STATE.STATE devActive).wr (CAP.CHn_STATUS.STATE 7) chPriming
def fr0 : Frame := { state := 2, retain := true, samples := 100 }
def w4 : State := { w0 with cap := { w0.cap with tabA := [fr0, { fr0 with holders := [.stream 5 1] }] } }
def w5 : State := (w0.put (ACC.CHn_STK_CFG.EN 7) true).put (ACC.CHn_MAP_CFG.EN 7) true
def w6 : State := w5.modCap 7 (fun c => { c with openF := some {} })
def w7 : State := w5.modAcc 7 (fun c => { c with inForce := SMap.set 0 (SMap.set 0 [] (ACC.CHn_STK_CFG.EN 7).key 1) (ACC.CHn_MAP_CFG.EN 7).key 1, stk := { any := true }, map := { any := true } }) |>.wr (ACC.CHn_STK_STATUS.STATE 7) 1 |>.wr (CAP.CHn_STATUS.STATE 7) 2
def wc (st : Nat) : State := { w0 with cmb := { w0.cmb with progs := [[1]] } }.wr (CMB.CELLc.STATE 190) st
def w8 : State := (wc 2).modCell 190 (fun x => { x with dma := [⟨0, [], false, 0, false⟩] })
def im1 : Image := { device := { width := 64, height := 64 } }
def w9 : State := (w0.wr I3C.WIN_SEL.REGION 9).wr CMB.VIEW.CELL 190
def w10 : State := { w0 with image := some im1, pro := { w0.pro with inForce := SMap.set 0 [] PRO.OVL.SHOW.key 1 } }.wr I3C.WIN_SEL.REGION 11
def w11 : State := { w0 with arc := { w0.arc with recs := [⟨3, 0, 100, 0, 0, 0, 0, 0, 1, []⟩, ⟨4, 100, 100, 0, 0, 0, 0, 0, 1, []⟩] } }.wr DRM.ARCH_SIZE.PAGES 1024 |>.wr DRM.CFG.CAPACITY_GB 16
def wp (p : Nat) : State :=
  let s := ((w0.put (HPT.Pp_CTL.EN p) true).put (HPT.Pp_STATUS.LINK p) true).wr (HPT.Pp_STATUS.STATE p) sesOpen
  s.modPort p (fun q => { q with rights := 255, role := 2, quotaMb := 4, streams := [{ id := 0, kind := 0, param := [] }] })
def alt1 : State := (wp 63).modPort 63 (fun q => { q with stats := List.replicate 16 7 })
def q5 : InjReq := ⟨0, 0, 0, 5, false, false⟩
def w12 : State := { w0 with mon := { w0.mon with queue := [q5], results := [⟨q5, false, false, 0, []⟩, ⟨q5, false, false, 0, []⟩] } }
def w13 : State := ({ w12 with mon := { w12.mon with queue := [q5, q5] } }.put MCV.CFG.INJ_EN true)
def alt2 : State := { w0 with pro := { w0.pro with flip := 2 ^ 70 + 12345 } }
def tokBytes : Memory := [(0, 0xAC), (1, 0xF5), (2, 1), (3, 9), (4, 0xC8), (5, 0x1E), (0x10, 1), (0x14, 2)]
def w14 : State := { w0 with sec := { w0.sec with aperture := tokBytes } }
def alt3 : Token := ⟨9, 2, 1, [], .i3c⟩
def alt4 : State := { w14 with sec := { w14.sec with token := some ⟨9, 2, 1, [], .i3c⟩ } }
def pr3 : Profile := { number := 3, acqMode := 1, allowed := 255 }
def im2 : Image := { profiles := [{ number := 0 }, pr3] }
def w15 : State := { w0 with image := some im2 }.put PRF.SOURCE.SOURCE true
def alt5 : State := { w15 with prf := { w15.prf with adopting := 1 } }
def alt6 : State := { w0 with sec := { w0.sec with leaves := [⟨1, []⟩] } }
def alt7 : State := { w0 with i3c := { w0.i3c with backoffUntil := 10 ^ 13 + 1 } }
def mac0 : List Nat := hmac [1] (ascii "WAGGLE-I" ++ leBytes 8 0 ++ leBytes 4 0 ++ State.reset.words8 I3C.AUTH_NONCEk.WORD)
def w16 : State := (List.range 8).foldl (fun s k => s.wr (I3C.AUTH_MACk.WORD k) (le mac0 (4 * k) 4))
  { w0 with i3c := { w0.i3c with nonceLive := true, backoffS := 8 }, led := { w0.led with hosts := [⟨0, 2, 7, 0, 4, [1]⟩] } }
def alt8 : HostKey := ⟨0, 2, 7, 0, 4, [1]⟩
def w17 : State := ((((w0.wr I3C.FLASH_RANGE.LAST 3).wr PRF.FLASH.SIZE_MB 4).wr I3C.FLASH_LEN.BYTES 16).wr I3C.FLASH_ADDR.ADDR 65536)
def w18 : State := { w17 with i3c := { w17.i3c with flashRange := (0, 3) } }.wr I3C.FLASH_STATUS.STATE 1
def w20 : State := { State.reset with now := 10 ^ 13, boot := { inReset := true, resetLow := true } }.wr SYS.STATE.STEP 1
def w21 : State := { w20 with led := { w20.led with releasePending := true, owner := some ⟨[], [], 0⟩, hosts := [⟨0, 2, 7, 0, 4, [1]⟩] } }
def w22 : State := { w20 with boot := { w20.boot with tap := 0 } }
def ws (k : Nat) : State := { State.reset with now := 10 ^ 13, boot := { startAt := 10 ^ 12, psel := 3 } }.wr SYS.STATE.STEP k
def alt9 : State := { ws 5 with image := some { im2 with rollback := 9 } }
def alt10 := { im2 with rollback := 9 }
def alt11 := (List.range 6).foldl (fun s n => s.put (CLK.PLLn_STATUS.LOCKED n) true) (ws 7)
def alt12 : State := (ws 11).modCal 0 (fun c => { c with accepted := true })
def alt13 : State := { ws 12 with image := some im2 }
def w23 (k : Nat) : State := { w0 with mon := { w0.mon with streaks := w0.mon.streaks.set 11 k } }
def alt14 : State := { w0 with sec := { w0.sec with signing := 2 } }
def w24 : State := (w0.halt 0x0201 4 (2 ^ 34))
def w25 (st : Nat) : State := ({ w0 with clk := { w0.clk with pllOn := true, since := List.replicate 6 (some 10) } }.wr SYS.STATE.STATE st).wr DRM.STATE.STATE 1
def w30 : State := { w0 with clk := { w0.clk with refGood := 3, pllOn := true, good := List.replicate 6 3 } }
def w31 : State := w0.put CLK.CTL.PENDING true
def alt15 : State := { w31 with clk := { w31.clk with freqNext := some 900000 } }
def w32 : State := { w0 with cal := { w0.cal with sclkGood := 63 } }.put ADC.SCLK.OK false
def w33 : State := ((w0.put TB.SET_CTL.ARM true).wr TB.SET_HI.TICKS 77).wr CLK.SYNC.MASK 3
def w34 (k : Nat) : State := w0.modCap 7 (fun c => { c with invalid := k })
def raw7 : List Nat := [2048, 2050, 2100, 4000, 2000, 5, 4095]
def wch (st : Nat) : State := w2.wr (CAP.CHn_STATUS.STATE 7) st
def w35 : State := w0.modCap 7 (fun c => { c with rangeNext := some 3, invalid := 5000 })
def w36 : State := w2.modCap 7 (fun c => { c with rangeNext := some 3 })
def alt16 : State := (wch 4).modCap 7 (fun c => { c with armedAt := some 5 })
def alt17 : State := { w0 with cal := { w0.cal with modeNext := some 2 } }
def w37 : State := { w0 with cal := { w0.cal with modeCal := true, startBegun := true, ch := List.replicate 8 { slices := List.replicate 17 { calDone := true }, rangesDone := 4 } } }
def w38 : State := (w0.modCal 7 (fun c => { c with passed := true }))
def w39 (n : Nat) : State := ((w0.wr (CAL.STATE.PASS 7) n).wr (ADC.STATUS.SPARE 7) 16).wr (ADC.SLICEk.ROLE 7 16) 1
def z8 : List Int := List.replicate 8 0
def w40 : State := ((((((w0.wr (CAL.STATE.PASS 7) 2).wr (CAL.STATE.SLICE 7) 16).wr (ADC.SLICEk.ROLE 7 16) 2).wr (CAL.STATE.DONE 7) 1).modCal 7 (fun c => { c with nextPos := 1 }))).modSlice 7 16 (fun x => { x with coef := { x.coef with eq := List.replicate 136 0 } })
def w40d (n : Nat) : State := w40.wr (CAL.STATE.DONE 7) n
def alt201 : State := { w40d 0 with cal := { (w40d 0).cal with ratios := [5, 5, 5] } }
def w41 : State := (((w0.wr (CAL.STATE.PASS 7) 2).wr (ADC.SLICEk.ROLE 7 16) 3).wr (ADC.SLICEk.POSITION 7 16) 9)
def c64 : List (List Nat) := List.replicate 64 raw7
def w41b : State := w41.modCap 7 (fun c => { c with openF := some { flags := 8, length := 50 } })
def w42 : State := w0.modCal 7 (fun c => { c with statN := bgWindow })
def eq16 : List (List Int × List (List Int)) := List.replicate 16 ([], [])
def w43 (r : Nat) : State := (w0.put CAL.REF.OK true).modCal 7 (fun c => { c with rangeRun := some (r, 1) })
def hold1 : Holdoff := ⟨1, some (2 ^ 61), 0⟩
def w44 : State := ((w0.wr (TDC.INi_CTL.EDGE 39) 1).wr (TDC.INi_CTL.EDGE 63) 3).wr (TDC.INi_CTL.EDGE 5) 3
def alt19 : State := w44.modIn 39 (fun x => { x with lastEdge := some (2 ^ 49 - 60) })
def res0 : Residue := { tick := 2 ^ 44 - 16, phase := 3, falling := true, flags := 0, edge := 10 ^ 13 - 16, due := 10 ^ 13 - 6 }
def w44b (i : Nat) : State := { w44.modIn i (fun x => { x with cells := [res0] }) with tdc := { (w44.modIn i (fun x => { x with cells := [res0] })).tdc with mergeLast := 64 } }
def w45 : State := (w44.wr SYS.STATE.STATE devDark).put (TDC.INi_CTL.DARK_STAMP 39) true |>.put (TDC.INi_CTL.DARK_STAMP 5) true
def flat : List Nat := (List.range 256).map (fun k => 16384 * k)
def w46 : State := w0.put (TDC.INi_STATUS.TESTING 64) true
def alt20 : State := w46.modIn 64 (fun x => { x with fails := 2 })
def alt21 : Vernier := {}
def w47 : State := ({ w0 with cap := { w0.cap with spill := [3] }, boot := { w0.boot with poolSet := true } }).modIn 64 (fun x => { x with head := 4096, tail := 4096, runs := [(3, 5)] })
def ev (src : Nat) (f : Bool) : TEvent := { time := 2 ^ 59, src := src, force := f }
def wq (s : State) (e : TEvent) : State := s.modTrg 7 (fun c => { c with queue := [e] })
def alt22 : State := (wq w0 (ev 7 false)).modTrg 7 (fun c => { c with hold := hold1 })
def alt23 : State := (wq w2 (ev 46 true)).modCap 7 (fun c => { c with armedAt := some (2 ^ 59) })
def seqTab : List Nat := List.replicate 256 0
def imT : Image := { tables := [⟨1, 0, seqTab⟩] }
def w48 : State := { w2 with image := some imT }.modTrg 7 (fun c => { c with timers := c.timers.set 3 { on := true } })
def alt24 : State := (w0.put (TRG.CHn_STATUS.HOLDOFF 7) true).modTrg 7 (fun c => { c with hold := ⟨1, some 5, 0⟩ })
def alt25 : State := w0.modTrg 7 (fun c => { c with committed := some [1, 2, 4, 4, 16, 256, 0, 0, 0] })
def alt26 : State := { w0 with trg := { w0.trg with pulse := [[], [(1, 2)], [], [(3, 5), (2 ^ 44, 2 ^ 50), (7, 2 ^ 44)]] } }
def w49 : State := ((w0.wr TRG.CURVE_STATUS.STATUS 1).wr TRG.CURVE_STATUS.COLLECTED 4194304).put TRG.CURVE_CTL.LEARN true
def alt27 : State := { w2 with cap := { w2.cap with heldStart := 128 } }
def w50 : State := { w0 with cap := { w0.cap with heldStart := 128 } }
def w51 : State := { w0 with cap := { w0.cap with nextChannels := 129 } }.wr SYS.STATE.STATE devActive
def of0 : OpenFrame := { numbered := true, length := 0, triggered := true, keep := false }
def wf (f : OpenFrame) (st : Nat) : State := (wch st).modCap 7 (fun c => { c with openF := some f })
def w52 : State := { w2 with cap := { w2.cap with tabA := [{ state := 1, samples := 4 }] } }.modCap 7 (fun c => { c with closing := [{}] })
def alt28 : OpenFrame := {}
def alt29 : Frame := { state := 1, samples := 4 }
def alt30 : State := { w2 with cap := { w2.cap with nextR := some 77 } }
def alt31 : State := { w2 with cap := { w2.cap with slot := 31 } }
def alt32 : State := { w2 with cap := { w2.cap with reqs := [{ cls := 2, stripes := 1, read := true }] } }
def w60 : State := (((w2.wr (ACC.CHn_SNAP_CFG.PERIOD_MS 7) 10).put (ACC.CHn_MAP_CFG.EN 7) true).put (ACC.CHn_MAP_CFG.DECAY 7) true).modCap 7 (fun c => { c with openF := some {} })
def w61 (k : Nat) : State := w5.modAcc 7 (fun a => { a.modSnap k (fun x => { x with copying := true }) with stk := { any := true, last := { number := 5 } }, map := { any := true, last := { number := 6 } } })
def fr1 : Frame := { state := 2, retain := true, samples := 100, header := List.replicate 128 0, channel := 7 }
def w62 : State := { w60 with cap := { w60.cap with tabA := [fr1] } }.modAcc 7 (fun a => { a with wait := [(0, 0)] })
def w63 : State := w5.modAcc 7 (fun a => { a with tiles := [(1, 3)], merging := [(0, [(1, 3)])] })
def cellW (w : Nat) (f : Cell → Cell) : State := (w0.wr (CMB.CELLc.STATE 190) cellRunning).modCell 190 (fun _ => f { p := List.replicate 8 w, pc := 3 })
def cw (cls op rest : Nat) : Nat := cls * 2 ^ 44 + (if cls = 2 then op * 2 ^ 40 else op * 2 ^ 38) + rest
def rich (x : Cell) : Cell := { x with d := [5, 2 ^ 24 - 7, 2 ^ 23, 2 ^ 23 - 1, 0, 9, 11, 2 ^ 24 - 1], a := [2 ^ 55 - 1, 2 ^ 56 - 100, 2 ^ 55, 12345] }
def alt33 : State := cellW (cw 0 15 (3 * 2 ^ 35 + 9 * 2 ^ 31)) rich
def alt34 := cw 0 15 (3 * 2 ^ 35 + 9 * 2 ^ 31)
def alt35 : State := cellW (cw 0 16 (3 * 2 ^ 35 + 0 * 2 ^ 31)) rich
def alt36 := cw 0 16 (3 * 2 ^ 35 + 0 * 2 ^ 31)
def cA (a b l : Nat) (st : Int) (m : Nat) : Nat := a + b * 2 ^ 14 + (l - 1) * 2 ^ 28 + ofSigned 12 st * 2 ^ 42 + m * 2 ^ 54
def curs : List Nat := [cA 100 0 16 (-3) 0, cA 5 3 7 4 1, cA 64 64 16 3 2, cA 16383 16380 8 2047 3, cA 7 0 16 1 0, cA 8190 8188 5 (-1) 1, cA 40 40 32 5 2, cA 0 0 1 (-2048) 0]
def rich2 (x : Cell) : Cell := { rich x with cur := curs, x := [(100, 0x800000), (5, 0x123456), (64, 0xFFFFFF), (8190, 77)], y := [(7, 0x912345), (8190, 1), (40, 0x7FFFFF)], sh := 4 }
def c5 (op rest : Nat) (f : Cell → Cell) : State := cellW (cw 5 op rest) f
def alt37 : State := c5 0 0 id
def alt38 := cw 5 0 0
def alt39 : State := c5 0 0 (fun x => { x with rpt := 2 })
def alt40 : State := c5 0 0 (fun x => { x with rpt := 1 })
def alt41 : State := c5 0 0 (fun x => { x with loops := [⟨1, 5, 3⟩] })
def alt42 : LoopEnt := ⟨1, 5, 3⟩
def alt43 : State := c5 0 0 (fun x => { x with loops := [⟨1, 3, 3⟩] })
def alt44 : LoopEnt := ⟨1, 3, 3⟩
def alt45 : State := c5 0 0 (fun x => { x with loops := [⟨1, 3, 1⟩, ⟨0, 3, 7⟩] })
def alt46 : LoopEnt := ⟨1, 3, 1⟩
def alt47 : State := c5 1 5 id
def alt48 := cw 5 1 5
def alt49 : State := c5 1 (5 + 2 ^ 34) id
def alt50 := cw 5 1 (5 + 2 ^ 34)
def alt51 : State := c5 2 (5 + 2 ^ 34) id
def alt52 := cw 5 2 (5 + 2 ^ 34)
def alt53 : State := c5 2 5 (fun x => { x with calls := List.replicate 15 2 })
def alt54 := cw 5 2 5
def alt55 : State := c5 2 5 (fun x => { x with calls := List.replicate 16 2 })
def alt56 : State := c5 3 (2 ^ 34) id
def alt57 := cw 5 3 (2 ^ 34)
def alt58 : State := c5 3 0 (fun x => { x with calls := [6], loops := [⟨1, 6, 4⟩] })
def alt59 := cw 5 3 0
def alt60 : State := c5 3 0 id
def alt61 : State := c5 4 (7 + 65535 * 2 ^ 13) (fun x => { x with loops := List.replicate 3 ⟨1, 6, 4⟩ })
def alt62 := cw 5 4 (7 + 65535 * 2 ^ 13)
def alt63 : State := c5 4 7 (fun x => { x with loops := List.replicate 4 ⟨1, 6, 4⟩ })
def alt64 := cw 5 4 7
def alt65 : State := c5 5 (7 + 2 ^ 30) id
def alt66 := cw 5 5 (7 + 2 ^ 30)
def alt67 : State := c5 5 (7 + 2 ^ 30) rich
def alt68 : State := c5 5 (7 + 2 ^ 30) (fun x => { rich x with loops := List.replicate 4 ⟨1, 6, 4⟩ })
def alt69 : State := c5 6 (9 * 2 ^ 13) id
def alt70 := cw 5 6 (9 * 2 ^ 13)
def alt71 : State := c5 7 (2 ^ 34) id
def alt72 := cw 5 7 (2 ^ 34)
def alt73 : State := c5 7 0 (fun x => { x with loops := [⟨1, 6, 4⟩, ⟨0, 6, 2⟩] })
def alt74 := cw 5 7 0
def alt75 : LoopEnt := ⟨1, 6, 4⟩
def alt76 : State := c5 8 0 id
def alt77 := cw 5 8 0
def d1 : Dma := ⟨0, [0, 0, 0, 0, 0, 0, 0, 0], false, 0, false⟩
def alt78 : State := c5 8 0 (fun x => { x with dma := [d1] })
def alt79 : State := c5 9 0xBEEF id
def alt80 := cw 5 9 0xBEEF
def alt81 : State := c5 9 0xBEEF (fun x => { x with dma := [d1] })
def alt82 : State := c5 10 0 (fun x => { x with fV := true, fL := true })
def alt83 := cw 5 10 0
def bd : Binding := { port := 2, kind := 1, buffers := 2, base := 1000, words := 100, bufs := [2, 3], ready := [0], held := [1] }
def c6 (op rest : Nat) (f : Cell → Cell) : State := cellW (cw 6 op rest) (fun x => f { x with binds := [bd], cur := curs })
def c6w (op rest : Nat) (f : Cell → Cell) : State := (c6 op rest f).wr (CMB.CELLc.STATE 190) cellWaiting
def p2 : Nat := 2 * 2 ^ 34 + 2 ^ 28
def alt84 : State := c6 0 p2 (fun x => { x with binds := [{ bd with ready := [] }] })
def alt85 := { bd with ready := [] }
def alt86 : State := c6 1 p2 (fun x => { x with binds := [{ bd with held := [] }] })
def alt87 := { bd with held := [] }
def p3 (l : Nat) : Nat := 2 * 2 ^ 34 + l * 2 ^ 24
def hdr2 (x : Cell) : List Nat := (x.heldHeader 2).getD []
def rec1 : Rec := ⟨2, 5, false, [], [1, 2, 3]⟩
def withRec (r : Rec) (x : Cell) : Cell := { rich x with rec_ := some r }
def alt88 : State := c6 3 (p3 2) (withRec { rec1 with words := List.replicate 4096 0 })
def alt89 := { rec1 with words := List.replicate 4096 0 }
def alt90 : State := c6 5 p2 (fun x => { x with dma := List.replicate 4 d1 })
def alt91 : State := c6 5 p2 (fun x => { x with dma := List.replicate 3 d1 })
def alt92 : State := c6 6 p2 (fun x => { x with dma := [d1] })
def wl (c : Nat) : State := { w0 with cmb := { w0.cmb with progs := [List.replicate 64 1, List.replicate 64 2], maker := [List.replicate 64 3] } }.wr (CMB.CELLc.STATE c) cellLoading
def alt93 : State := (wl 190).modCell 190 (fun x => { x with loading := some 1 })
def ib : Inbox := { buf := 1, number := 3, ready := true, data := [1, 2, 3], items := 3, header := List.replicate 128 0 }
def bt : Binding := { port := 2, kind := 1, buffers := 2, base := 1000, words := 100, bufs := [0, 1], waits := [ib] }
def wb (st : Nat) (b : Binding) : State := (w0.wr (CMB.CELLc.STATE 190) st).modCell 190 (fun x => { x with binds := [b] })
def bs3 : Binding := { port := 2, kind := 3, buffers := 2, base := 1000, words := 60, bufs := [2, 0], stamps := [(5, ⟨1, 2, 3, 0, 0, 0⟩), (6, ⟨2, 2, 3, 0, 1, 0⟩), (7, ⟨3, 2, 3, 0, 2, 0⟩)] }
def dm (held : Bool) (n items : Nat) : Dma := ⟨500, [1, n, 0, items, 4000, 0, 0, 0], held, 0, true⟩
def fr2 : Frame := { state := 2, retain := true, samples := 64, header := List.replicate 128 0, channel := 7, blocks := [⟨0, 65536, 0⟩, ⟨32, 65600, 0⟩] }
def wd (d : Dma) (st : Nat) : State := ({ w0 with cap := { w0.cap with tabA := [{ fr2 with state := st, holders := [.dma 190] }] } }.wr (CMB.CELLc.STATE 190) cellRunning).modCell 190 (fun x => { x with dma := [d] })
def wcl (cl : List (Nat × Nat × List Nat)) : State := (w0.wr (CMB.CELLc.STATE 190) cellWaiting).modCell 190 (fun x => { x with closed := cl, inClose := true })
def rb0 : List Nat := recordBytes 190 0 5 rec1 false
def wa : State := ((w0.wr DRM.STATE.STATE 1).put DRM.SR_CTL.IDLE_EN true).modArc (fun a => { a with rate := some true })
def waf : State := wa.modArc (fun a => { a with forceOpen := true, rate := none })
def pw0 : Piece := { port := 3, addr := 4096, len := 4, at_ := 10 ^ 13 - 5, data := [1, 2, 3, 4] }
def wdr (ws : List Piece) : State := wa.modSub 3 (fun b => { b with writes := ws, inOrder := [4] })
def alt94 : State := wdr [pw0, { pw0 with addr := 4100, at_ := 10 ^ 13 }]
def alt95 := [{ pw0 with addr := 4100, at_ := 10 ^ 13 }]
def wrd (p : Piece) : State := wa.modSub 3 (fun b => { b with reads := [p] })
def alt96 : State := wrd { pw0 with port := 1, data := [] }
def alt97 := { pw0 with port := 1, data := [] }
def alt98 : State := wrd { pw0 with port := 1, data := [], at_ := 5 }
def alt99 := { pw0 with port := 1, data := [], at_ := 5 }
def wsrx : State := (wrd pw0).wr DRM.STATE.STATE 3
def alt202 : State := { wsrx with clk := { wsrx.clk with pll3Off := true } }
def rc : ArcRec := ⟨7, 0, 100, 0, 2, 7, 3, 9, 1, []⟩
def alt100 : State := wa.modArc (fun a => { a with waiting := [rc] })
def pkt (typ flags stream seq ack credit : Nat) (pl : List Nat) : EthFrame :=
  ⟨true, 63, 7, none, 0x88B5, [1, typ] ++ leBytes 2 flags ++ leBytes 2 stream ++ leBytes 2 pl.length ++ leBytes 4 seq ++ leBytes 4 ack ++ leBytes 4 credit ++ pl⟩
def e0 : EthFrame := pkt 10 0 0 0 0 5 []
def wlink (st : Nat) : State := (wp 63).wr (HPT.Pp_STATUS.STATE 63) st
def alt101 := { e0 with fcsOk := false }
def alt102 := { e0 with dst := 62 }
def ehello : EthFrame := pkt 1 0 0 0 0 0 (leBytes 4 77 ++ [1, 0] ++ [1, 0] ++ List.replicate 16 9 ++ leBytes 2 1024 ++ List.replicate 14 0)
def ru (s : State) (e : EthFrame) : State := (s.receive 63 e).1
def rk (s : State) (e : EthFrame) : RxPacket := ((s.receive 63 e).2).getD ⟨0, 0, 0, 0, 0, 0, [], [], []⟩
def wabs : State := (((wlink sesAbsent).wr (HPT.Pp_HOST.HOST_ID 63) 77).wr (HPT.Pp_STATUS.P_MAX 63) 16) |>.modPort 63 (fun q => { q with absentAt := 10 ^ 13 })
def hk : HostKey := ⟨77, 2, 7, 0, 4, [1]⟩
def wchal : State := { (wlink sesChallenged).wr (HPT.Pp_HOST.HOST_ID 63) 77 with led := { w0.led with hosts := [hk] } }.modPort 63 (fun q => { q with nonceH := List.replicate 16 9, nonceD := List.replicate 16 8, pMaxNext := 1024, helloAt := 10 ^ 13 })
def eauth (good : Bool) : EthFrame := pkt 2 0 0 0 0 0 (if good then hmac [1] (ascii "WAGGLE-H" ++ wchal.helloBytes 63) else List.replicate 32 0)
def pk (i : Nat) : Packet := { typ := 4, flags := 6, stream := 5, seq := i, ack := 0, credit := 0, payload := [i, i], tag := [] }
def it (i : Nat) : Item := ⟨6, i, .bytes [i, i], 2⟩
def s5 : Strm := { id := 5, kind := 1, param := [], nextSeq := 3, credit := 10, unacked := [pk 0, pk 1, pk 2], inflight := [(0, it 0), (1, it 1), (2, it 2)] }
def wst (x : Strm) : State := { (wp 63).modPort 63 (fun q => { q with streams := q.streams ++ [x] }) with leases := (List.replicate 9 ({} : Lease)).set 8 ⟨some 63, 10⟩ }.wr (HPT.Pp_STATUS.P_MAX 63) 16
def eack (fl ack : Nat) : EthFrame := pkt 10 fl 5 0 ack 20 []
def alt103 : State := wst { s5 with resend := some 1 }
def alt104 := { s5 with resend := some 1 }
def alt105 : State := wst { s5 with queue := [it 3, it 4] }
def alt106 := { s5 with queue := [it 3, it 4] }
def creq (op seq : Nat) (body : List Nat) : EthFrame := pkt 3 6 0 seq 0 5 ([op, 0] ++ leBytes 2 9 ++ body)
def cq (op : Nat) (body : List Nat) : List Nat := [op, 0] ++ leBytes 2 9 ++ body
def wu (s : State) (e : EthFrame) : State := ((s.atRequest 63 e).map Prod.snd).getD s
def ws5 : State := wst s5
def wsR (r : Nat) : State := ws5.modPort 63 (fun q => { q with rights := r })
def wbd (a n : Nat) (vs : List Nat) : List Nat := leBytes 2 a ++ leBytes 2 n ++ (vs.map (leBytes 4)).flatten
def b2a : List Nat := wbd TB.SET_LO.TICKS.addr 2 [5, 6]
def op3 (id kind w0 : Nat) : List Nat := [id, kind, 0, 0] ++ leBytes 4 33 ++ leBytes 4 w0 ++ List.replicate 12 0
def b5 (mask act : Nat) : List Nat := leBytes 2 mask ++ [act]
def wab : State := (wst s5).wr (HPT.Pp_STATUS.STATE 63) sesAbsent
def s6 : Strm := { s5 with kind := kSnapshots, inflight := [(0, ⟨4, 9, .bytes [1], 1⟩), (1, ⟨4, 10, .bytes [1], 1⟩)] }
def alt107 : Item := ⟨4, 9, .bytes [1], 1⟩
def wwin : State := (((w0.put (WIN.Ww_CFG.EN 23) true).put (WIN.Ww_STATUS.UNRES_U 23) false).put (WIN.Ww_STATUS.UNRES_L 23) false).wr (WIN.Ww_CFG.OUT 23) 0
def whys : State := ((wwin.wr (WIN.Ww_CFG.HYST_U 23) 3).wr (WIN.Ww_THR.U 23) 2048).wr (WIN.Ww_CFG.RANGE 23) 0
def alt108 : State := { w0 with mon := { w0.mon with settling := [3, 5] } }
def wrb : State := { w0 with mon := { w0.mon with rb := some ⟨23, 1, 3, some 7⟩ } }.put WIN.RB_RESULT.BUSY true
def wmr (r l : Bool) : State := { w0 with mon := { w0.mon with running := r, late := l } }
def alt203 : State := { wmr false false with mon := { (wmr false false).mon with queue := [q5] } }
def wq5 : State := { w0 with mon := { w0.mon with queue := [{ q5 with sel := 0xF321 }, q5] } }
def alt109 := { q5 with sel := 0xF321 }
def imD : Image := { device := { width := 8, height := 8 }, tables := [⟨5, 0, List.replicate 600 3⟩, ⟨7, 0, List.replicate 60 3⟩] }
def wpro (st : Nat) : State := { w0 with image := some imD, pro := { w0.pro with inForce := [(PRO.CFG.EN.key, 1)] } }.wr PRO.STATUS.STATE st
def alt110 : State := { wpro 2 with pro := { (wpro 2).pro with cause := true } }
def alt111 : State := { wpro 2 with pro := { (wpro 2).pro with composing := some {} } }.wr DRM.STATE.STATE 1
def alt204 : Planes := {}
def alt112 : State := { wpro 1 with pro := { (wpro 1).pro with ready := true } }
def alt113 : State := { wpro 2 with pro := { (wpro 2).pro with repeats := 100 } }
def wcmd (st : Nat) : State := (wpro st).put PRO.STATUS.COMMAND true
def tk (kind : Nat) (pl : List Nat) : Token := ⟨kind, if kind < 8 then 1 else 2, 5, pl, .i3c⟩
def wtk (kind : Nat) (pl : List Nat) : State :=
  ({ w0 with sec := { w0.sec with token := some (tk kind pl) }, led := { w0.led with owner := some ⟨[1], [2], 3⟩, hosts := [⟨77, 2, 7, 0, 4, [1]⟩, ⟨78, 2, 7, 0, 4, [1]⟩] } }).put SEC.TOKEN_STATUS.BUSY true
def imS : Image := { digest := List.range 32, rollback := 258 }
def adP : List Nat := List.range 32 ++ [2, 1, 0, 0]
def wad : State := { wtk 2 adP with prf := { w0.prf with staged := some imS } }.wr PRF.STAGE_STATUS.STATE 2
def enP (id : Nat) : List Nat := leBytes 4 id ++ [2, 3, 1, 0] ++ leBytes 4 9 ++ List.range 32
def wrv : State := (wtk 4 (leBytes 4 77)).wr (HPT.Pp_HOST.HOST_ID 63) 77 |>.wr (HPT.Pp_STATUS.STATE 63) sesOpen
def exb : List Nat := [1, 2, 3]
def akP : List Nat := leBytes 8 1 ++ sha256 exb
def au (n : Nat) : AuditEntry := ⟨n, 0, 1, 2, 0, 0, 0, 0, 0, 0, []⟩
def wak : State := { wtk 5 akP with sec := { (wtk 5 akP).sec with export_ := exb, exportLast := 1 }, led := { w0.led with audit := [au 2, au 1, au 0], auditSeq := 3 } }
def wsg (k : Nat) : State := { w0 with sec := { w0.sec with signing := k, attestQ := [⟨.i3c, [1, 2], []⟩], queue := [[⟨4, [⟨1, [1]⟩], 6⟩]], building := some (3, [4, 5]), leaves := [⟨1, [1]⟩] } }
def wpd (k : Nat) : State := (w15.wr PRF.STATUS.PENDING k).put PRF.STATUS.PENDING_VALID true
def imI : Image := { profiles := [{ number := 0, idleDarkMs := 10 }] }
def alt114 : State := { w0 with image := some imI }
def alt115 : Profile := { number := 0, idleDarkMs := 10 }
def alt116 : State := { w0 with prf := { w0.prf with adopting := 2 } }
def wde : State := { (w0.put SYS.STATE.ENTERING true) with leases := List.replicate 9 ⟨some 62, 10 ^ 14⟩ }.wr (HPT.Pp_STATUS.STATE 62) sesOpen
def wwk (l : Bool) (k : Nat) : State := { w0 with boot := { w0.boot with wakeLevel := l, wakeRun := k } }
def wdk : State := (w0.wr SYS.STATE.STATE devDark).put SYS.WAKE_CFG.ALARM true
def alt117 : State := { wdk with clk := { wdk.clk with keeper := 5000 } }
def alt118 : State := { wdk with boot := { wdk.boot with heldWake := some (3, 0) }, clk := { wdk.clk with keeper := 5000 } }
def regF : List (Fld × Nat) := [(TB.SET_LO.TICKS, 0xFFFFFFFF), (CAL.CERT_VALUE.NV, 450000000), (TRG.CHn_LEVEL.A 7, 0x08000800), (CMB.VIEW.CELL, 190),
  (DRM.SR_CTL.IDLE_US, 77 * 2 ^ (DRM.SR_CTL.IDLE_US).lo), (WAG.TIMERS.RTO_US, 100 + 400 * 65536), (PRO.PERIOD.MIN, 50 + 60 * 65536), (SYS.WAKE_AT_LO.KEEPER, 5), (I3C.AUTH_HOST.HOST_ID, 6), (I3C.FLASH_ADDR.ADDR, 7),
  (SEC.NONCEk.WORD 7, 8), (MCV.SEQe.SEL 7, 0xFFF0)]
def wop : State := w0.wr I3C.STATUS.ROLE 1
def alt119 : Refuse := ⟨stState, 3, 0, 0⟩
def wi : State := (w0.wr I3C.STATUS.DA 9).put I3C.STATUS.DA_VALID true
def win (f : I3cSt → I3cSt) : State := { wi with i3c := f wi.i3c }
def winP : State := win (fun x => { x with protoErr := true, ibis := [⟨1, []⟩] })
def winH : State := win (fun x => { x with hdr := true })
def winX : State := win (fun x => { x with hdr := true, pointer := 0xFFFC })
def alt120 : State := win (fun x => { x with pointer := TB.NOW_LO.TICKS.addr })
def wno : State := win (fun x => { x with staticAddr := 0x42 }) |>.put I3C.STATUS.DA_VALID false |>.put I3C.STATUS.ENHJ true
def wib : State := (win (fun x => { x with ibis := [⟨1, [2, 3]⟩, ⟨2, []⟩] })).put I3C.STATUS.ENINT true
def wfo (op : Nat) : State := { w0 with i3c := { w0.i3c with flashOp := some (op, 4096, 4096), flashBuf := [(0, 1), (4095, 2)] }, flash := [(4000, 5), (4096, 0xF0), (4097, 7), (8192, 9)] }
def wstop : State := (w2.put CAP.ROLL_STATUS.OPEN true).modCap 7 (fun c => { c with stopAt := some (0, 5), alone := true })
/-! ### Witnesses of the statements' hypotheses, one theorem for each statement with its clauses in order -/

/-- The empty queue's clauses: nothing waits; a channel alone is ready to be STOPPED. -/
theorem witness_EmptyQueueTicks_2 : (w0.tdc.marks = [] ∧ w0.trg.commits = [] ∧ w0.tdc.stops = []) ∧ ∀ n, (w0.cch n).stopAt = none :=
  ⟨by decide +kernel, stops_of (by decide +kernel)⟩

theorem witness_EmptyQueueTicks_3 :
    let u := wstop.tick.mergeMark.settleStops.commitPulses.presentDue.numberDue
    (wstop.pending = [] ∧ wstop.tdc.marks = [] ∧ wstop.trg.commits = [] ∧ wstop.up = true ∧ 7 ∈ u.leads ∧ (u.cch 7).alone = true
      ∧ u.stopReady 7 = true) ∧ u.quiet 7 := ⟨by decide +kernel, quiet_of (by decide +kernel)⟩

theorem witness_StepKeepsSound : w0.sound ∧ (match step w0 with | .next _ => true | _ => false) = true :=
  ⟨sound_of (by decide +kernel), by decide +kernel⟩

theorem witness_HaltedLeftByResetAlone : (w0.wr SYS.STATE.STATE devHalted).sound
    ∧ (w0.wr SYS.STATE.STATE devHalted).dev = devHalted ∧ (match exec .mcvPass (w0.wr SYS.STATE.STATE devHalted) with
      | .next _ => true | _ => false) = true := ⟨sound_of (by decide +kernel), by decide +kernel, by decide +kernel⟩

theorem witness_TrustIsolated : w0.sound ∧ Instr.mcvPass.mayTouchTrust = false
    ∧ (match exec .mcvPass w0 with | .next _ => true | _ => false) = true := ⟨sound_of (by decide +kernel), by decide, by decide +kernel⟩

theorem witness_EmptyQueueTicks :
    w0.pending = [] :=
  by decide +kernel

theorem witness_ClockCommandsAct :
    Accepts w0 Att.i3c CLK.CTL.COMMIT.addr 1 ∧ Nat.testBit 1 0 = true
    ∧ Accepts w0 Att.i3c TB.SET_CTL.ARM.addr 1
    ∧ Accepts (w0.put TB.SET_CTL.ARM true) Att.i3c TB.SET_CTL.ARM.addr 0 ∧ Nat.testBit 0 0 = false
    ∧ (∀ (p : Nat), Att.i3c = Att.port p → w0.hears p = true ∧ (w0.port p).rights.testBit 1 = true) :=
  ⟨accepts (by decide +kernel), by decide +kernel, accepts (by decide +kernel), accepts (by decide +kernel),
   by decide +kernel, (fun _ h => nomatch h)⟩

theorem witness_ConverterCommandsAct :
    Accepts (w0.wr (ADC.RANGE.CODE 5) 2) Att.i3c (ADC.CTL.COMMIT 5).addr 1 ∧ ((w0.wr (ADC.RANGE.CODE 5) 2).sound ∧
       Nat.testBit 1 0 = true)
    ∧ Accepts w0 Att.i3c ADC.MODE.MODE.addr 2 ∧ (w0.sound ∧ 2 % 2 ^ ADC.MODE.MODE.width ≠ w0.view Att.i3c ADC.MODE.MODE)
    ∧ Accepts w0 Att.i3c CAL.CTL.PASS_REQ.addr 128 ∧ (Nat.testBit 128 7 = true ∧ w0.rd (CAL.STATE.PASS 7) = 0)
    ∧ Accepts w0 Att.i3c CAL.CTL.RANGE_CHECK.addr 32768 ∧ (w0.isLead 7 = true ∧ 32768 = 256 * 2 ^ 7)
    ∧ Accepts (w0.wr CAL.CERT_VALUE.NV 100000000) Att.i3c CAL.CERT_CTL.COMMIT.addr 1 ∧ ((w0.wr CAL.CERT_VALUE.NV
       100000000).sound ∧ (w0.wr CAL.CERT_VALUE.NV 100000000).on CAL.CERT_CTL.COMMIT = false) :=
  ⟨accepts (by decide +kernel), both (by decide +kernel), accepts (by decide +kernel), both (by decide +kernel), accepts
   (by decide +kernel), by decide +kernel, accepts (by decide +kernel), by decide +kernel, accepts (by decide +kernel), both
   (by decide +kernel)⟩

theorem witness_TriggerCommandsAct_1 :
    Accepts w0 Att.i3c (TRG.CHn_CTL.COMMIT 7).addr 1
    ∧ Accepts w1 Att.i3c (TRG.CHn_CTL.COMMIT 7).addr 2 ∧ ((w1.tch (w1.lead 7)).hold.kind = 3 ∧ w1.on (TRG.CHn_STATUS.HOLDOFF
       (w1.lead 7)) = true)
    ∧ Accepts w0 Att.i3c (TRG.CHn_CTL.COMMIT 7).addr 2 ∧ ((w0.tch (w0.lead 7)).hold.kind ≠ 3 ∨ w0.on (TRG.CHn_STATUS.HOLDOFF
       (w0.lead 7)) = false)
    ∧ Accepts w2 Att.i3c (TRG.CHn_CTL.COMMIT 7).addr 4 ∧ (w2.isLead (w2.lead 7) = true ∧ w2.listens (w2.lead 7) = true ∧
       (w2.tch (w2.lead 7)).since ≤ w2.ticks * 65536 ∧ w2.beforeStop (w2.lead 7) (w2.ticks * 65536) = true)
    ∧ Accepts w2 Att.i3c (TRG.CHn_CTL.COMMIT 7).addr 8
    ∧ Accepts w0 Att.i3c (TRG.CHn_CTL.COMMIT 7).addr 4 ∧ w0.listens (w0.lead 7) = false
    ∧ Accepts w0 Att.i3c (TRG.CHn_CTL.COMMIT 7).addr 8 :=
  ⟨accepts (by decide +kernel), accepts (by decide +kernel), by decide +kernel, accepts (by decide +kernel),
   by decide +kernel, accepts (by decide +kernel), by decide +kernel, accepts (by decide +kernel), accepts
   (by decide +kernel), by decide +kernel, accepts (by decide +kernel)⟩

theorem witness_TriggerCommandsAct_2 :
    Accepts w0 Att.i3c (TRG.OUTk_CTL.SOURCE 3).addr (4 + 7 * 256 + 7 * 65536) ∧ w0.written Att.i3c (TRG.OUTk_CTL.SOURCE
       3).addr (4 + 7 * 256 + 7 * 65536) ≠ []
    ∧ Accepts w0 Att.i3c TRG.CURVE_CTL.LEARN.addr (1 + 16 * 7) ∧ ((1 + 16 * 7).testBit 0 = true ∧ w0.on TRG.CURVE_CTL.LEARN
       = false) :=
  ⟨accepts (by decide +kernel), by decide +kernel, accepts (by decide +kernel), by decide +kernel⟩

theorem witness_StampCommandsAct :
    Accepts (w0.put TB.SET_CTL.ARM true) Att.i3c (TDC.INi_CTL.EDGE 63).addr 1
    ∧ Accepts w0 Att.i3c TDC.TEST.GO.addr (256 + 64) ∧ ((256 + 64).testBit 8 = true ∧ (256 + 64) % 128 < 65) :=
  ⟨accepts (by decide +kernel), accepts (by decide +kernel), by decide +kernel⟩

theorem witness_CaptureCommandsAct :
    Accepts w0 Att.i3c CAP.CTL.START.addr 129 ∧ (∀ (n : Nat), (w0.cch n).stopAt = none) ∧ (w0.sound ∧ w0.dev = devIdle ∧
       w0.on CAP.ROLL_STATUS.OPEN = false ∧ w0.cap.heldStart = 0 ∧ w0.cap.nextChannels = 0 ∧ w0.prf.resumeAt = none ∧
       w0.prf.adopting ≠ 2 ∧ w0.modeBusy = false ∧ w0.tableFree = true ∧ w0.pagesNeeded (List.filter (fun n ↦ decide
       (w0.chState n = chStopped)) (w0.leadsOf 129)) ≤ w0.freePages ∧ (w0.cap.rolled = true → w0.cap.rollStart + ticksOfUs 4
       ≤ w0.now) ∧ List.filter (fun n ↦ decide (w0.chState n = chStopped)) (w0.leadsOf 129) ≠ [])
    ∧ Accepts w3 Att.i3c CAP.CTL.START.addr (256 * 128) ∧ (w3.sound ∧ 256 * 128 = 256 * 2 ^ 7 ∧ w3.isLead 7 = true ∧ w3.on
       (CAP.CHn_STATUS.IN_ROLL 7) = true ∧ w3.on CAP.ROLL_STATUS.OPEN = true ∧ (w3.cch 7).stopAt = none ∧ w3.cap.ending =
       none ∧ w3.cap.noPage = false)
    ∧ Accepts w3g Att.i3c CAP.CTL.START.addr (256 * 128) ∧ w3g.quiet 7 ∧ (w3g.sound ∧ w3g.isLead 7 = true ∧ w3g.on
       (CAP.CHn_STATUS.IN_ROLL 7) = false ∧ w3g.chState 7 ≠ chStopped ∧ w3g.cap.ending = none ∧ w3g.cap.noPage = false)
    ∧ Accepts w3 Att.i3c CAP.CTL.START.addr (2 ^ 16) ∧ (2 ^ 16 = 2 ^ 16 ∧ w3.rollEnding = false)
    ∧ Accepts w4 Att.i3c CAP.RELEASE.FRAME.addr 0 ∧ (0 < 2 ^ 20 ∧ (w4.table w4.curTable)[0]? = some fr0)
    ∧ Accepts w0 Att.i3c CAP.POOL_WARN.LEVEL.addr (2 ^ 31 + 100) ∧ (2 ^ 31 + 100).testBit 31 = true :=
  ⟨accepts (by decide +kernel), stops_of (by decide +kernel), both (by decide +kernel), accepts (by decide +kernel), both
   (by decide +kernel), accepts (by decide +kernel), quiet_of (by decide +kernel), both (by decide +kernel), accepts
   (by decide +kernel), by decide +kernel, accepts (by decide +kernel), by decide +kernel, accepts (by decide +kernel),
   by decide +kernel⟩

theorem witness_AccumulationCommandsAct_1 :
    Accepts w6 Att.i3c (ACC.CHn_CTL.SNAP_STK 7).addr 1 ∧ (w6.sound ∧ (w6.cch 7).openF.isSome = true)
    ∧ Accepts w7 Att.i3c (ACC.CHn_CTL.SNAP_STK 7).addr 1 ∧ (w7.sound ∧ (w7.up = true ∧ (w7.cch 7).openF = none ∧ w7.untaken
       7 = false ∧ ((w7.ach 7).snap 0).copying = false) ∧ w7.accOn 7 0 = true ∧ ((w7.ach 7).stk.any = true ∨ (w7.ach 7).wait
       ≠ []) ∧ ((w7.ach 7).snap 0).held = false)
    ∧ Accepts w6 Att.i3c (ACC.CHn_CTL.SNAP_STK 7).addr 2
    ∧ Accepts w7 Att.i3c (ACC.CHn_CTL.SNAP_STK 7).addr 2 ∧ ((w7.up = true ∧ (w7.cch 7).openF = none ∧ w7.untaken 7 = false ∧
       ((w7.ach 7).snap 1).copying = false) ∧ w7.accOn 7 1 = true ∧ (w7.ach 7).map.any = true ∧ ((w7.ach 7).snap 1).held =
       false)
    ∧ Accepts w6 Att.i3c (ACC.CHn_CTL.SNAP_STK 7).addr 4
    ∧ Accepts w7 Att.i3c (ACC.CHn_CTL.SNAP_STK 7).addr 4 ∧ (((w7.ach 7).snap 0).pending = false ∧ ((w7.ach 7).snap
       0).waiting = false)
    ∧ Accepts w6 Att.i3c (ACC.CHn_CTL.SNAP_STK 7).addr 8 :=
  ⟨accepts (by decide +kernel), both (by decide +kernel), accepts (by decide +kernel), both (by decide +kernel), accepts
   (by decide +kernel), accepts (by decide +kernel), by decide +kernel, accepts (by decide +kernel), accepts
   (by decide +kernel), by decide +kernel, accepts (by decide +kernel)⟩

theorem witness_AccumulationCommandsAct_2 :
    Accepts w7 Att.i3c (ACC.CHn_CTL.SNAP_STK 7).addr 8 ∧ (((w7.ach 7).snap 1).pending = false ∧ ((w7.ach 7).snap 1).waiting
       = false) :=
  ⟨accepts (by decide +kernel), by decide +kernel⟩

theorem witness_CombCommandsAct :
    Accepts (wc 0) Att.i3c (CMB.CELLc.CMD 190).addr 256 ∧ ((wc 0).sound ∧ 256 / 256 = 1)
    ∧ Accepts (wc 1) Att.i3c (CMB.CELLc.CMD 190).addr 512 ∧ ((wc 1).sound ∧ 512 / 256 = 2 ∧ (∀ (b : Binding), b ∈ ((wc
       1).cell 190).binds → b.kind ≠ 3))
    ∧ Accepts (wc 2) Att.i3c (CMB.CELLc.CMD 190).addr 768 ∧ ((wc 2).sound ∧ 768 / 256 = 3 ∧ ((wc 2).cell 190).dma = [] ∧
       ((wc 2).cell 190).rec_ = none ∧ ((wc 2).cell 190).binds = [])
    ∧ Accepts w8 Att.i3c (CMB.CELLc.CMD 190).addr 768 ∧ (w8.sound ∧ (w8.cell 190).dma ≠ [])
    ∧ Accepts (wc 5) Att.i3c (CMB.CELLc.CMD 190).addr 1024 ∧ ((wc 5).sound ∧ 1024 / 256 = 4)
    ∧ Accepts (wc 1) Att.i3c CMB.CTL.CMD.addr (2 ^ 22 + 7 * 2 ^ 24 + 2 ^ 28) ∧ (190 ∈ groupCells ((2 ^ 22 + 7 * 2 ^ 24 + 2 ^
       28) % 2 ^ 23) ((2 ^ 22 + 7 * 2 ^ 24 + 2 ^ 28) / 2 ^ 24 % 8) ∧ (2 ^ 22 + 7 * 2 ^ 24 + 2 ^ 28) / 2 ^ 28 = 1 ∧ (∀ (k :
       Nat), k ∈ groupCells ((2 ^ 22 + 7 * 2 ^ 24 + 2 ^ 28) % 2 ^ 23) ((2 ^ 22 + 7 * 2 ^ 24 + 2 ^ 28) / 2 ^ 24 % 8) → ((wc
       1).cell k).binds = []))
    ∧ Accepts (wc 3) Att.i3c CMB.CTL.CMD.addr (2 ^ 22 + 7 * 2 ^ 24 + 2 * 2 ^ 28) ∧ ((wc 3).sound ∧ 190 ∈ groupCells ((2 ^ 22
       + 7 * 2 ^ 24 + 2 * 2 ^ 28) % 2 ^ 23) ((2 ^ 22 + 7 * 2 ^ 24 + 2 * 2 ^ 28) / 2 ^ 24 % 8) ∧ (2 ^ 22 + 7 * 2 ^ 24 + 2 * 2
       ^ 28) / 2 ^ 28 = 2 ∧ (∀ (k : Nat), k ∈ groupCells ((2 ^ 22 + 7 * 2 ^ 24 + 2 * 2 ^ 28) % 2 ^ 23) ((2 ^ 22 + 7 * 2 ^ 24
       + 2 * 2 ^ 28) / 2 ^ 24 % 8) → ((wc 3).cell k).dma = [] ∧ ((wc 3).cell k).binds = [])) :=
  ⟨accepts (by decide +kernel), both (by decide +kernel), accepts (by decide +kernel), both (by decide +kernel), accepts
   (by decide +kernel), both (by decide +kernel), accepts (by decide +kernel), both (by decide +kernel), accepts
   (by decide +kernel), both (by decide +kernel), accepts (by decide +kernel), by decide +kernel, accepts
   (by decide +kernel), both (by decide +kernel)⟩

theorem witness_WindowWritesStore :
    (∀ (p : Nat), Att.i3c = Att.port p → w9.hears p = true) ∧ (w9.sound ∧ 4278190085 < 2 ^ 32 ∧ (w9.window Att.i3c).fst = 9
       ∧ (w9.window Att.i3c).snd.snd = 0 ∧ w9.regionStatus Att.i3c (4 * 63) 4278190085 = 0)
    ∧ (∀ (p : Nat), Att.i3c = Att.port p → w10.hears p = true) ∧ (w10.sound ∧ 33788 % 4 = 0 ∧ (w10.window Att.i3c).fst = 11
       ∧ w10.regionStatus Att.i3c ((w10.window Att.i3c).snd.snd * 32768 + (33788 - 32768)) 4278190085 = 0) :=
  ⟨(fun _ h => nomatch h), both (by decide +kernel), (fun _ h => nomatch h), both (by decide +kernel)⟩

theorem witness_ArchiveCommandsAct :
    Accepts w11 Att.i3c DRM.ARCH_TRIM.RECORD.addr 3 ∧ ((∀ (r : ArcRec), r ∈ w11.arc.recs → r.claims = []) ∧ (List.map
       ArcRec.number w11.arc.recs).Nodup)
    ∧ Accepts w11 Att.i3c DRM.MAP.GRAIN.addr 10 ∧ (10 % 2 ^ DRM.MAP.GRAIN.width ≠ w11.rd DRM.MAP.GRAIN ∧ 0 < w11.rd
       DRM.ARCH_SIZE.PAGES)
    ∧ Accepts w11 Att.i3c DRM.ARCH_CFG.IDX_PAGES.addr 65 ∧ ([DRM.ARCH_CFG.IDX_PAGES, DRM.ARCH_BASE.PAGES,
       DRM.ARCH_SIZE.PAGES][0]? = some DRM.ARCH_CFG.IDX_PAGES ∧ 65 % 2 ^ DRM.ARCH_CFG.IDX_PAGES.width ≠ w11.rd
       DRM.ARCH_CFG.IDX_PAGES) :=
  ⟨accepts (by decide +kernel), by decide +kernel, accepts (by decide +kernel), by decide +kernel, accepts
   (by decide +kernel), by decide +kernel⟩

theorem witness_PortCommandsAct :
    Accepts (wp 63) Att.i3c (HPT.Pp_CTL.EN 63).addr 0 ∧ ((wp 63).sound ∧ 0 % 8 = 0 ∧ (wp 63).on (HPT.Pp_CTL.EN 63) = true)
    ∧ Accepts w0 Att.i3c (HPT.Pp_CTL.EN 63).addr 1 ∧ (w0.sound ∧ 1 % 8 = 1)
    ∧ Accepts ((wp 63).put (HPT.Pp_STATUS.CLOSED 63) true) Att.i3c (HPT.Pp_CTL.EN 63).addr 5 ∧ (((wp 63).put
       (HPT.Pp_STATUS.CLOSED 63) true).sound ∧ 5 = ((wp 63).put (HPT.Pp_STATUS.CLOSED 63) true).rd (HPT.Pp_CTL.EN 63) + 2 *
       ((wp 63).put (HPT.Pp_STATUS.CLOSED 63) true).rd (HPT.Pp_CTL.JUMBO 63) + 4)
    ∧ Accepts (wp 63) Att.i3c (HPT.Gg_CFG.MODE 15).addr 1 ∧ 1 % 2 ≠ (wp 63).rd (HPT.Gg_CFG.MODE 15)
    ∧ Accepts alt1 Att.i3c WAG.VIEW.PORT.addr (63 + 256) ∧ (alt1.sound ∧ (63 + 256).testBit 8 = true) :=
  ⟨accepts (by decide +kernel), both (by decide +kernel), accepts (by decide +kernel), both (by decide +kernel), accepts
   (by decide +kernel), both (by decide +kernel), accepts (by decide +kernel), by decide +kernel, accepts
   (by decide +kernel), both (by decide +kernel)⟩

theorem witness_MonitorAndDisplayCommandsAct_1 :
    Accepts w0 Att.i3c (if true = true then WIN.Ww_THR.U 23 else WIN.Ww_CFG.ATTN 23).addr 100 ∧ (w0.written Att.i3c (if true
       = true then WIN.Ww_THR.U 23 else WIN.Ww_CFG.ATTN 23).addr 100 ≠ [] ∧ w0.mon.rb = none)
    ∧ Accepts w0 Att.i3c WIN.RB_CTL.GO.addr (2 ^ 24 + 23) ∧ (2 ^ 24 + 23).testBit 24 = true
    ∧ Accepts w0 Att.i3c MCV.CTL.CAL.addr 2
    ∧ Accepts w12 Att.i3c MCV.CTL.CAL.addr 4 ∧ (∀ (r : InjReq), r ∈ w12.mon.queue → r.aborted = false)
    ∧ Accepts w0 Att.i3c MCV.CTL.CAL.addr 1 ∧ (w0.on MCV.STATUS.CAL_BUSY = false ∧ w0.injStands = false)
    ∧ Accepts w12 Att.i3c MCV.CTL.CAL.addr 1 ∧ (w12.on MCV.STATUS.CAL_BUSY = false ∧ w12.injStands = true)
    ∧ Accepts w13 Att.i3c MCV.CFG.INJ_EN.addr (1000 * 2 ^ 16) ∧ (1000 * 2 ^ 16 % 2 = 0 ∧ w13.on MCV.CFG.INJ_EN = true) :=
  ⟨accepts (by decide +kernel), by decide +kernel, accepts (by decide +kernel), by decide +kernel, accepts
   (by decide +kernel), accepts (by decide +kernel), by decide +kernel, accepts (by decide +kernel), by decide +kernel,
   accepts (by decide +kernel), by decide +kernel, accepts (by decide +kernel), by decide +kernel⟩

theorem witness_MonitorAndDisplayCommandsAct_2 :
    Accepts (w0.wr PRO.STATUS.STATE 2) Att.i3c PRO.CTL.COMMIT.addr 1 ∧ (Nat.testBit 1 0 = true ∧ (w0.wr PRO.STATUS.STATE
       2).proAtOnce = false)
    ∧ Accepts (w0.wr PRO.STATUS.STATE 0) Att.i3c PRO.CTL.COMMIT.addr 1 ∧ (w0.wr PRO.STATUS.STATE 0).proAtOnce = true
    ∧ (∀ (p : Nat), Att.i3c = Att.port p → alt2.hears p = true ∧ (alt2.port p).rights.testBit 1 = true) :=
  ⟨accepts (by decide +kernel), by decide +kernel, accepts (by decide +kernel), by decide +kernel, (fun _ h => nomatch h)⟩

theorem witness_SecurityCommandsAct :
    Accepts w14 Att.i3c SEC.TOKEN_CTL.SUBMIT.addr (2 ^ 16 + 7880) ∧ ((2 ^ 16 + 7880).testBit 16 = true ∧ w14.sec.token =
       none ∧ parseToken (Memory.read 0 w14.sec.aperture 0 ((2 ^ 16 + 7880) % 2 ^ 15)) Att.i3c = some alt3 ∧ le (Memory.read
       0 w14.sec.aperture 0 ((2 ^ 16 + 7880) % 2 ^ 15)) 8 8 = w14.led.serial ∧ (alt3.signer = 1 → w14.led.owner ≠ none) ∧ (∀
       (x : Nat), (if alt3.signer = 1 then w14.sec.lastInst else w14.sec.lastMaker) = some x → x + ticksOfS 1 ≤ w14.now) ∧
       (if alt3.signer = 1 then w14.led.instCnt else w14.led.makerCnt) < alt3.counter ∧ (alt3.counter ≠ 4294967295 ∨
       (Memory.read 0 w14.sec.aperture 0 ((2 ^ 16 + 7880) % 2 ^ 15)).getD 3 0 = 1))
    ∧ Accepts alt4 Att.i3c SEC.TOKEN_CTL.SUBMIT.addr (2 ^ 16 + 1) ∧ ((2 ^ 16 + 1).testBit 16 = true ∧ alt4.sec.token = some
       alt3)
    ∧ Accepts w0 Att.i3c SEC.ATTEST_CTL.GO.addr 1 ∧ Nat.testBit 1 0 = true
    ∧ Accepts w0 Att.i3c LGR.EXPORT_CTL.GO.addr 1 ∧ w0.led.audit.length + 1 < 16384 :=
  ⟨accepts (by decide +kernel), by decide +kernel, accepts (by decide +kernel), by decide +kernel, accepts
   (by decide +kernel), by decide +kernel, accepts (by decide +kernel), by decide +kernel⟩

theorem witness_SystemCommandsAct :
    Accepts w15 Att.i3c PRF.CTL.SWITCH.addr (256 + 3) ∧ (256 + 3 = 256 + (256 + 3) % 8 ∧ w15.adopting = false)
    ∧ Accepts alt5 Att.i3c PRF.CTL.SWITCH.addr (256 + 3) ∧ alt5.adopting = true
    ∧ Accepts w0 Att.i3c PRF.STAGE.CHECK.addr (2 ^ 16 + 3) ∧ (2 ^ 16 + 3).testBit 16 = true
    ∧ Accepts alt6 Att.i3c SYS.CTL.DARK.addr 1 ∧ (∀ (c : Nat), c < 192 → alt6.cellExecutes c = false)
    ∧ Accepts ((w0.wr SYS.STATE.STATE devDark).put SYS.WAKE_CFG.I3C true) Att.i3c SYS.CTL.WAKE.addr 2 ∧ (((w0.wr
       SYS.STATE.STATE devDark).put SYS.WAKE_CFG.I3C true).on SYS.WAKE_CFG.I3C = true ∧ ((w0.wr SYS.STATE.STATE devDark).put
       SYS.WAKE_CFG.I3C true).boot.heldWake = none ∧ (((w0.wr SYS.STATE.STATE devDark).put SYS.WAKE_CFG.I3C true).dev =
       devDark ∨ ((w0.wr SYS.STATE.STATE devDark).put SYS.WAKE_CFG.I3C true).on SYS.STATE.ENTERING = true)) :=
  ⟨accepts (by decide +kernel), by decide +kernel, accepts (by decide +kernel), by decide +kernel, accepts
   (by decide +kernel), by decide +kernel, accepts (by decide +kernel), by decide +kernel, accepts (by decide +kernel),
   by decide +kernel⟩

theorem witness_AuthCommandsAct :
    Accepts w0 Att.i3c I3C.AUTH_CTL.GO.addr 1
    ∧ Accepts alt7 Att.i3c I3C.AUTH_CTL.GO.addr 2 ∧ alt7.now < alt7.i3c.backoffUntil
    ∧ Accepts w16 Att.i3c I3C.AUTH_CTL.GO.addr 2 ∧ (w16.i3c.backoffUntil ≤ w16.now ∧ w16.keyEntry (w16.rd
       I3C.AUTH_HOST.HOST_ID) = some alt8 ∧ w16.i3c.nonceLive = true ∧ hmac alt8.key (ascii "WAGGLE-I" ++ leBytes 8
       w16.led.serial ++ leBytes 4 (w16.rd I3C.AUTH_HOST.HOST_ID) ++ w16.words8 I3C.AUTH_NONCEk.WORD) = w16.words8
       I3C.AUTH_MACk.WORD)
    ∧ Accepts (w16.wr (I3C.AUTH_MACk.WORD 0) 0) Att.i3c I3C.AUTH_CTL.GO.addr 2 ∧ (∀ (h : HostKey), (w16.wr
       (I3C.AUTH_MACk.WORD 0) 0).keyEntry ((w16.wr (I3C.AUTH_MACk.WORD 0) 0).rd I3C.AUTH_HOST.HOST_ID) = some h → (w16.wr
       (I3C.AUTH_MACk.WORD 0) 0).i3c.nonceLive = true → hmac h.key (ascii "WAGGLE-I" ++ leBytes 8 (w16.wr
       (I3C.AUTH_MACk.WORD 0) 0).led.serial ++ leBytes 4 ((w16.wr (I3C.AUTH_MACk.WORD 0) 0).rd I3C.AUTH_HOST.HOST_ID) ++
       (w16.wr (I3C.AUTH_MACk.WORD 0) 0).words8 I3C.AUTH_NONCEk.WORD) ≠ (w16.wr (I3C.AUTH_MACk.WORD 0) 0).words8
       I3C.AUTH_MACk.WORD) ∧ (w16.wr (I3C.AUTH_MACk.WORD 0) 0).i3c.backoffUntil ≤ (w16.wr (I3C.AUTH_MACk.WORD 0) 0).now
    ∧ Accepts w0 Att.i3c I3C.AUTH_CTL.GO.addr 4 ∧ w0.i3c.flashOp = none :=
  ⟨accepts (by decide +kernel), accepts (by decide +kernel), by decide +kernel, accepts (by decide +kernel),
   by decide +kernel, accepts (by decide +kernel), some_of (by decide +kernel), by decide +kernel, accepts
   (by decide +kernel), by decide +kernel⟩

theorem witness_FlashCommandsAct :
    (Accepts w17 Att.i3c I3C.FLASH_CTL.GO.addr (256 + 1) ∧ w17.flashBad Att.i3c 1 = 0) ∧ w17.led.audit.length + 2 < 16128
    ∧ (Accepts w18 Att.i3c I3C.FLASH_CTL.GO.addr (256 + 2) ∧ w18.flashBad Att.i3c 2 = 0) ∧ w18.led.audit.length + 2 < 16128
    ∧ (Accepts w18 Att.i3c I3C.FLASH_CTL.GO.addr (256 + 3) ∧ w18.flashBad Att.i3c 3 = 0)
    ∧ (Accepts w18 Att.i3c I3C.FLASH_CTL.GO.addr (256 + 4) ∧ w18.flashBad Att.i3c 4 = 0)
    ∧ (Accepts w18 Att.i3c I3C.FLASH_CTL.GO.addr (256 + 5) ∧ w18.flashBad Att.i3c 5 = 0)
    ∧ (Accepts w18 Att.i3c I3C.FLASH_CTL.GO.addr (256 + 6) ∧ w18.flashBad Att.i3c 6 = 0) :=
  ⟨⟨accepts (by decide +kernel), by decide +kernel⟩, by decide +kernel, ⟨accepts (by decide +kernel), by decide +kernel⟩,
   by decide +kernel, ⟨accepts (by decide +kernel), by decide +kernel⟩, ⟨accepts (by decide +kernel), by decide +kernel⟩,
   ⟨accepts (by decide +kernel), by decide +kernel⟩, ⟨accepts (by decide +kernel), by decide +kernel⟩⟩

theorem witness_ResetsRestart :
    w0.i3c.flashOp = none
    ∧ w0.boot.inReset = false
    ∧ (w20.i3c.flashOp = none ∧ w20.boot.inReset = true ∧ w20.boot.lowSince + ticksOfUs 10 ≤ w20.now ∧ (tapHolds
       w20.boot.tap = false ∨ w20.boot.resetLow = false) ∧ w20.led.releasePending = false ∧ w20.dev = devStart ∧ w20.rd
       SYS.STATE.STEP = 1)
    ∧ (w21.i3c.flashOp = none ∧ w21.boot.inReset = true ∧ w21.boot.lowSince + ticksOfUs 10 ≤ w21.now ∧ tapHolds w21.boot.tap
       = false ∧ w21.led.releasePending = true)
    ∧ (w22.i3c.flashOp = none ∧ w22.boot.inReset = true ∧ w22.boot.lowSince + ticksOfUs 10 ≤ w22.now ∧ tapHolds w22.boot.tap
       = true ∧ w22.boot.resetLow = true) :=
  by decide +kernel

theorem witness_StartUpAdvances_1 :
    ((ws 1).sound ∧ (ws 1).starting = true ∧ (ws 1).rd SYS.STATE.STEP = 1)
    ∧ ((ws 2).sound ∧ (ws 2).starting = true ∧ (ws 2).rd SYS.STATE.STEP = 2)
    ∧ ((ws 3).sound ∧ (ws 3).starting = true ∧ (ws 3).rd SYS.STATE.STEP = 3)
    ∧ (alt9.sound ∧ alt9.starting = true ∧ alt9.rd SYS.STATE.STEP = 5 ∧ alt9.image = some alt10)
    ∧ (((ws 6).put CLK.REF.OK true).sound ∧ ((ws 6).put CLK.REF.OK true).starting = true ∧ ((ws 6).put CLK.REF.OK true).rd
       SYS.STATE.STEP = 6 ∧ ((ws 6).put CLK.REF.OK true).on CLK.REF.OK = true)
    ∧ ((ws 6).sound ∧ (ws 6).starting = true ∧ (ws 6).rd SYS.STATE.STEP = 6 ∧ (ws 6).on CLK.REF.OK = false)
    ∧ (alt11.sound ∧ alt11.starting = true ∧ alt11.rd SYS.STATE.STEP = 7 ∧ (∀ (n : Nat), n < 6 → alt11.on
       (CLK.PLLn_STATUS.LOCKED n) = true)) :=
  ⟨both (by decide +kernel), both (by decide +kernel), both (by decide +kernel), both (by decide +kernel), both
   (by decide +kernel), both (by decide +kernel), both (by decide +kernel)⟩

theorem witness_StartUpAdvances_2 :
    (((ws 8).put MCV.STATUS.CAL_DONE true).sound ∧ ((ws 8).put MCV.STATUS.CAL_DONE true).starting = true ∧ ((ws 8).put
       MCV.STATUS.CAL_DONE true).rd SYS.STATE.STEP = 8 ∧ ((ws 8).put MCV.STATUS.CAL_DONE true).on MCV.STATUS.CAL_BUSY =
       false ∧ ((ws 8).put MCV.STATUS.CAL_DONE true).on MCV.STATUS.CAL_DONE = true)
    ∧ ((ws 9).sound ∧ (ws 9).starting = true ∧ (ws 9).rd SYS.STATE.STEP = 9)
    ∧ ((ws 10).sound ∧ (ws 10).starting = true ∧ (ws 10).rd SYS.STATE.STEP = 10)
    ∧ (alt12.sound ∧ alt12.starting = true ∧ alt12.rd SYS.STATE.STEP = 11 ∧ (alt12.calCh 0).accepted = true ∧ (∀ (i : Nat),
       i < 65 → alt12.on (TDC.INi_STATUS.TESTING i) = false))
    ∧ (alt13.sound ∧ alt13.starting = true ∧ alt13.rd SYS.STATE.STEP = 12 ∧ alt13.profileOf alt13.boot.psel = some pr3 ∧ (∀
       (n : Nat), n < 8 → alt13.chState n = chStopped) ∧ alt13.on CAP.ROLL_STATUS.OPEN = false ∧ (∀ (c : Nat), c < 192 →
       alt13.cellExecutes c = false) ∧ pr3.acqMode ≠ alt13.rd ADC.MODE.MODE) :=
  ⟨both (by decide +kernel), both (by decide +kernel), both (by decide +kernel), both (by decide +kernel), both
   (by decide +kernel)⟩

theorem witness_StartUpFaultsHalt :
    ((ws 1).starting = true ∧ (startReasons ((ws 1).rd SYS.STATE.STEP)).contains 2049 = true)
    ∧ ((ws 3).starting = true ∧ (ws 3).rd SYS.STATE.STEP = 3 ∧ (3 < 4 ∨ 64 < 3))
    ∧ ((ws 4).starting = true ∧ (ws 4).rd SYS.STATE.STEP = 4 ∧ (ws 4).verify ((Option.map Owner.addr (ws 4).led.owner).getD
       0) true true false = (1, none))
    ∧ ((ws 1).boot.powerOn = true ∧ (ws 1).rd SYS.STATE.STEP = 1 ∧ (ws 1).boot.startAt + ticksOfMs 2 ≤ (ws 1).now) :=
  by decide +kernel

theorem witness_FaultsHalt :
    (w0.dev ≠ devHalted ∧ 1538 ∈ haltReasons ∧ w0.boot.inReset = false)
    ∧ ((w23 2).dev ≠ devHalted ∧ (w23 2).mon.streaks.getD 11 0 = 2)
    ∧ ((w23 1).dev ≠ devHalted ∧ (w23 1).mon.streaks.getD 11 0 < 2)
    ∧ (alt14.dev ≠ devHalted ∧ alt14.sec.signing ≠ 0 ∧ alt14.sec.signAt + ticksOfMs 100 ≤ alt14.now)
    ∧ (w0.up = true ∧ w0.sec.katAt + ticksOfS 1 ≤ w0.now)
    ∧ (w24.dev = devHalted ∧ w24.boot.inReset = false ∧ 1025 ∈ haltReasons ∧ (w24.now ≠ w24.boot.haltAt ∨ w24.rd
       FLT.REASON.CODE ≤ 1025))
    ∧ (265 ∈ haltReasons ∧ w24.now = w24.boot.haltAt ∧ 265 < w24.rd FLT.REASON.CODE) :=
  by decide +kernel

theorem witness_PllLockTimeoutHalts :
    ((w25 devIdle).dev ≠ devHalted ∧ (w25 devIdle).pllEnabled 5 = true ∧ (w25 devIdle).on CLK.REF.OK = true ∧ (w25
       devIdle).on (CLK.PLLn_STATUS.LOCKED 5) = false ∧ (w25 devIdle).clk.since.getD 5 none = some 10 ∧ 10 + ticksOfMs 10 ≤
       (w25 devIdle).now) :=
  by decide +kernel

theorem witness_VernierLockTimeoutHalts :
    ((w25 devIdle).dev ≠ devHalted ∧ (w25 devIdle).dev ≠ devDark ∧ (w25 devIdle).clk.tbRuns = true ∧ (w25
       devIdle).pll0Locked = true ∧ (((w25 devIdle).tin 64).units.getD 1 { }).locked = false ∧ (((w25 devIdle).tin
       64).units.getD 1 { }).since + ticksOfMs 10 ≤ (w25 devIdle).now ∧ (w25 devIdle).tdc.enabledAt + ticksOfMs 10 ≤ (w25
       devIdle).now) :=
  by decide +kernel

theorem witness_ReferenceAndLocks :
    w0.on CLK.REF.OK = true
    ∧ (w0.put CLK.REF.OK false).on CLK.REF.OK = false
    ∧ (withinPct 10300 ((w30.put CLK.REF.OK false).put (CLK.PLLn_STATUS.COAST 5) true).refKhz 3 = true ∧ ((w30.put
       CLK.REF.OK false).put (CLK.PLLn_STATUS.COAST 5) true).clk.refGood = 3 ∧ ((w30.put CLK.REF.OK false).put
       (CLK.PLLn_STATUS.COAST 5) true).on CLK.REF.OK = false)
    ∧ (withinPct 10301 (w30.put (CLK.PLLn_STATUS.LOCKED 0) false).refKhz 3 = false ∧ (w30.put (CLK.PLLn_STATUS.LOCKED 0)
       false).pll0Locked = false ∧ (w30.put (CLK.PLLn_STATUS.LOCKED 0) false).on CLK.REF.OK = true)
    ∧ ((w30.wr DRM.STATE.STATE 1).pllEnabled 5 = true ∧ (w30.wr DRM.STATE.STATE 1).on CLK.REF.OK = true ∧ (-2).natAbs ≤ 2 ∧
       (w30.wr DRM.STATE.STATE 1).clk.good.getD 5 0 = 3 ∧ (w30.wr DRM.STATE.STATE 1).clk.good.length = 6 ∧ (w30.wr
       DRM.STATE.STATE 1).on (CLK.PLLn_STATUS.LOCKED 5) = false)
    ∧ (((w30.wr DRM.STATE.STATE 1).put (CLK.PLLn_STATUS.LOCKED 5) true).pllEnabled 5 = true ∧ ((w30.wr DRM.STATE.STATE
       1).put (CLK.PLLn_STATUS.LOCKED 5) true).on CLK.REF.OK = true ∧ 8 < Int.natAbs 9 ∧ ((w30.wr DRM.STATE.STATE 1).put
       (CLK.PLLn_STATUS.LOCKED 5) true).on (CLK.PLLn_STATUS.LOCKED 5) = true) :=
  by decide +kernel

theorem witness_ClockEvents :
    (w31.on CLK.CTL.PENDING = true ∧ w31.on CLK.REF.OK = true ∧ w31.clk.freqNext.getD (w31.clk.freq.getD 1 0) =
       w31.clk.freq.getD 1 0)
    ∧ (alt15.on CLK.CTL.PENDING = true ∧ alt15.on CLK.REF.OK = true ∧ alt15.clk.freqNext = some 900000 ∧ 900000 ≠
       alt15.clk.freq.getD 1 0)
    ∧ (w0.put TB.STATE.REPHASE true).on TB.STATE.REPHASE = true
    ∧ (w32.live = true ∧ w32.dev ≠ devDark ∧ w32.clk.tbRuns = true ∧ w32.on ADC.SCLK.OK = false ∧ w32.cal.sclkGood = 63 ∧
       w32.cap.heldStart = 0)
    ∧ 4000000 > 3999999
    ∧ (w0.on ADC.SCLK.OK = true ∧ w0.live = true ∧ w0.dev ≠ devDark ∧ w0.on CAP.ROLL_STATUS.OPEN = false ∧ w0.capturing = []
       ∧ w0.mon.rb = none)
    ∧ ((w0.put ADC.SCLK.OK false).on ADC.SCLK.OK = false ∧ (w0.put ADC.SCLK.OK false).live = true ∧ (w0.put ADC.SCLK.OK
       false).dev ≠ devDark) :=
  by decide +kernel

theorem witness_MarkersAndSync :
    (w0.sound ∧ w0.live = true ∧ w0.boot.inReset = false ∧ w0.dev ≠ devDark ∧ w0.on ADC.SCLK.OK = true)
    ∧ ((w0.put ADC.SCLK.OK false).sound ∧ (w0.put ADC.SCLK.OK false).live = true ∧ (w0.put ADC.SCLK.OK false).boot.inReset =
       false ∧ (w0.put ADC.SCLK.OK false).dev ≠ devDark ∧ (w0.put ADC.SCLK.OK false).on ADC.SCLK.OK = false)
    ∧ (w33.sound ∧ w33.live = true ∧ w33.boot.inReset = false ∧ w33.dev ≠ devDark ∧ w33.dev = devIdle ∧ w33.on
       TB.SET_CTL.ARM = true ∧ w33.pll0Locked = true ∧ w33.led.audit.length < 16384 ∧ (∀ (n : Nat), n < 8 → w33.listens n =
       false))
    ∧ ((w33.put (CLK.PLLn_STATUS.LOCKED 0) false).sound ∧ (w33.put (CLK.PLLn_STATUS.LOCKED 0) false).live = true ∧ (w33.put
       (CLK.PLLn_STATUS.LOCKED 0) false).boot.inReset = false ∧ (w33.put (CLK.PLLn_STATUS.LOCKED 0) false).dev ≠ devDark ∧
       (w33.put (CLK.PLLn_STATUS.LOCKED 0) false).dev = devIdle ∧ (w33.put (CLK.PLLn_STATUS.LOCKED 0) false).on
       TB.SET_CTL.ARM = true ∧ (w33.put (CLK.PLLn_STATUS.LOCKED 0) false).pll0Locked = false ∧ (∀ (n : Nat), n < 8 →
       (w33.put (CLK.PLLn_STATUS.LOCKED 0) false).listens n = false))
    ∧ (w2.sound ∧ w2.live = true ∧ w2.boot.inReset = false ∧ w2.dev ≠ devDark ∧ w2.dev = devActive ∧ w2.on TB.SET_CTL.ARM =
       false)
    ∧ ((w0.wr SYS.STATE.STATE devStart).sound ∧ (w0.wr SYS.STATE.STATE devStart).live = true ∧ (w0.wr SYS.STATE.STATE
       devStart).boot.inReset = false ∧ (w0.wr SYS.STATE.STATE devStart).dev ≠ devDark ∧ (w0.wr SYS.STATE.STATE
       devStart).dev = devStart ∧ (w0.wr SYS.STATE.STATE devStart).on TB.SET_CTL.ARM = false) :=
  ⟨both (by decide +kernel), both (by decide +kernel), both (by decide +kernel), both (by decide +kernel), both
   (by decide +kernel), both (by decide +kernel)⟩

theorem witness_SamplesAdvance :
    ((w34 0).sound ∧ (w34 0).up = true ∧ (w34 0).isLead 7 = true ∧ (w34 0).on ADC.SCLK.OK = true ∧ (w34 0).cal.modeCal =
       false ∧ raw7.length = 7 ∧ ((w34 0).cch 7).pos ≤ 33 ∧ (∀ (x : Nat), x ∈ raw7 → x < 4096)) :=
  both (by decide +kernel)

theorem witness_ChannelBoundaries :
    ((wch 1).sound ∧ (wch 1).isLead 7 = true ∧ (wch 1).up = true ∧ (wch 1).chState 7 = chPriming ∧ (wch 1).on
       (CAP.CHn_STATUS.IN_ROLL 7) = true ∧ ((wch 1).cch 7).invalid = 0 ∧ ((wch 1).cch 7).priming = 0)
    ∧ (w35.sound ∧ w35.isLead 7 = true ∧ w35.up = true ∧ (w35.cch 7).rangeNext = some 3 ∧ w35.atSliceClock 7 = true ∧
       (w35.cch 7).openF = none ∧ (w35.cch 7).liveF = none ∧ w35.chState 7 = chStopped)
    ∧ (w36.sound ∧ w36.isLead 7 = true ∧ w36.up = true ∧ (w36.cch 7).rangeNext = some 3 ∧ w36.atSliceClock 7 = true ∧
       (w36.cch 7).openF = none ∧ (w36.cch 7).liveF = none ∧ w36.chState 7 ≠ chStopped)
    ∧ (alt16.sound ∧ alt16.isLead 7 = true ∧ alt16.up = true ∧ alt16.chState 7 = chHoldoff ∧ (alt16.armedFrom 7).isSome =
       true ∧ alt16.cap.ending = none ∧ (alt16.tch 7).hold.runs alt16.tb = false ∧ alt16.on (CAP.CHn_CFG.KIND 7) = false) :=
  ⟨both (by decide +kernel), both (by decide +kernel), both (by decide +kernel), both (by decide +kernel)⟩

theorem witness_ModeChanges :
    (alt17.sound ∧ alt17.cap.heldStart = 0 ∧ alt17.cal.modeNext = some 2 ∧ alt17.dev = devIdle ∧ alt17.cal.modeCal = false ∧
       alt17.rbRuns = false ∧ (∀ (m : Nat), m < 8 → alt17.rd (CAL.STATE.PASS m) ≠ 2))
    ∧ (w37.sound ∧ w37.cap.heldStart = 0 ∧ w37.cal.modeCal = true ∧ w37.calAllDone = true ∧ w37.up = true) :=
  ⟨both (by decide +kernel), both (by decide +kernel)⟩

theorem witness_PassesStart :
    (w38.sound ∧ w38.up = true ∧ (w38.calCh 7).passed = true ∧ ticksOfS (w38.rd CAL.OVERDUE.SECONDS) < w38.now - (w38.calCh
       7).endNow ∧ w38.rd (CAL.STATE.PASS 7) = 0)
    ∧ ((w39 1).sound ∧ (w39 1).up = true ∧ (w39 1).rd (CAL.STATE.PASS 7) = 1 ∧ (w39 1).on ADC.SCLK.OK = true ∧ (w39 1).on
       SYS.STATE.ENTERING = false ∧ (((w39 1).calCh 7).passed = false ∨ ((w39 1).calCh 7).startNow + ticksOfS 2 ≤ (w39
       1).now) ∧ (w39 1).rd (ADC.STATUS.SPARE 7) < 17 ∧ (w39 1).rd (ADC.SLICEk.ROLE 7 ((w39 1).rd (ADC.STATUS.SPARE 7))) =
       1)
    ∧ ((w39 3).sound ∧ (w39 3).up = true ∧ (w39 3).rd (CAL.STATE.PASS 7) = 3 ∧ (w39 3).on ADC.SCLK.OK = true ∧ (w39 3).on
       SYS.STATE.ENTERING = false ∧ ((w39 3).calCh 7).deferredAt + ticksOfS 10 ≤ (w39 3).now)
    ∧ ((w0.wr (CAL.STATE.PASS 0) 4).sound ∧ (w0.wr (CAL.STATE.PASS 0) 4).up = true ∧ (w0.wr (CAL.STATE.PASS 0) 4).rd
       (CAL.STATE.PASS 0) = 4 ∧ (w0.wr (CAL.STATE.PASS 0) 4).cal.startBegun = false ∧ (w0.wr (CAL.STATE.PASS 0) 4).on
       ADC.SCLK.OK = true ∧ ((w0.wr (CAL.STATE.PASS 0) 4).cal.startDeferred = false ∨ ((w0.wr (CAL.STATE.PASS 0) 4).calCh
       0).deferredAt + ticksOfS 10 ≤ (w0.wr (CAL.STATE.PASS 0) 4).now))
    ∧ (w38.on (CAL.STATE.OVERDUE 7) = false ∧ w38.overdueHolds 7 = true) :=
  ⟨both (by decide +kernel), both (by decide +kernel), both (by decide +kernel), both (by decide +kernel), by decide +kernel⟩

theorem witness_PassResults :
    (alt201.sound ∧ alt201.up = true ∧ alt201.on ADC.SCLK.OK = true ∧ z8.length = 8 ∧ z8.length = 8 ∧ z8.length = 8 ∧
       alt201.rd (CAL.STATE.PASS 7) = 2 ∧ (alt201.calCh 7).leaving = none ∧ alt201.rd (CAL.STATE.SLICE 7) = 16 ∧ alt201.rd
       (ADC.SLICEk.ROLE 7 16) = 2 ∧ alt201.rd (CAL.STATE.DONE 7) ≤ 16 ∧ alt201.rd (CAL.STATE.DONE 7) = 0 ∧ alt201.ratioOk
       (staticRatio z8 z8 z8) = false)
    ∧ (w40.sound ∧ w40.up = true ∧ w40.on ADC.SCLK.OK = true ∧ w40.rd (CAL.STATE.PASS 7) = 2 ∧ (w40.calCh 7).leaving = none
       ∧ w40.rd (CAL.STATE.SLICE 7) = 16 ∧ w40.rd (ADC.SLICEk.ROLE 7 16) = 2 ∧ w40.rd (CAL.STATE.DONE 7) ≤ 16 ∧ (w40.rd
       (CAL.STATE.DONE 7) = 0 → w40.ratioOk (staticRatio z8 z8 z8) = true) ∧ ((if (if w40.rd (CAL.STATE.DONE 7) = 0 then
       w40.ratioTake 7 (staticRatio z8 z8 z8) else w40).staticJudge 7 16 0 z8 z8 z8 = 0 ∧ w40.rd (CAL.STATE.DONE 7) < 16 ∧
       400 < ((if w40.rd (CAL.STATE.DONE 7) = 0 then w40.ratioTake 7 (staticRatio z8 z8 z8) else w40).nextTrim 7 16).natAbs
       then 9 else (if w40.rd (CAL.STATE.DONE 7) = 0 then w40.ratioTake 7 (staticRatio z8 z8 z8) else w40).staticJudge 7 16
       0 z8 z8 z8) = 0) ∧ w40.rd (CAL.STATE.DONE 7) < 16)
    ∧ ((w40d 16).sound ∧ (w40d 16).up = true ∧ (w40d 16).on ADC.SCLK.OK = true ∧ (w40d 16).rd (CAL.STATE.PASS 7) = 2 ∧
       ((w40d 16).calCh 7).leaving = none ∧ (w40d 16).rd (CAL.STATE.SLICE 7) = 16 ∧ (w40d 16).rd (ADC.SLICEk.ROLE 7 16) = 2
       ∧ (w40d 16).rd (CAL.STATE.DONE 7) ≤ 16 ∧ ((w40d 16).rd (CAL.STATE.DONE 7) = 0 → (w40d 16).ratioOk (staticRatio z8 z8
       z8) = true) ∧ ((if (if (w40d 16).rd (CAL.STATE.DONE 7) = 0 then (w40d 16).ratioTake 7 (staticRatio z8 z8 z8) else
       w40d 16).staticJudge 7 16 0 z8 z8 z8 = 0 ∧ (w40d 16).rd (CAL.STATE.DONE 7) < 16 ∧ 400 < ((if (w40d 16).rd
       (CAL.STATE.DONE 7) = 0 then (w40d 16).ratioTake 7 (staticRatio z8 z8 z8) else w40d 16).nextTrim 7 16).natAbs then 9
       else (if (w40d 16).rd (CAL.STATE.DONE 7) = 0 then (w40d 16).ratioTake 7 (staticRatio z8 z8 z8) else w40d
       16).staticJudge 7 16 0 z8 z8 z8) = 0) ∧ (w40d 16).rd (CAL.STATE.DONE 7) = 16 ∧ (w40d 16).mon.rb = none ∧ ((w40d
       16).calCh 7).waiting = none)
    ∧ (((if (if w40.rd (CAL.STATE.DONE 7) = 0 then w40.ratioTake 7 (staticRatio z8 z8 z8) else w40).staticJudge 7 16 1 z8 z8
       z8 = 0 ∧ w40.rd (CAL.STATE.DONE 7) < 16 ∧ 400 < ((if w40.rd (CAL.STATE.DONE 7) = 0 then w40.ratioTake 7 (staticRatio
       z8 z8 z8) else w40).nextTrim 7 16).natAbs then 9 else (if w40.rd (CAL.STATE.DONE 7) = 0 then w40.ratioTake 7
       (staticRatio z8 z8 z8) else w40).staticJudge 7 16 1 z8 z8 z8) ≠ 0) ∧ ((w40.calCh 7).slices.getD 16 { }).strikes < 2) :=
  ⟨both (by decide +kernel), both (by decide +kernel), both (by decide +kernel), by decide +kernel⟩

theorem witness_HandoversAndWindows_1 :
    (w41b.sound ∧ w41b.up = true ∧ w41b.on ADC.SCLK.OK = true ∧ w41b.shadowing 7 = some 16 ∧ w41b.rd (CAL.STATE.PASS 7) = 2
       ∧ (w41b.calCh 7).waiting = none ∧ c64.length = 64 ∧ (List.replicate 64 4000).length = 64 ∧ w41b.handoverCheck
       (w41b.shadowDiffs 7 16 (w41b.rd (ADC.SLICEk.POSITION 7 16)) c64 (List.replicate 64 4000)) = 0 ∧ w41b.stepAllowed
       (w41b.lead 7) = false)
    ∧ (w41.sound ∧ w41.up = true ∧ w41.on ADC.SCLK.OK = true ∧ w41.shadowing 7 = some 16 ∧ w41.rd (CAL.STATE.PASS 7) = 2 ∧
       (w41.calCh 7).waiting = none ∧ w41.handoverCheck (w41.shadowDiffs 7 16 (w41.rd (ADC.SLICEk.POSITION 7 16)) c64
       (List.replicate 64 4000)) = 0 ∧ w41.stepAllowed (w41.lead 7) = true)
    ∧ ((List.replicate 64 100).length = 64 ∧ w41.handoverCheck (w41.shadowDiffs 7 16 (w41.rd (ADC.SLICEk.POSITION 7 16)) c64
       (List.replicate 64 100)) ≠ 0 ∧ ((w41.calCh 7).slices.getD 16 { }).strikes < 2)
    ∧ (w42.sound ∧ w42.up = true ∧ w42.on ADC.SCLK.OK = true ∧ w42.isLead 7 = true ∧ (w42.calCh 7).statN = bgWindow ∧
       eq16.length = w42.posPerSc ∧ (∃ x, x ∈ [(3, 100000)] ∧ x.fst ≤ 16 ∧ w42.lim 108 ≤ x.snd))
    ∧ (∀ (x : Nat × Int), x ∈ [(300, 100000)] → w42.lim 108 - 200 ≤ x.snd → 64 < x.fst)
    ∧ -1 ≠ 0
    ∧ ((w43 3).sound ∧ (w43 3).up = true ∧ (w43 3).on ADC.SCLK.OK = true ∧ (w43 3).rd (CAL.STATE.PASS 7) ≠ 4 ∧ (w43 3).on
       CAL.REF.OK = true ∧ (w43 3).chState 7 = chStopped ∧ ((w43 3).calCh 7).rangeRun = some (3, 1) ∧ rangeFactorOk 16441672
       = true) :=
  ⟨both (by decide +kernel), both (by decide +kernel), by decide +kernel, both (by decide +kernel), by decide +kernel,
   by decide +kernel, both (by decide +kernel)⟩

theorem witness_HandoversAndWindows_2 :
    rangeFactorOk 0 = false :=
  by decide +kernel

theorem witness_StampsAreTaken :
    (w44.sound ∧ w44.clk.tbRuns = true ∧ w44.live = true ∧ w44.dev ≠ devDark ∧ w44.edgeSelected 39 false = true ∧ Option.any
       (fun e ↦ decide (w44.now * 32 + 31 < e + 100)) (w44.tin 39).lastEdge = false ∧ (w44.tin 39).cells.length < 16)
    ∧ (alt19.sound ∧ alt19.clk.tbRuns = true ∧ alt19.live = true ∧ alt19.dev ≠ devDark ∧ alt19.edgeSelected 39 false = true
       ∧ (Option.any (fun e ↦ decide (alt19.now * 32 + 31 < e + 100)) (alt19.tin 39).lastEdge = true ∨ 16 ≤ (alt19.tin
       39).cells.length))
    ∧ ((w44b 63).sound ∧ (w44b 63).clk.tbRuns = true ∧ (w44b 63).live = true ∧ (w44b 63).dev ≠ devDark ∧ (w44b 63).tdc.marks
       = [] ∧ ((w44b 63).tin 63).cells = [res0] ∧ res0.due ≤ (w44b 63).now ∧ (w44b 63).mergeTurn 63 = true)
    ∧ (w45.sound ∧ w45.dev = devDark ∧ w45.on (TDC.INi_CTL.DARK_STAMP 39) = true ∧ w45.edgeSelected 39 false = true ∧
       (w45.tin 39).dark ≠ some w45.keeper ∧ w45.tdc.dark.length < 256) :=
  ⟨both (by decide +kernel), both (by decide +kernel), both (by decide +kernel), both (by decide +kernel)⟩

theorem witness_CurvesAndVerniers :
    (w46.sound ∧ w46.live = true ∧ w46.dev ≠ devDark ∧ flat.length = 256 ∧ w46.on (TDC.INi_STATUS.TESTING 64) = true ∧
       (curveValid (List.map (fun h ↦ (divHalfEven (65536 * Int.ofNat h) 4194304).toNat) flat) && (List.range 256).all fun k ↦ decide
       ((Int.ofNat ((List.map (fun h ↦ (divHalfEven (65536 * Int.ofNat h) 4194304).toNat) flat).getD k 0) - Int.ofNat ((w46.seed 4 64).getD k
       0)).natAbs ≤ 512)) = true)
    ∧ ((List.replicate 256 0).length = 256 ∧ (curveValid (List.map (fun h ↦ (divHalfEven (65536 * Int.ofNat h) 4194304).toNat)
       (List.replicate 256 0)) && (List.range 256).all fun k ↦ decide ((Int.ofNat ((List.map (fun h ↦ (divHalfEven (65536 * Int.ofNat h)
       4194304).toNat) (List.replicate 256 0)).getD k 0) - Int.ofNat ((w46.seed 4 64).getD k 0)).natAbs ≤ 512)) = false ∧ (w46.tin
       64).fails < 2)
    ∧ (alt20.sound ∧ alt20.live = true ∧ alt20.dev ≠ devDark ∧ alt20.on (TDC.INi_STATUS.TESTING 64) = true ∧ (curveValid
       (List.map (fun h ↦ (divHalfEven (65536 * Int.ofNat h) 4194304).toNat) (List.replicate 256 0)) && (List.range 256).all fun k ↦
       decide ((Int.ofNat ((List.map (fun h ↦ (divHalfEven (65536 * Int.ofNat h) 4194304).toNat) (List.replicate 256 0)).getD k 0) -
       Int.ofNat ((alt20.seed 4 64).getD k 0)).natAbs ≤ 512)) = false ∧ 2 ≤ (alt20.tin 64).fails)
    ∧ (w0.sound ∧ w0.live = true ∧ w0.dev ≠ devDark ∧ w0.clk.tbRuns = true ∧ (w0.tin 64).units[1]? = some alt21)
    ∧ (w47.sound ∧ w47.live = true ∧ w47.dev ≠ devDark ∧ w47.clk.tbRuns = true ∧ w47.boot.poolSet = true ∧ 4096 ≤ (w47.tin
       64).tail ∧ (w47.tin 64).loss = none ∧ (w47.tin 64).head = 4096 ∧ w47.cap.spill ≠ [] ∧ w47.tdc.spillFill + 64 ≤ 4096 ∧
       (∀ (p : Nat), p ∈ w47.cap.spill → ∃ x, x ∈ w47.tdc.ins ∧ ∃ r, r ∈ x.runs ∧ r.fst = p ∧ 0 < r.snd)) :=
  ⟨both (by decide +kernel), by decide +kernel, both (by decide +kernel), both (by decide +kernel), both (by decide +kernel)⟩

theorem witness_TriggerEvents_1 :
    ((wq w0 (ev 3 false)).sound ∧ (wq w0 (ev 3 false)).up = true ∧ (wq w0 (ev 3 false)).isLead 7 = true ∧ (wq w0 (ev 3
       false)).seqDue 7 = true ∧ ((wq w0 (ev 3 false)).tch 7).queue = [ev 3 false] ∧ (∀ (i : Nat), i < 64 → ∀ (r : Residue),
       r ∈ ((wq w0 (ev 3 false)).tin i).cells → r.sent = true) ∧ (∀ (m : Nat), m < 8 → ∀ (x : Timer), x ∈ ((wq w0 (ev 3
       false)).tch m).timers → x.on = false) ∧ (wq w0 (ev 3 false)).unnumbered = [] ∧ (wq w0 (ev 3 false)).rd
       (TRG.CHn_SEQ.MODE 7) = 0 ∧ ((ev 3 false).src < 41 ∨ 45 ≤ (ev 3 false).src) ∧ ((wq w0 (ev 3 false)).on
       CAP.ROLL_STATUS.OPEN = true → (wq w0 (ev 3 false)).cap.noPage = false ∧ (wq w0 (ev 3 false)).cap.ending = none ∧ (wq
       w0 (ev 3 false)).inRoll ≠ []) ∧ (¬((ev 3 false).force = true ∨ (ev 3 false).src = 7)))
    ∧ (alt22.sound ∧ alt22.up = true ∧ alt22.isLead 7 = true ∧ alt22.seqDue 7 = true ∧ (alt22.tch 7).queue = [ev 7 false] ∧
       (∀ (i : Nat), i < 64 → ∀ (r : Residue), r ∈ (alt22.tin i).cells → r.sent = true) ∧ (∀ (m : Nat), m < 8 → ∀ (x :
       Timer), x ∈ (alt22.tch m).timers → x.on = false) ∧ alt22.unnumbered = [] ∧ alt22.rd (TRG.CHn_SEQ.MODE 7) = 0 ∧ ((ev 7
       false).src < 41 ∨ 45 ≤ (ev 7 false).src) ∧ (alt22.on CAP.ROLL_STATUS.OPEN = true → alt22.cap.noPage = false ∧
       alt22.cap.ending = none ∧ alt22.inRoll ≠ []) ∧ (ev 7 false).force = false ∧ ((ev 7 false).force = true ∨ (ev 7
       false).src = 7) ∧ (alt22.tch 7).hold.kind ≠ 2 ∧ (alt22.tch 7).hold.runs (ev 7 false).time = true)
    ∧ ((wq w0 (ev 45 true)).sound ∧ (wq w0 (ev 45 true)).up = true ∧ (wq w0 (ev 45 true)).isLead 7 = true ∧ (wq w0 (ev 45
       true)).seqDue 7 = true ∧ ((wq w0 (ev 45 true)).tch 7).queue = [ev 45 true] ∧ (∀ (i : Nat), i < 64 → ∀ (r : Residue),
       r ∈ ((wq w0 (ev 45 true)).tin i).cells → r.sent = true) ∧ (∀ (m : Nat), m < 8 → ∀ (x : Timer), x ∈ ((wq w0 (ev 45
       true)).tch m).timers → x.on = false) ∧ (wq w0 (ev 45 true)).unnumbered = [] ∧ (wq w0 (ev 45 true)).rd
       (TRG.CHn_SEQ.MODE 7) = 0 ∧ ((ev 45 true).src < 41 ∨ 45 ≤ (ev 45 true).src) ∧ ((wq w0 (ev 45 true)).on
       CAP.ROLL_STATUS.OPEN = true → (wq w0 (ev 45 true)).cap.noPage = false ∧ (wq w0 (ev 45 true)).cap.ending = none ∧ (wq
       w0 (ev 45 true)).inRoll ≠ []) ∧ ((ev 45 true).force = true ∨ (ev 45 true).src = 7) ∧ ((ev 45 true).force = true ∨
       ((wq w0 (ev 45 true)).tch 7).hold.runs (ev 45 true).time = false) ∧ ((wq w0 (ev 45 true)).cch 7).cut = none ∧ (wq w0
       (ev 45 true)).armedFor 7 (ev 45 true).time = false)
    ∧ (alt23.sound ∧ alt23.up = true ∧ alt23.isLead 7 = true ∧ alt23.seqDue 7 = true ∧ (alt23.tch 7).queue = [ev 46 true] ∧
       (∀ (i : Nat), i < 64 → ∀ (r : Residue), r ∈ (alt23.tin i).cells → r.sent = true) ∧ (∀ (m : Nat), m < 8 → ∀ (x :
       Timer), x ∈ (alt23.tch m).timers → x.on = false) ∧ alt23.unnumbered = [] ∧ alt23.rd (TRG.CHn_SEQ.MODE 7) = 0 ∧ ((ev
       46 true).src < 41 ∨ 45 ≤ (ev 46 true).src) ∧ (alt23.on CAP.ROLL_STATUS.OPEN = true → alt23.cap.noPage = false ∧
       alt23.cap.ending = none ∧ alt23.inRoll ≠ []) ∧ ((ev 46 true).force = true ∨ (ev 46 true).src = 7) ∧ ((ev 46
       true).force = true ∨ (alt23.tch 7).hold.runs (ev 46 true).time = false) ∧ alt23.armedFor 7 (ev 46 true).time = true ∧
       (alt23.cch 7).stopAt = none)
    ∧ (w48.sound ∧ w48.isLead 7 = true ∧ w48.listens 7 = true ∧ w48.seqTable 7 = some seqTab ∧ ((w48.tch 7).timers.getD 3
       { }).on = true ∧ ((w48.tch 7).timers.getD 3 { }).queued = false ∧ ((w48.tch 7).timers.getD 3 { }).start + seqPeriod
       seqTab 3 * 65536 ≤ w48.tb ∧ (w48.cch 7).stopAt = none ∧ (w48.tch 7).since ≤ ((w48.tch 7).timers.getD 3 { }).start +
       seqPeriod seqTab 3 * 65536)
    ∧ (alt24.sound ∧ (alt24.tch 7).hold = { kind := 1, until_ := some 5 } ∧ 5 ≤ alt24.tb ∧ alt24.on (TRG.CHn_STATUS.HOLDOFF
       7) = true)
    ∧ (alt25.sound ∧ (alt25.tch 7).committed = some [1, 2, 4, 4, 16, 256, 0, 0, 0] ∧ alt25.isLead 7 = true ∧ alt25.up = true
       ∧ alt25.on (CAP.CHn_STATUS.OPEN_FRAME 7) = false) :=
  ⟨both (by decide +kernel), both (by decide +kernel), both (by decide +kernel), both (by decide +kernel), both
   (by decide +kernel), both (by decide +kernel), both (by decide +kernel)⟩

theorem witness_TriggerEvents_2 :
    alt26.sound
    ∧ (w49.sound ∧ w49.rd TRG.CURVE_STATUS.STATUS = 1 ∧ w49.rd TRG.CURVE_STATUS.COLLECTED = 4194304 ∧ w49.led.audit.length <
       16384) :=
  ⟨sound_of (by decide +kernel), both (by decide +kernel)⟩

theorem witness_RollsBegin :
    (alt27.sound ∧ alt27.on ADC.SCLK.OK = true ∧ alt27.tableFree = true ∧ alt27.cap.heldStart ≠ 0 ∧ alt27.up = true ∧
       alt27.prf.resumeAt = none ∧ alt27.prf.adopting ≠ 2 ∧ alt27.rollEnding = false ∧ (∀ (n : Nat), n ∈ alt27.leads →
       alt27.cap.heldStart.testBit n = true → (alt27.cch n).stopAt = none) ∧ List.filter (fun n ↦
       alt27.cap.heldStart.testBit n && alt27.chState n == chStopped) alt27.leads = [])
    ∧ (w50.sound ∧ w50.on ADC.SCLK.OK = true ∧ w50.tableFree = true ∧ w50.cap.heldStart ≠ 0 ∧ w50.up = true ∧
       w50.prf.resumeAt = none ∧ w50.prf.adopting ≠ 2 ∧ w50.rollEnding = false ∧ (∀ (n : Nat), n ∈ w50.leads →
       w50.cap.heldStart.testBit n = true → (w50.cch n).stopAt = none) ∧ List.filter (fun n ↦ w50.cap.heldStart.testBit n &&
       w50.chState n == chStopped) w50.leads ≠ [] ∧ w50.cap.nextChannels = 0 ∧ w50.on CAP.ROLL_STATUS.OPEN = false ∧
       w50.modeBusy = false ∧ w50.boot.entryStep = 0 ∧ w50.pagesNeeded (List.filter (fun n ↦ w50.cap.heldStart.testBit n &&
       w50.chState n == chStopped) w50.leads) ≤ w50.freePages ∧ (w50.cap.rolled = true → w50.cap.rollStart + ticksOfUs 4 ≤
       w50.now))
    ∧ (w51.sound ∧ w51.on ADC.SCLK.OK = true ∧ w51.tableFree = true ∧ List.filter (fun n ↦ w51.cap.nextChannels.testBit n)
       w51.leads ≠ [] ∧ w51.up = true ∧ w51.on CAP.ROLL_STATUS.OPEN = false ∧ w51.cap.rollEndAt + ticksOfUs 1 ≤ w51.now ∧
       w51.cap.rollStart + ticksOfUs 4 ≤ w51.now ∧ w51.pagesNeeded (List.filter (fun n ↦ w51.cap.nextChannels.testBit n)
       w51.leads) ≤ w51.freePages) :=
  ⟨both (by decide +kernel), both (by decide +kernel), both (by decide +kernel)⟩

theorem witness_FramesEndAndClose :
    ((wf of0 2).sound ∧ (wf of0 2).up = true ∧ (wf of0 2).isLead 7 = true ∧ ((wf of0 2).cch 7).openF = some of0 ∧
       of0.numbered = true ∧ (wf of0 2).frameFull 7 = true ∧ of0.live = false ∧ (wf of0 2).cap.ending = none ∧ (wf of0
       2).cap.noPage = false ∧ (wf of0 2).inRoll ≠ [])
    ∧ (w52.sound ∧ w52.up = true ∧ (w52.cch 7).closing = [alt28] ∧ alt28.live = false ∧ alt28.keep = true ∧ (w52.table
       (alt28.roll % 2))[alt28.number]? = some alt29)
    ∧ (alt30.sound ∧ alt30.up = true ∧ alt30.cap.nextR = some 77 ∧ alt30.cap.slot = 0 ∧ alt30.cap.window % 8 = 0)
    ∧ (alt31.sound ∧ alt31.up = true) :=
  ⟨both (by decide +kernel), both (by decide +kernel), both (by decide +kernel), both (by decide +kernel)⟩

theorem witness_UncorrectableErrorHalts :
    (alt32.up = true ∧ (alt32.moverNext.combNext.slotFor = none ∨ alt32.moverNext.combNext.slotFor = some 4 ∨ ∃ c,
       alt32.moverNext.combNext.slotFor = some c ∧ ∃ q, (serveReq c alt32.moverNext.combNext.cap.reqs).snd = some q ∧ q.read
       = true)) :=
  by decide +kernel

theorem witness_AccumulationGoesOn :
    (w60.sound ∧ w60.up = true ∧ w60.isLead 7 = true ∧ w60.chState 7 ≠ chStopped ∧ (w60.cch 7).openF.isSome = true ∧ w60.rd
       (ACC.CHn_SNAP_CFG.PERIOD_MS 7) ≠ 0 ∧ ((w60.ach 7).snap 0).dueAt ≤ w60.ticks)
    ∧ ((w60.wr (ACC.CHn_SNAP_CFG.DECAY_MS 7) 5).sound ∧ (w60.wr (ACC.CHn_SNAP_CFG.DECAY_MS 7) 5).up = true ∧ (w60.wr
       (ACC.CHn_SNAP_CFG.DECAY_MS 7) 5).isLead 7 = true ∧ (w60.wr (ACC.CHn_SNAP_CFG.DECAY_MS 7) 5).chState 7 ≠ chStopped ∧
       ((w60.wr (ACC.CHn_SNAP_CFG.DECAY_MS 7) 5).cch 7).openF.isSome = true ∧ (w60.wr (ACC.CHn_SNAP_CFG.DECAY_MS 7) 5).on
       (ACC.CHn_MAP_CFG.EN 7) = true ∧ (w60.wr (ACC.CHn_SNAP_CFG.DECAY_MS 7) 5).on (ACC.CHn_MAP_CFG.DECAY 7) = true ∧
       ((w60.wr (ACC.CHn_SNAP_CFG.DECAY_MS 7) 5).ach 7).decayDueAt ≤ (w60.wr (ACC.CHn_SNAP_CFG.DECAY_MS 7) 5).ticks)
    ∧ ((w61 0).sound ∧ (w61 0).up = true ∧ (((w61 0).ach 7).snap 0).copying = true ∧ (((w61 0).ach 7).snap 0).clear = false
       ∧ (w61 0).waitingFor (snapTag 7 0) = 0 ∧ if 0 = 0 then ((w61 0).ach 7).wait = [] else (((w61 0).ach 7).snap
       1).taken.isSome = true)
    ∧ (w62.sound ∧ w62.up = true ∧ (w62.ach 7).wait = [(0, 0)] ∧ (w62.table 0)[0]? = some fr1 ∧ fr1.state = 2 ∧ (w62.cch
       7).openF.isSome = true ∧ le fr1.header 52 4 ≤ w62.accRd 7 (ACC.CHn_STK_FIRST.SAMPLE 7) ∧ w62.stkFull 7 = false ∧
       w62.waitingFor (stackTag 7) = 0)
    ∧ (w63.sound ∧ w63.up = true ∧ (w63.ach 7).merging = [(0, [(1, 3)])] ∧ w63.waitingFor (tileTag 7) = 0) :=
  ⟨both (by decide +kernel), both (by decide +kernel), both (by decide +kernel), both (by decide +kernel), both
   (by decide +kernel)⟩

theorem witness_CombArithmetic_1 :
    (cellW (cw 0 0 (0 * 2 ^ 35 + 8 * 2 ^ 31 + 0 * 2 ^ 37 + 3 * 2 ^ 25)) rich).issues 190 0 0 = some (cw 0 0 (0 * 2 ^ 35 + 8
       * 2 ^ 31 + 0 * 2 ^ 37 + 3 * 2 ^ 25))
    ∧ (cellW (cw 0 1 (0 * 2 ^ 35 + 8 * 2 ^ 31 + 0 * 2 ^ 37 + 3 * 2 ^ 25)) rich).issues 190 0 1 = some (cw 0 1 (0 * 2 ^ 35 +
       8 * 2 ^ 31 + 0 * 2 ^ 37 + 3 * 2 ^ 25))
    ∧ (cellW (cw 0 2 (0 * 2 ^ 35 + 8 * 2 ^ 31 + 0 * 2 ^ 37 + 3 * 2 ^ 25)) rich).issues 190 0 2 = some (cw 0 2 (0 * 2 ^ 35 +
       8 * 2 ^ 31 + 0 * 2 ^ 37 + 3 * 2 ^ 25))
    ∧ (cellW (cw 0 3 (0 * 2 ^ 35 + 8 * 2 ^ 31 + 0 * 2 ^ 37 + 3 * 2 ^ 25)) rich).issues 190 0 3 = some (cw 0 3 (0 * 2 ^ 35 +
       8 * 2 ^ 31 + 0 * 2 ^ 37 + 3 * 2 ^ 25))
    ∧ (cellW (cw 0 4 (0 * 2 ^ 35 + 8 * 2 ^ 31 + 0 * 2 ^ 37 + 3 * 2 ^ 25)) rich).issues 190 0 4 = some (cw 0 4 (0 * 2 ^ 35 +
       8 * 2 ^ 31 + 0 * 2 ^ 37 + 3 * 2 ^ 25))
    ∧ (cellW (cw 0 5 (0 * 2 ^ 35 + 8 * 2 ^ 31 + 0 * 2 ^ 37 + 3 * 2 ^ 25)) rich).issues 190 0 5 = some (cw 0 5 (0 * 2 ^ 35 +
       8 * 2 ^ 31 + 0 * 2 ^ 37 + 3 * 2 ^ 25))
    ∧ (cellW (cw 0 6 (0 * 2 ^ 35 + 8 * 2 ^ 31 + 0 * 2 ^ 37 + 3 * 2 ^ 25)) rich).issues 190 0 6 = some (cw 0 6 (0 * 2 ^ 35 +
       8 * 2 ^ 31 + 0 * 2 ^ 37 + 3 * 2 ^ 25)) :=
  by decide +kernel

theorem witness_CombArithmetic_2 :
    (cellW (cw 0 7 (0 * 2 ^ 35 + 8 * 2 ^ 31 + 0 * 2 ^ 37 + 3 * 2 ^ 25)) rich).issues 190 0 7 = some (cw 0 7 (0 * 2 ^ 35 + 8
       * 2 ^ 31 + 0 * 2 ^ 37 + 3 * 2 ^ 25))
    ∧ (cellW (cw 0 9 (0 * 2 ^ 35 + 8 * 2 ^ 31 + 0 * 2 ^ 37 + 3 * 2 ^ 25)) rich).issues 190 0 9 = some (cw 0 9 (0 * 2 ^ 35 +
       8 * 2 ^ 31 + 0 * 2 ^ 37 + 3 * 2 ^ 25))
    ∧ (cellW (cw 0 10 (0 * 2 ^ 35 + 8 * 2 ^ 31 + 0 * 2 ^ 37 + 3 * 2 ^ 25)) rich).issues 190 0 10 = some (cw 0 10 (0 * 2 ^ 35
       + 8 * 2 ^ 31 + 0 * 2 ^ 37 + 3 * 2 ^ 25))
    ∧ (cellW (cw 0 11 (0 * 2 ^ 35 + 8 * 2 ^ 31 + 0 * 2 ^ 37 + 3 * 2 ^ 25)) rich).issues 190 0 11 = some (cw 0 11 (0 * 2 ^ 35
       + 8 * 2 ^ 31 + 0 * 2 ^ 37 + 3 * 2 ^ 25))
    ∧ (cellW (cw 0 12 (0 * 2 ^ 35 + 8 * 2 ^ 31 + 0 * 2 ^ 37 + 3 * 2 ^ 25)) rich).issues 190 0 12 = some (cw 0 12 (0 * 2 ^ 35
       + 8 * 2 ^ 31 + 0 * 2 ^ 37 + 3 * 2 ^ 25))
    ∧ (cellW (cw 0 13 (0 * 2 ^ 35 + 8 * 2 ^ 31 + 0 * 2 ^ 37 + 3 * 2 ^ 25)) rich).issues 190 0 13 = some (cw 0 13 (0 * 2 ^ 35
       + 8 * 2 ^ 31 + 0 * 2 ^ 37 + 3 * 2 ^ 25))
    ∧ (cellW (cw 0 14 (0 * 2 ^ 35 + 8 * 2 ^ 31 + 0 * 2 ^ 37 + 3 * 2 ^ 25)) rich).issues 190 0 14 = some (cw 0 14 (0 * 2 ^ 35
       + 8 * 2 ^ 31 + 0 * 2 ^ 37 + 3 * 2 ^ 25)) :=
  by decide +kernel

theorem witness_CombArithmetic_3 :
    (cellW (cw 0 8 (0 * 2 ^ 35 + 8 * 2 ^ 31 + 2 ^ 37)) rich).issues 190 0 8 = some (cw 0 8 (0 * 2 ^ 35 + 8 * 2 ^ 31 + 2 ^
       37))
    ∧ (alt33.issues 190 0 15 = some alt34 ∧ (∀ (k : Nat), k < 48 → (ofSigned 56 (if pwSA alt34 < 8 then (alt33.cell 190).dS
       (pwSA alt34) else (alt33.cell 190).aS (pwSA alt34 - 8))).testBit (54 - k) = (ofSigned 56 (if pwSA alt34 < 8 then
       (alt33.cell 190).dS (pwSA alt34) else (alt33.cell 190).aS (pwSA alt34 - 8))).testBit 55) ∧ (48 = 55 ∨ (ofSigned 56
       (if pwSA alt34 < 8 then (alt33.cell 190).dS (pwSA alt34) else (alt33.cell 190).aS (pwSA alt34 - 8))).testBit (54 -
       48) ≠ (ofSigned 56 (if pwSA alt34 < 8 then (alt33.cell 190).dS (pwSA alt34) else (alt33.cell 190).aS (pwSA alt34 -
       8))).testBit 55))
    ∧ (alt35.issues 190 0 16 = some alt36 ∧ (if pwSA alt36 < 8 then (alt35.cell 190).dS (pwSA alt36) else (alt35.cell
       190).aS (pwSA alt36 - 8)) ≠ 0 ∧ (2 * ((alt35.cell 190).aS (pwDst alt36) - 2469 * if pwSA alt36 < 8 then (alt35.cell
       190).dS (pwSA alt36) else (alt35.cell 190).aS (pwSA alt36 - 8)).natAbs ≤ (if pwSA alt36 < 8 then (alt35.cell 190).dS
       (pwSA alt36) else (alt35.cell 190).aS (pwSA alt36 - 8)).natAbs) ∧ (2 * ((alt35.cell 190).aS (pwDst alt36) - 2469 * if
       pwSA alt36 < 8 then (alt35.cell 190).dS (pwSA alt36) else (alt35.cell 190).aS (pwSA alt36 - 8)).natAbs = (if pwSA
       alt36 < 8 then (alt35.cell 190).dS (pwSA alt36) else (alt35.cell 190).aS (pwSA alt36 - 8)).natAbs → 2469 % 2 = 0))
    ∧ ((cellW (cw 0 16 (4 * 2 ^ 31)) rich).issues 190 0 16 = some (cw 0 16 (4 * 2 ^ 31)) ∧ (if pwSA (cw 0 16 (4 * 2 ^ 31)) <
       8 then ((cellW (cw 0 16 (4 * 2 ^ 31)) rich).cell 190).dS (pwSA (cw 0 16 (4 * 2 ^ 31))) else ((cellW (cw 0 16 (4 * 2 ^
       31)) rich).cell 190).aS (pwSA (cw 0 16 (4 * 2 ^ 31)) - 8)) = 0 ∧ ((cellW (cw 0 16 (4 * 2 ^ 31)) rich).cell 190).dma =
       [] ∧ 190 % 24 ≠ 23)
    ∧ ((cellW (cw 0 17 (0 * 2 ^ 31)) rich).issues 190 0 17 = some (cw 0 17 (0 * 2 ^ 31)) ∧ (0 ≤ if pwSA (cw 0 17 (0 * 2 ^
       31)) < 8 then ((cellW (cw 0 17 (0 * 2 ^ 31)) rich).cell 190).dS (pwSA (cw 0 17 (0 * 2 ^ 31))) else ((cellW (cw 0 17
       (0 * 2 ^ 31)) rich).cell 190).aS (pwSA (cw 0 17 (0 * 2 ^ 31)) - 8)) ∧ (2 = 0 ∨ Int.ofNat ((2 * 2 - 1) ^ 2) ≤ 4 * if pwSA (cw 0
       17 (0 * 2 ^ 31)) < 8 then ((cellW (cw 0 17 (0 * 2 ^ 31)) rich).cell 190).dS (pwSA (cw 0 17 (0 * 2 ^ 31))) else
       ((cellW (cw 0 17 (0 * 2 ^ 31)) rich).cell 190).aS (pwSA (cw 0 17 (0 * 2 ^ 31)) - 8)) ∧ ((4 * if pwSA (cw 0 17 (0 * 2
       ^ 31)) < 8 then ((cellW (cw 0 17 (0 * 2 ^ 31)) rich).cell 190).dS (pwSA (cw 0 17 (0 * 2 ^ 31))) else ((cellW (cw 0 17
       (0 * 2 ^ 31)) rich).cell 190).aS (pwSA (cw 0 17 (0 * 2 ^ 31)) - 8)) < Int.ofNat ((2 * 2 + 1) ^ 2)))
    ∧ ((cellW (cw 0 17 (1 * 2 ^ 31)) rich).issues 190 0 17 = some (cw 0 17 (1 * 2 ^ 31)) ∧ (if pwSA (cw 0 17 (1 * 2 ^ 31)) <
       8 then ((cellW (cw 0 17 (1 * 2 ^ 31)) rich).cell 190).dS (pwSA (cw 0 17 (1 * 2 ^ 31))) else ((cellW (cw 0 17 (1 * 2 ^
       31)) rich).cell 190).aS (pwSA (cw 0 17 (1 * 2 ^ 31)) - 8)) < 0)
    ∧ (cellW (cw 1 0 (0 * 2 ^ 35 + 2 * 2 ^ 31 + 2 * 2 ^ 27 + 0 * 2 ^ 37)) rich).issues 190 1 0 = some (cw 1 0 (0 * 2 ^ 35 +
       2 * 2 ^ 31 + 2 * 2 ^ 27 + 0 * 2 ^ 37)) :=
  by decide +kernel

theorem witness_CombArithmetic_4 :
    (cellW (cw 1 1 (0 * 2 ^ 35 + 2 * 2 ^ 31 + 2 * 2 ^ 27 + 0 * 2 ^ 37)) rich).issues 190 1 1 = some (cw 1 1 (0 * 2 ^ 35 + 2
       * 2 ^ 31 + 2 * 2 ^ 27 + 0 * 2 ^ 37))
    ∧ (cellW (cw 1 2 (0 * 2 ^ 35 + 2 * 2 ^ 31 + 2 * 2 ^ 27 + 0 * 2 ^ 37)) rich).issues 190 1 2 = some (cw 1 2 (0 * 2 ^ 35 +
       2 * 2 ^ 31 + 2 * 2 ^ 27 + 0 * 2 ^ 37))
    ∧ (cellW (cw 1 3 (0 * 2 ^ 35 + 2 * 2 ^ 31 + 2 * 2 ^ 27 + 0 * 2 ^ 37)) rich).issues 190 1 3 = some (cw 1 3 (0 * 2 ^ 35 +
       2 * 2 ^ 31 + 2 * 2 ^ 27 + 0 * 2 ^ 37))
    ∧ (cellW (cw 2 0 (0 * 2 ^ 38 + 2 * 2 ^ 35 + 2 * 2 ^ 32 + 3 * 2 ^ 29 + 3 * 2 ^ 26 + 1 * 2 ^ 39)) rich).issues 190 2 0 =
       some (cw 2 0 (0 * 2 ^ 38 + 2 * 2 ^ 35 + 2 * 2 ^ 32 + 3 * 2 ^ 29 + 3 * 2 ^ 26 + 1 * 2 ^ 39))
    ∧ (cellW (cw 2 1 (0 * 2 ^ 38 + 2 * 2 ^ 35 + 2 * 2 ^ 32 + 3 * 2 ^ 29 + 3 * 2 ^ 26 + 1 * 2 ^ 39)) rich).issues 190 2 1 =
       some (cw 2 1 (0 * 2 ^ 38 + 2 * 2 ^ 35 + 2 * 2 ^ 32 + 3 * 2 ^ 29 + 3 * 2 ^ 26 + 1 * 2 ^ 39))
    ∧ (cellW (cw 2 2 (0 * 2 ^ 38 + 2 * 2 ^ 35 + 2 * 2 ^ 32 + 3 * 2 ^ 29 + 3 * 2 ^ 26 + 1 * 2 ^ 39)) rich).issues 190 2 2 =
       some (cw 2 2 (0 * 2 ^ 38 + 2 * 2 ^ 35 + 2 * 2 ^ 32 + 3 * 2 ^ 29 + 3 * 2 ^ 26 + 1 * 2 ^ 39))
    ∧ (cellW (cw 2 3 (0 * 2 ^ 38 + 2 * 2 ^ 35 + 2 * 2 ^ 32 + 3 * 2 ^ 29 + 3 * 2 ^ 26 + 1 * 2 ^ 39)) rich).issues 190 2 3 =
       some (cw 2 3 (0 * 2 ^ 38 + 2 * 2 ^ 35 + 2 * 2 ^ 32 + 3 * 2 ^ 29 + 3 * 2 ^ 26 + 1 * 2 ^ 39)) :=
  by decide +kernel

theorem witness_CombArithmetic_5 :
    (cellW (cw 2 4 (0 * 2 ^ 38 + 2 * 2 ^ 35 + 2 * 2 ^ 32 + 3 * 2 ^ 29 + 3 * 2 ^ 26 + 1 * 2 ^ 39)) rich).issues 190 2 4 =
       some (cw 2 4 (0 * 2 ^ 38 + 2 * 2 ^ 35 + 2 * 2 ^ 32 + 3 * 2 ^ 29 + 3 * 2 ^ 26 + 1 * 2 ^ 39)) :=
  by decide +kernel

theorem witness_CombMovesAndImmediates_1 :
    (bits 0 (if false = true then 0 else 12) 12 = 0 ∧ bits (bits 0 (if false = true then 12 else 0) 12) 10 2 = 0)
    ∧ (bits (1 * 2 ^ 10 + 0 * 2 ^ 8 + 0 * 2 ^ 6 + 1 * 4) (if false = true then 0 else 12) 12 = 0 ∧ bits (bits (1 * 2 ^ 10 +
       0 * 2 ^ 8 + 0 * 2 ^ 6 + 1 * 4) (if false = true then 12 else 0) 12) 10 2 = 1)
    ∧ (bits (2 * 2 ^ 10 + 0 * 2 ^ 8 + 0 * 2 ^ 6 + 1 * 4) (if false = true then 0 else 12) 12 = 0 ∧ bits (bits (2 * 2 ^ 10 +
       0 * 2 ^ 8 + 0 * 2 ^ 6 + 1 * 4) (if false = true then 12 else 0) 12) 10 2 = 2)
    ∧ (bits (3 * 2 ^ 10 + 2 * 2 ^ 6 + 6 * 4) (if false = true then 0 else 12) 12 = 0 ∧ bits (bits (3 * 2 ^ 10 + 2 * 2 ^ 6 +
       6 * 4) (if false = true then 12 else 0) 12) 10 2 = 3 ∧ bits (bits (3 * 2 ^ 10 + 2 * 2 ^ 6 + 6 * 4) (if false = true
       then 12 else 0) 12) 2 4 < 8)
    ∧ (bits (3 * 2 ^ 10 + 2 * 2 ^ 6 + 11 * 4) (if false = true then 0 else 12) 12 = 0 ∧ bits (bits (3 * 2 ^ 10 + 2 * 2 ^ 6 +
       11 * 4) (if false = true then 12 else 0) 12) 10 2 = 3 ∧ 8 ≤ bits (bits (3 * 2 ^ 10 + 2 * 2 ^ 6 + 11 * 4) (if false =
       true then 12 else 0) 12) 2 4)
    ∧ (cellW (cw 3 0 (3 * 2 ^ 33 + 9511749)) rich2).issues 190 3 0 = some (cw 3 0 (3 * 2 ^ 33 + 9511749))
    ∧ (8 ≤ pwReg (cw 3 1 (8 * 2 ^ 33 + 9511749 + 0 * 2 ^ 37)) ∧ (cellW (cw 3 1 (8 * 2 ^ 33 + 9511749 + 0 * 2 ^ 37))
       rich2).issues 190 3 1 = some (cw 3 1 (8 * 2 ^ 33 + 9511749 + 0 * 2 ^ 37))) :=
  by decide +kernel

theorem witness_CombMovesAndImmediates_2 :
    (8 ≤ pwReg (cw 3 2 (8 * 2 ^ 33 + 9511749 + 0 * 2 ^ 37)) ∧ (cellW (cw 3 2 (8 * 2 ^ 33 + 9511749 + 0 * 2 ^ 37))
       rich2).issues 190 3 2 = some (cw 3 2 (8 * 2 ^ 33 + 9511749 + 0 * 2 ^ 37)))
    ∧ (8 ≤ pwReg (cw 3 3 (8 * 2 ^ 33 + 9511749 + 0 * 2 ^ 37)) ∧ (cellW (cw 3 3 (8 * 2 ^ 33 + 9511749 + 0 * 2 ^ 37))
       rich2).issues 190 3 3 = some (cw 3 3 (8 * 2 ^ 33 + 9511749 + 0 * 2 ^ 37)))
    ∧ (cellW (cw 4 0 (0 * 2 ^ 34 + 777)) rich2).issues 190 4 0 = some (cw 4 0 (0 * 2 ^ 34 + 777))
    ∧ ((cellW (cw 4 1 (0 * 2 ^ 34 + 16000)) rich2).issues 190 4 1 = some (cw 4 1 (0 * 2 ^ 34 + 16000)) ∧ (curMode (((cellW
       (cw 4 1 (0 * 2 ^ 34 + 16000)) rich2).cell 190).cur.getD (pwCur (cw 4 1 (0 * 2 ^ 34 + 16000))) 0) = 0 ∨ curMode
       (((cellW (cw 4 1 (0 * 2 ^ 34 + 16000)) rich2).cell 190).cur.getD (pwCur (cw 4 1 (0 * 2 ^ 34 + 16000))) 0) = 3))
    ∧ ((cellW (cw 4 1 (1 * 2 ^ 34 + 16380)) rich2).issues 190 4 1 = some (cw 4 1 (1 * 2 ^ 34 + 16380)) ∧ curMode (((cellW
       (cw 4 1 (1 * 2 ^ 34 + 16380)) rich2).cell 190).cur.getD (pwCur (cw 4 1 (1 * 2 ^ 34 + 16380))) 0) = 1)
    ∧ ((cellW (cw 4 1 (2 * 2 ^ 34 + 5)) rich2).issues 190 4 1 = some (cw 4 1 (2 * 2 ^ 34 + 5)) ∧ curMode (((cellW (cw 4 1 (2
       * 2 ^ 34 + 5)) rich2).cell 190).cur.getD (pwCur (cw 4 1 (2 * 2 ^ 34 + 5))) 0) = 2 ∧ curLen (((cellW (cw 4 1 (2 * 2 ^
       34 + 5)) rich2).cell 190).cur.getD (pwCur (cw 4 1 (2 * 2 ^ 34 + 5))) 0) = 2 ^ 4)
    ∧ (cellW (cw 4 2 (5 * 2 ^ 34 + 16383)) rich2).issues 190 4 2 = some (cw 4 2 (5 * 2 ^ 34 + 16383)) :=
  by decide +kernel

theorem witness_CombMovesAndImmediates_3 :
    (cellW (cw 4 3 (5 * 2 ^ 34 + 16383 + 0)) rich2).issues 190 4 3 = some (cw 4 3 (5 * 2 ^ 34 + 16383 + 0))
    ∧ (cellW (cw 4 4 (5 * 2 ^ 34 + 4095)) rich2).issues 190 4 4 = some (cw 4 4 (5 * 2 ^ 34 + 4095))
    ∧ (cellW (cw 4 5 (5 * 2 ^ 34 + 1 * 2 ^ 30)) rich2).issues 190 4 5 = some (cw 4 5 (5 * 2 ^ 34 + 1 * 2 ^ 30))
    ∧ (cellW (cw 4 6 (5 * 2 ^ 34 + 1 * 2 ^ 30)) rich2).issues 190 4 6 = some (cw 4 6 (5 * 2 ^ 34 + 1 * 2 ^ 30))
    ∧ (8 ≤ pwAReg (cw 4 7 (5 * 2 ^ 34 + 9 * 2 ^ 30)) ∧ (cellW (cw 4 7 (5 * 2 ^ 34 + 9 * 2 ^ 30)) rich2).issues 190 4 7 =
       some (cw 4 7 (5 * 2 ^ 34 + 9 * 2 ^ 30)))
    ∧ (8 ≤ pwAReg (cw 4 8 (5 * 2 ^ 34 + 9 * 2 ^ 30)) ∧ (cellW (cw 4 8 (5 * 2 ^ 34 + 9 * 2 ^ 30)) rich2).issues 190 4 8 =
       some (cw 4 8 (5 * 2 ^ 34 + 9 * 2 ^ 30)))
    ∧ (cellW (cw 4 9 63) rich2).issues 190 4 9 = some (cw 4 9 63) :=
  by decide +kernel

theorem witness_CombFlow_1 :
    (alt37.sound ∧ alt37.issues 190 5 0 = some alt38)
    ∧ (alt39.sound ∧ alt39.issues 190 5 0 = some alt38 ∧ 1 < (alt39.cell 190).rpt)
    ∧ (alt40.sound ∧ alt40.issues 190 5 0 = some alt38 ∧ (alt40.cell 190).rpt ≤ 1 ∧ (alt40.cell 190).loops = [])
    ∧ (alt41.sound ∧ alt41.issues 190 5 0 = some alt38 ∧ (alt41.cell 190).rpt ≤ 1 ∧ (alt41.cell 190).loops = [alt42] ∧
       alt42.last ≠ (alt41.cell 190).pc)
    ∧ (alt43.sound ∧ alt43.issues 190 5 0 = some alt38 ∧ (alt43.cell 190).rpt ≤ 1 ∧ (alt43.cell 190).loops = [alt44] ∧
       alt44.last = (alt43.cell 190).pc ∧ 1 < alt44.left)
    ∧ (alt45.sound ∧ alt45.issues 190 5 0 = some alt38 ∧ (alt45.cell 190).rpt ≤ 1 ∧ (alt45.cell 190).loops = [alt46,
       { start := 0, last := 3, left := 7 }] ∧ alt46.last = (alt45.cell 190).pc ∧ alt46.left ≤ 1)
    ∧ (alt47.sound ∧ alt47.issues 190 5 1 = some alt48 ∧ [true, (alt47.cell 190).fZ, !(alt47.cell 190).fZ, (alt47.cell
       190).fN, !(alt47.cell 190).fN, (alt47.cell 190).fN || (alt47.cell 190).fZ, !((alt47.cell 190).fN || (alt47.cell
       190).fZ), (alt47.cell 190).fV, !(alt47.cell 190).fV, (alt47.cell 190).fL, !(alt47.cell 190).fL].getD (pwCond alt48)
       false = true) :=
  ⟨both (by decide +kernel), both (by decide +kernel), both (by decide +kernel), both (by decide +kernel), both
   (by decide +kernel), both (by decide +kernel), both (by decide +kernel)⟩

theorem witness_CombFlow_2 :
    (alt49.sound ∧ alt49.issues 190 5 1 = some alt50 ∧ (¬[true, (alt49.cell 190).fZ, !(alt49.cell 190).fZ, (alt49.cell
       190).fN, !(alt49.cell 190).fN, (alt49.cell 190).fN || (alt49.cell 190).fZ, !((alt49.cell 190).fN || (alt49.cell
       190).fZ), (alt49.cell 190).fV, !(alt49.cell 190).fV, (alt49.cell 190).fL, !(alt49.cell 190).fL].getD (pwCond alt50)
       false = true))
    ∧ (alt51.sound ∧ alt51.issues 190 5 2 = some alt52 ∧ (¬[true, (alt51.cell 190).fZ, !(alt51.cell 190).fZ, (alt51.cell
       190).fN, !(alt51.cell 190).fN, (alt51.cell 190).fN || (alt51.cell 190).fZ, !((alt51.cell 190).fN || (alt51.cell
       190).fZ), (alt51.cell 190).fV, !(alt51.cell 190).fV, (alt51.cell 190).fL, !(alt51.cell 190).fL].getD (pwCond alt52)
       false = true))
    ∧ (alt53.sound ∧ alt53.issues 190 5 2 = some alt54 ∧ [true, (alt53.cell 190).fZ, !(alt53.cell 190).fZ, (alt53.cell
       190).fN, !(alt53.cell 190).fN, (alt53.cell 190).fN || (alt53.cell 190).fZ, !((alt53.cell 190).fN || (alt53.cell
       190).fZ), (alt53.cell 190).fV, !(alt53.cell 190).fV, (alt53.cell 190).fL, !(alt53.cell 190).fL].getD (pwCond alt54)
       false = true ∧ (alt53.cell 190).calls.length < 16)
    ∧ (alt55.sound ∧ alt55.issues 190 5 2 = some alt54 ∧ [true, (alt55.cell 190).fZ, !(alt55.cell 190).fZ, (alt55.cell
       190).fN, !(alt55.cell 190).fN, (alt55.cell 190).fN || (alt55.cell 190).fZ, !((alt55.cell 190).fN || (alt55.cell
       190).fZ), (alt55.cell 190).fV, !(alt55.cell 190).fV, (alt55.cell 190).fL, !(alt55.cell 190).fL].getD (pwCond alt54)
       false = true ∧ 16 ≤ (alt55.cell 190).calls.length ∧ (alt55.cell 190).dma = [] ∧ 190 % 24 ≠ 23)
    ∧ (alt56.sound ∧ alt56.issues 190 5 3 = some alt57 ∧ (¬[true, (alt56.cell 190).fZ, !(alt56.cell 190).fZ, (alt56.cell
       190).fN, !(alt56.cell 190).fN, (alt56.cell 190).fN || (alt56.cell 190).fZ, !((alt56.cell 190).fN || (alt56.cell
       190).fZ), (alt56.cell 190).fV, !(alt56.cell 190).fV, (alt56.cell 190).fL, !(alt56.cell 190).fL].getD (pwCond alt57)
       false = true))
    ∧ (alt58.sound ∧ alt58.issues 190 5 3 = some alt59 ∧ [true, (alt58.cell 190).fZ, !(alt58.cell 190).fZ, (alt58.cell
       190).fN, !(alt58.cell 190).fN, (alt58.cell 190).fN || (alt58.cell 190).fZ, !((alt58.cell 190).fN || (alt58.cell
       190).fZ), (alt58.cell 190).fV, !(alt58.cell 190).fV, (alt58.cell 190).fL, !(alt58.cell 190).fL].getD (pwCond alt59)
       false = true ∧ (alt58.cell 190).calls = [6])
    ∧ (alt60.sound ∧ alt60.issues 190 5 3 = some alt59 ∧ [true, (alt60.cell 190).fZ, !(alt60.cell 190).fZ, (alt60.cell
       190).fN, !(alt60.cell 190).fN, (alt60.cell 190).fN || (alt60.cell 190).fZ, !((alt60.cell 190).fN || (alt60.cell
       190).fZ), (alt60.cell 190).fV, !(alt60.cell 190).fV, (alt60.cell 190).fL, !(alt60.cell 190).fL].getD (pwCond alt59)
       false = true ∧ (alt60.cell 190).calls = [] ∧ (alt60.cell 190).dma = []) :=
  ⟨both (by decide +kernel), both (by decide +kernel), both (by decide +kernel), both (by decide +kernel), both
   (by decide +kernel), both (by decide +kernel), both (by decide +kernel)⟩

theorem witness_CombFlow_3 :
    (alt61.sound ∧ alt61.issues 190 5 4 = some alt62 ∧ (alt61.cell 190).loops.length < 4)
    ∧ (alt63.sound ∧ alt63.issues 190 5 4 = some alt64 ∧ 4 ≤ (alt63.cell 190).loops.length ∧ (alt63.cell 190).dma = [])
    ∧ (alt65.sound ∧ alt65.issues 190 5 5 = some alt66 ∧ (alt65.cell 190).d.getD (pwAReg alt66) 0 = 0)
    ∧ (alt67.sound ∧ alt67.issues 190 5 5 = some alt66 ∧ (alt67.cell 190).d.getD (pwAReg alt66) 0 ≠ 0 ∧ (alt67.cell
       190).loops.length < 4)
    ∧ (alt68.sound ∧ alt68.issues 190 5 5 = some alt66 ∧ (alt68.cell 190).d.getD (pwAReg alt66) 0 ≠ 0 ∧ 4 ≤ (alt68.cell
       190).loops.length ∧ (alt68.cell 190).dma = [])
    ∧ (alt69.sound ∧ alt69.issues 190 5 6 = some alt70)
    ∧ (alt71.sound ∧ alt71.issues 190 5 7 = some alt72 ∧ (¬[true, (alt71.cell 190).fZ, !(alt71.cell 190).fZ, (alt71.cell
       190).fN, !(alt71.cell 190).fN, (alt71.cell 190).fN || (alt71.cell 190).fZ, !((alt71.cell 190).fN || (alt71.cell
       190).fZ), (alt71.cell 190).fV, !(alt71.cell 190).fV, (alt71.cell 190).fL, !(alt71.cell 190).fL].getD (pwCond alt72)
       false = true)) :=
  ⟨both (by decide +kernel), both (by decide +kernel), both (by decide +kernel), both (by decide +kernel), both
   (by decide +kernel), both (by decide +kernel), both (by decide +kernel)⟩

theorem witness_CombFlow_4 :
    (alt73.sound ∧ alt73.issues 190 5 7 = some alt74 ∧ [true, (alt73.cell 190).fZ, !(alt73.cell 190).fZ, (alt73.cell
       190).fN, !(alt73.cell 190).fN, (alt73.cell 190).fN || (alt73.cell 190).fZ, !((alt73.cell 190).fN || (alt73.cell
       190).fZ), (alt73.cell 190).fV, !(alt73.cell 190).fV, (alt73.cell 190).fL, !(alt73.cell 190).fL].getD (pwCond alt74)
       false = true ∧ (alt73.cell 190).loops = [alt75, { start := 0, last := 6, left := 2 }])
    ∧ (alt76.sound ∧ alt76.issues 190 5 8 = some alt77 ∧ (alt76.cell 190).dma = [])
    ∧ (alt78.sound ∧ alt78.issues 190 5 8 = some alt77 ∧ (alt78.cell 190).dma ≠ [])
    ∧ (alt79.sound ∧ alt79.issues 190 5 9 = some alt80 ∧ (alt79.cell 190).dma = [])
    ∧ (alt81.sound ∧ alt81.issues 190 5 9 = some alt80 ∧ (alt81.cell 190).dma ≠ [])
    ∧ (alt82.sound ∧ alt82.issues 190 5 10 = some alt83) :=
  ⟨both (by decide +kernel), both (by decide +kernel), both (by decide +kernel), both (by decide +kernel), both
   (by decide +kernel), both (by decide +kernel)⟩

theorem witness_CombStreams_1 :
    (alt84.sound ∧ (alt84.cell 190).bind? (pwPort (cw 6 0 p2)) = some alt85 ∧ alt84.issues 190 6 0 = some (cw 6 0 p2) ∧
       alt85.ready = [])
    ∧ ((c6 0 p2 id).sound ∧ ((c6 0 p2 id).cell 190).bind? (pwPort (cw 6 0 p2)) = some bd ∧ (c6 0 p2 id).issues 190 6 0 =
       some (cw 6 0 p2) ∧ bd.ready = [0])
    ∧ (alt86.sound ∧ (alt86.cell 190).bind? (pwPort (cw 6 1 p2)) = some alt87 ∧ alt86.issues 190 6 1 = some (cw 6 1 p2) ∧
       alt87.held = [] ∧ (alt86.cell 190).dma = [] ∧ 190 % 24 ≠ 23)
    ∧ ((c6 1 p2 id).sound ∧ ((c6 1 p2 id).cell 190).bind? (pwPort (cw 6 1 p2)) = some bd ∧ (c6 1 p2 id).issues 190 6 1 =
       some (cw 6 1 p2) ∧ bd.held = [1])
    ∧ ((c6 2 (p3 15) id).sound ∧ ((c6 2 (p3 15) id).cell 190).bind? (pwPort (cw 6 2 (p3 15))) = some bd ∧ (c6 2 (p3 15)
       id).issues 190 6 2 = some (cw 6 2 (p3 15)) ∧ ((c6 2 (p3 15) id).cell 190).rec_ = none ∧ pwLink (cw 6 2 (p3 15)) = 15)
    ∧ ((c6 2 (p3 2) id).sound ∧ ((c6 2 (p3 2) id).cell 190).bind? (pwPort (cw 6 2 (p3 2))) = some bd ∧ (c6 2 (p3 2)
       id).issues 190 6 2 = some (cw 6 2 (p3 2)) ∧ ((c6 2 (p3 2) id).cell 190).rec_ = none ∧ pwLink (cw 6 2 (p3 2)) ≠ 15 ∧
       ((c6 2 (p3 2) id).cell 190).heldHeader (pwLink (cw 6 2 (p3 2))) = some (hdr2 ((c6 2 (p3 2) id).cell 190)))
    ∧ ((c6 2 (p3 2) (withRec rec1)).sound ∧ (c6 2 (p3 2) (withRec rec1)).issues 190 6 2 = some (cw 6 2 (p3 2)) ∧ ((c6 2 (p3
       2) (withRec rec1)).cell 190).rec_.isSome = true ∧ ((c6 2 (p3 2) (withRec rec1)).cell 190).dma = []) :=
  ⟨both (by decide +kernel), both (by decide +kernel), both (by decide +kernel), both (by decide +kernel), both
   (by decide +kernel), both (by decide +kernel), both (by decide +kernel)⟩

theorem witness_CombStreams_2 :
    (alt88.cell 190).rec_ = some alt89 ∧ 4096 ≤ alt89.words.length ∧ (alt88.sound ∧ alt88.issues 190 6 3 = some (cw 6 3 (p3
       2)) ∧ (alt88.cell 190).dma = [])
    ∧ ((c6 3 (10 * 2 ^ 30) (withRec rec1)).sound ∧ ((c6 3 (10 * 2 ^ 30) (withRec rec1)).cell 190).rec_ = some rec1 ∧ (c6 3
       (10 * 2 ^ 30) (withRec rec1)).issues 190 6 3 = some (cw 6 3 (10 * 2 ^ 30)) ∧ rec1.words.length < 4096)
    ∧ ((c6 4 0 (withRec rec1)).sound ∧ ((c6 4 0 (withRec rec1)).cell 190).rec_ = some rec1 ∧ (c6 4 0 (withRec rec1)).issues
       190 6 4 = some (cw 6 4 0))
    ∧ ((c6 3 0 id).sound ∧ ((c6 3 0 id).cell 190).rec_ = none ∧ (c6 3 0 id).issues 190 6 3 = some (cw 6 3 0) ∧ ((c6 3 0
       id).cell 190).dma = [])
    ∧ ((c6 4 0 id).sound ∧ ((c6 4 0 id).cell 190).rec_ = none ∧ (c6 4 0 id).issues 190 6 4 = some (cw 6 4 0) ∧ ((c6 4 0
       id).cell 190).dma = [])
    ∧ (alt90.sound ∧ alt90.issues 190 6 5 = some (cw 6 5 p2) ∧ 4 ≤ (alt90.cell 190).dma.length)
    ∧ (alt91.sound ∧ alt91.issues 190 6 5 = some (cw 6 5 p2) ∧ (alt91.cell 190).dma.length < 4) :=
  ⟨rfl, (Nat.le_of_eq (List.length_replicate (n := 4096) (a := 0)).symm), both (by decide +kernel), both (by decide +kernel),
   both (by decide +kernel), both (by decide +kernel), both (by decide +kernel), both (by decide +kernel), both
   (by decide +kernel)⟩

theorem witness_CombStreams_3 :
    ((c6w 6 p2 id).sound ∧ (c6w 6 p2 id).issues 190 6 6 = some (cw 6 6 p2) ∧ ((c6w 6 p2 id).cell 190).dma = [])
    ∧ (alt92.sound ∧ alt92.issues 190 6 6 = some (cw 6 6 p2) ∧ (alt92.cell 190).dma ≠ [])
    ∧ ((c6w 7 48879 id).sound ∧ (c6w 7 48879 id).issues 190 6 7 = some (cw 6 7 48879)) :=
  ⟨both (by decide +kernel), both (by decide +kernel), both (by decide +kernel)⟩

theorem witness_CellsAreServed :
    (alt93.sound ∧ alt93.up = true ∧ alt93.cellState 190 = cellLoading ∧ (alt93.cell 190).loading = some 1 ∧ (if 190 % 24 =
       23 then alt93.cmb.maker[1]? else alt93.prog? 1) = some (List.replicate 64 2))
    ∧ ((wb cellRunning bt).sound ∧ (wb cellRunning bt).up = true ∧ (wb cellRunning bt).cellExecutes 190 = true ∧ ((wb
       cellRunning bt).cell 190).bind? 2 = some bt ∧ bt.kind = 1 ∧ bt.waits = [ib] ∧ ib.ready = true)
    ∧ ((wb cellRunning bs3).sound ∧ (wb cellRunning bs3).up = true ∧ (wb cellRunning bs3).cellExecutes 190 = true ∧ ((wb
       cellRunning bs3).cell 190).bind? 2 = some bs3 ∧ bs3.kind = 3 ∧ bs3.stamps = [(5,
       { tick := 1, frac := 2, input := 3, flags := 0, seq := 0 }), (6,
       { tick := 2, frac := 2, input := 3, flags := 0, seq := 1 }), (7,
       { tick := 3, frac := 2, input := 3, flags := 0, seq := 2 })] ∧ 5 + bs3.param ≤ (wb cellRunning bs3).ticks ∧
       bs3.freeBuf = some 1 ∧ 0 < bs3.stampRoom)
    ∧ ((wd (dm true 0 10) 2).sound ∧ (wd (dm true 0 10) 2).up = true ∧ ((wd (dm true 0 10) 2).cell 190).dma = [dm true 0 10]
       ∧ (dm true 0 10).kind = 1 ∧ (dm true 0 10).begun = true ∧ (wd (dm true 0 10) 2).dmaReading 190 = false)
    ∧ ((wcl [(2, 0, rb0)]).sound ∧ (wcl [(2, 0, rb0)]).up = true ∧ ((wcl [(2, 0, rb0)]).cell 190).closed = [(2, 0, rb0)]) :=
  ⟨both (by decide +kernel), both (by decide +kernel), both (by decide +kernel), both (by decide +kernel), both
   (by decide +kernel)⟩

theorem witness_ArchiveMemoryIsServed_1 :
    (wa.sound ∧ wa.dramUp = true ∧ wa.live = true)
    ∧ (waf.sound ∧ waf.dramUp = true ∧ waf.live = true ∧ waf.arc.forceOpen = true ∧ waf.arc.rate = none ∧
       waf.arc.stepAt.getD (0, 1100, Instr.mr4Poll (waf.on DRM.STATE.REFRESH_2X) none true).fst 0 + ticksOfUs (0, 1100,
       Instr.mr4Poll (waf.on DRM.STATE.REFRESH_2X) none true).snd.fst ≤ waf.now)
    ∧ waf.arc.stepAt.getD (1, 4400, Instr.dqsTrack none true).fst 0 + ticksOfUs (1, 4400, Instr.dqsTrack none true).snd.fst
       ≤ waf.now
    ∧ waf.arc.stepAt.getD (2, 140000, Instr.zqCalibration true).fst 0 + ticksOfUs (2, 140000, Instr.zqCalibration
       true).snd.fst ≤ waf.now
    ∧ (wa.arc.forceOpen = false ∨ wa.now < wa.arc.stepAt.getD (0, 1100, Instr.mr4Poll (wa.on DRM.STATE.REFRESH_2X) none
       true).fst 0 + ticksOfUs (0, 1100, Instr.mr4Poll (wa.on DRM.STATE.REFRESH_2X) none true).snd.fst)
    ∧ (wa.arc.forceOpen = false ∨ wa.now < wa.arc.stepAt.getD (1, 4400, Instr.dqsTrack none true).fst 0 + ticksOfUs (1,
       4400, Instr.dqsTrack none true).snd.fst)
    ∧ (wa.arc.forceOpen = false ∨ wa.now < wa.arc.stepAt.getD (2, 140000, Instr.zqCalibration true).fst 0 + ticksOfUs (2,
       140000, Instr.zqCalibration true).snd.fst) :=
  ⟨both (by decide +kernel), both (by decide +kernel), by decide +kernel, by decide +kernel, by decide +kernel,
   by decide +kernel, by decide +kernel⟩

theorem witness_ArchiveMemoryIsServed_2 :
    (alt94.sound ∧ alt94.dramUp = true ∧ alt94.live = true ∧ (alt94.sub 3).writes = pw0 :: alt95 ∧ (alt94.sub 3).reads = []
       ∧ (alt94.sub 3).drain = none ∧ alt94.urgency pw0 ≠ 3 ∧ (alt94.sub 3).writes.length < alt94.rd DRM.WM.HIGH ∧
       alt94.arc.fifo = [] ∧ alt94.arc.outside = [])
    ∧ (alt96.sound ∧ alt96.dramUp = true ∧ alt96.live = true ∧ alt96.chooseRead 3 = some 0 ∧ (alt96.sub 3).reads[0]? = some
       alt97 ∧ (alt96.sub 3).outside = [])
    ∧ (alt98.sound ∧ alt98.dramUp = true ∧ alt98.live = true ∧ alt98.chooseRead 3 = some 0 ∧ (alt98.sub 3).reads[0]? = some
       alt99)
    ∧ (wa.up = true ∧ wa.on DRM.SR_CTL.IDLE_EN = true ∧ wa.dramIdle = true ∧ wa.pro.composing = none ∧ wa.readDeadline =
       none ∧ wa.arc.lastReq + ticksOfUs (wa.rd DRM.SR_CTL.IDLE_US) ≤ wa.now)
    ∧ (alt202.sound ∧ alt202.up = true ∧ alt202.rd DRM.STATE.STATE = 3 ∧ alt202.dramIdle = false ∧ (alt202.clk.pll3Off =
       true ∨ alt202.on (CLK.PLLn_STATUS.LOCKED 3) = false))
    ∧ ((wsrx.put (CLK.PLLn_STATUS.LOCKED 3) true).sound ∧ (wsrx.put (CLK.PLLn_STATUS.LOCKED 3) true).up = true ∧ (wsrx.put
       (CLK.PLLn_STATUS.LOCKED 3) true).rd DRM.STATE.STATE = 3 ∧ (wsrx.put (CLK.PLLn_STATUS.LOCKED 3) true).dramIdle = false
       ∧ (wsrx.put (CLK.PLLn_STATUS.LOCKED 3) true).clk.pll3Off = false ∧ (wsrx.put (CLK.PLLn_STATUS.LOCKED 3) true).on
       (CLK.PLLn_STATUS.LOCKED 3) = true)
    ∧ (alt100.sound ∧ alt100.up = true ∧ alt100.dramUp = true ∧ alt100.arc.waiting = [rc] ∧ alt100.recordDone rc.number =
       true ∧ alt100.noWriteAt (alt100.indexAddr rc.number) = true) :=
  ⟨both (by decide +kernel), both (by decide +kernel), both (by decide +kernel), by decide +kernel, both (by decide +kernel),
   both (by decide +kernel), both (by decide +kernel)⟩

theorem witness_PacketsMove_1 :
    ((wp 63).sound ∧ (wp 63).up = true ∧ (wp 63).portRuns 63 = true ∧ alt101.bytes.length ≤ (wp 63).mtu 63 ∧
       alt101.etherType ≠ 34824 ∧ alt101.fcsOk = false)
    ∧ (alt102.bytes.length ≤ (wp 63).mtu 63 ∧ alt102.etherType ≠ 34824 ∧ alt102.fcsOk = true ∧ (wp 63).accepts 63 alt102 =
       false)
    ∧ (w0.sound ∧ w0.portRuns 63 = false)
    ∧ ((wlink sesIdle).sound ∧ (wlink sesIdle).receive 63 ehello = (ru (wlink sesIdle) ehello, some (rk (wlink sesIdle)
       ehello)) ∧ (rk (wlink sesIdle) ehello).typ = 1 ∧ (ru (wlink sesIdle) ehello).session 63 = sesIdle ∧ pMaxFor ((ru
       (wlink sesIdle) ehello).mtuNew 63) (le (rk (wlink sesIdle) ehello).payload 24 2) = some 1024)
    ∧ (wabs.sound ∧ wabs.receive 63 ehello = (ru wabs ehello, some (rk wabs ehello)) ∧ (rk wabs ehello).typ = 1 ∧ (ru wabs
       ehello).session 63 = sesAbsent ∧ (le (rk wabs ehello).payload 6 2).testBit 0 = true ∧ (ru wabs ehello).resumable 63 =
       true ∧ pMaxFor ((ru wabs ehello).mtu 63) (le (rk wabs ehello).payload 24 2) = some 1024)
    ∧ (wchal.sound ∧ wchal.receive 63 (eauth true) = (ru wchal (eauth true), some (rk wchal (eauth true))) ∧ (rk wchal
       (eauth true)).typ = 2 ∧ (ru wchal (eauth true)).keyEntry ((ru wchal (eauth true)).rd (HPT.Pp_HOST.HOST_ID 63)) = some
       hk ∧ wchal.now ≤ (wchal.port 63).helloAt + ticksOfS 1 ∧ ((wchal.port 63).resuming = true → wchal.resumable 63 = true)
       ∧ (rk wchal (eauth true)).payload = hmac hk.key (ascii "WAGGLE-H" ++ (ru wchal (eauth true)).helloBytes 63))
    ∧ (wchal.receive 63 (eauth false) = (ru wchal (eauth false), some (rk wchal (eauth false))) ∧ (rk wchal (eauth
       false)).typ = 2 ∧ (ru wchal (eauth false)).keyEntry ((ru wchal (eauth false)).rd (HPT.Pp_HOST.HOST_ID 63)) = some hk
       ∧ (rk wchal (eauth false)).payload ≠ hmac hk.key (ascii "WAGGLE-H" ++ (ru wchal (eauth false)).helloBytes 63) ∧ (ru
       wchal (eauth false)).session 63 = sesChallenged) :=
  ⟨both (by decide +kernel), by decide +kernel, both (by decide +kernel), both (by decide +kernel), both (by decide +kernel),
   both (by decide +kernel), by decide +kernel⟩

theorem witness_PacketsMove_2 :
    ((wst s5).sound ∧ (wst s5).receive 63 (eack 0 2) = (ru (wst s5) (eack 0 2), some (rk (wst s5) (eack 0 2))) ∧ (rk (wst
       s5) (eack 0 2)).typ = 10 ∧ (ru (wst s5) (eack 0 2)).strm? 63 (rk (wst s5) (eack 0 2)).stream = some s5 ∧ (rk (wst s5)
       (eack 0 2)).flags.testBit 5 = false)
    ∧ ((wst s5).receive 63 (eack 32 2) = (ru (wst s5) (eack 32 2), some (rk (wst s5) (eack 32 2))) ∧ (rk (wst s5) (eack 32
       2)).typ = 10 ∧ (ru (wst s5) (eack 32 2)).strm? 63 (rk (wst s5) (eack 32 2)).stream = some s5 ∧ (rk (wst s5) (eack 32
       2)).flags.testBit 5 = true)
    ∧ ((wst s5).up = true ∧ (wst s5).session 63 = sesOpen ∧ (wst s5).strm? 63 5 = some s5 ∧ s5.unacked = [pk 0, pk 1, pk 2]
       ∧ s5.resend = none ∧ (pk 0).at_ + ticksOfUs ((wst s5).rd WAG.TIMERS.RTO_US) ≤ (wst s5).now)
    ∧ (alt103.sound ∧ alt103.up = true ∧ alt103.session 63 = sesOpen ∧ alt103.strm? 63 5 = some alt104 ∧ alt103.portRuns 63
       = true ∧ alt104.resend = some 1 ∧ alt104.unacked[1]? = some (pk 1))
    ∧ (alt105.sound ∧ alt105.up = true ∧ alt105.session 63 = sesOpen ∧ alt105.strm? 63 5 = some alt106 ∧ alt105.portRuns 63
       = true ∧ alt106.resend = none ∧ newer ((alt106.ack + 1024) % 2 ^ 32) alt106.nextSeq = true ∧ newer alt106.credit
       alt106.nextSeq = true ∧ alt106.queue = [it 3, it 4] ∧ (it 3).typ ≠ 5 ∧ (it 3).body = Body.bytes [3, 3] ∧ ((it 3).typ
       = 4 → alt106.asked = true ∧ alt105.capReading (tagStream 63 5) = false ∧ alt105.arcReading (tagStream 63 5) = false)
       ∧ [3, 3].length - alt106.offset ≤ alt105.rd (HPT.Pp_STATUS.P_MAX 63) * 64)
    ∧ ((wp 63).session 63 = sesOpen ∧ ticksOfMs ((wp 63).rd WAG.TIMERS.ABSENT_MS) ≤ 4 * ((wp 63).now - ((wp 63).port
       63).sentAt)) :=
  ⟨both (by decide +kernel), by decide +kernel, by decide +kernel, both (by decide +kernel), both (by decide +kernel),
   by decide +kernel⟩

theorem witness_RequestsAreServed_1 :
    (ws5.sound ∧ ws5.atRequest 63 (creq 1 0 (leBytes 2 0 ++ leBytes 2 3)) = some (cq 1 (leBytes 2 0 ++ leBytes 2 3), wu ws5
       (creq 1 0 (leBytes 2 0 ++ leBytes 2 3))) ∧ (wu ws5 (creq 1 0 (leBytes 2 0 ++ leBytes 2 3))).sec.attestQ = [] ∧ ((wu
       ws5 (creq 1 0 (leBytes 2 0 ++ leBytes 2 3))).strm? 63 0).isSome = true ∧ controlRange (cq 1 (leBytes 2 0 ++ leBytes 2
       3)) = some (0, 3) ∧ (cq 1 (leBytes 2 0 ++ leBytes 2 3)).getD 0 0 = 1 ∧ (cq 1 (leBytes 2 0 ++ leBytes 2 3)).length = 8
       ∧ ((wu ws5 (creq 1 0 (leBytes 2 0 ++ leBytes 2 3))).port 63).rights.testBit 1 = true ∧ ((wu ws5 (creq 1 0 (leBytes 2
       0 ++ leBytes 2 3))).readWords (Att.port 63) 0 3).fst.sec.attestQ = [] ∧ (((wu ws5 (creq 1 0 (leBytes 2 0 ++ leBytes 2
       3))).readWords (Att.port 63) 0 3).fst.strm? 63 0).isSome = true)
    ∧ ((wsR 1).sound ∧ (wsR 1).atRequest 63 (creq 1 0 (leBytes 2 0 ++ leBytes 2 3)) = some (cq 1 (leBytes 2 0 ++ leBytes 2
       3), wu (wsR 1) (creq 1 0 (leBytes 2 0 ++ leBytes 2 3))) ∧ (wu (wsR 1) (creq 1 0 (leBytes 2 0 ++ leBytes 2
       3))).sec.attestQ = [] ∧ ((wu (wsR 1) (creq 1 0 (leBytes 2 0 ++ leBytes 2 3))).strm? 63 0).isSome = true ∧ ((wu (wsR
       1) (creq 1 0 (leBytes 2 0 ++ leBytes 2 3))).port 63).rights.testBit 1 = false)
    ∧ (ws5.atRequest 63 (creq 2 0 b2a) = some (cq 2 b2a, wu ws5 (creq 2 0 b2a)) ∧ (wu ws5 (creq 2 0 b2a)).sec.attestQ = [] ∧
       ((wu ws5 (creq 2 0 b2a)).strm? 63 0).isSome = true ∧ controlRange (cq 2 b2a) = some (TB.SET_LO.TICKS.addr, 2) ∧ (cq 2
       b2a).getD 0 0 = 2 ∧ (cq 2 b2a).length = 8 + 4 * 2 ∧ ((wu ws5 (creq 2 0 b2a)).writeWords (Att.port 63)
       TB.SET_LO.TICKS.addr (List.map (fun i ↦ le (cq 2 b2a) (8 + 4 * i) 4) (List.range 2))).fst.sec.attestQ = [] ∧ (((wu
       ws5 (creq 2 0 b2a)).writeWords (Att.port 63) TB.SET_LO.TICKS.addr (List.map (fun i ↦ le (cq 2 b2a) (8 + 4 * i) 4)
       (List.range 2))).fst.strm? 63 0).isSome = true)
    ∧ (ws5.atRequest 63 (creq 3 0 (op3 5 1 0)) = some (cq 3 (op3 5 1 0), wu ws5 (creq 3 0 (op3 5 1 0))) ∧ (wu ws5 (creq 3 0
       (op3 5 1 0))).sec.attestQ = [] ∧ ((wu ws5 (creq 3 0 (op3 5 1 0))).strm? 63 0).isSome = true ∧ (cq 3 (op3 5 1 0)).getD
       0 0 = 3 ∧ (wu ws5 (creq 3 0 (op3 5 1 0))).openStatus 63 (cq 3 (op3 5 1 0)) ≠ 0)
    ∧ (ws5.atRequest 63 (creq 3 0 (op3 9 4 190)) = some (cq 3 (op3 9 4 190), wu ws5 (creq 3 0 (op3 9 4 190))) ∧ (wu ws5
       (creq 3 0 (op3 9 4 190))).sec.attestQ = [] ∧ ((wu ws5 (creq 3 0 (op3 9 4 190))).strm? 63 0).isSome = true ∧ (cq 3
       (op3 9 4 190)).getD 0 0 = 3 ∧ (wu ws5 (creq 3 0 (op3 9 4 190))).openStatus 63 (cq 3 (op3 9 4 190)) = 0)
    ∧ (ws5.atRequest 63 (creq 4 0 [77]) = some (cq 4 [77], wu ws5 (creq 4 0 [77])) ∧ (wu ws5 (creq 4 0 [77])).sec.attestQ =
       [] ∧ ((wu ws5 (creq 4 0 [77])).strm? 63 0).isSome = true ∧ (cq 4 [77]).getD 0 0 = 4 ∧ (cq 4 [77]).length = 5 ∧ ((wu
       ws5 (creq 4 0 [77])).strm? 63 ((cq 4 [77]).getD 4 0) = none ∨ (cq 4 [77]).getD 4 0 = 0))
    ∧ (ws5.atRequest 63 (creq 4 0 [5]) = some (cq 4 [5], wu ws5 (creq 4 0 [5])) ∧ (wu ws5 (creq 4 0 [5])).sec.attestQ = [] ∧
       ((wu ws5 (creq 4 0 [5])).strm? 63 0).isSome = true ∧ (cq 4 [5]).getD 0 0 = 4 ∧ (cq 4 [5]).length = 5 ∧ (wu ws5 (creq
       4 0 [5])).strm? 63 ((cq 4 [5]).getD 4 0) = some s5 ∧ (cq 4 [5]).getD 4 0 ≠ 0 ∧ s5.kind ≠ 2) :=
  ⟨both (by decide +kernel), both (by decide +kernel), by decide +kernel, by decide +kernel, by decide +kernel,
   by decide +kernel, by decide +kernel⟩

theorem witness_RequestsAreServed_2 :
    (ws5.atRequest 63 (creq 5 0 (b5 19 1)) = some (cq 5 (b5 19 1), wu ws5 (creq 5 0 (b5 19 1))) ∧ (wu ws5 (creq 5 0 (b5 19
       1))).sec.attestQ = [] ∧ ((wu ws5 (creq 5 0 (b5 19 1))).strm? 63 0).isSome = true ∧ (cq 5 (b5 19 1)).getD 0 0 = 5 ∧
       (wu ws5 (creq 5 0 (b5 19 1))).leaseStatus 63 (cq 5 (b5 19 1)) = 0)
    ∧ (ws5.atRequest 63 (creq 5 0 (b5 257 2)) = some (cq 5 (b5 257 2), wu ws5 (creq 5 0 (b5 257 2))) ∧ (wu ws5 (creq 5 0 (b5
       257 2))).sec.attestQ = [] ∧ ((wu ws5 (creq 5 0 (b5 257 2))).strm? 63 0).isSome = true ∧ (cq 5 (b5 257 2)).getD 0 0 =
       5 ∧ (wu ws5 (creq 5 0 (b5 257 2))).leaseStatus 63 (cq 5 (b5 257 2)) ≠ 0)
    ∧ (ws5.atRequest 63 (creq 6 0 []) = some (cq 6 [], wu ws5 (creq 6 0 [])) ∧ (wu ws5 (creq 6 0 [])).sec.attestQ = [] ∧
       ((wu ws5 (creq 6 0 [])).strm? 63 0).isSome = true ∧ (cq 6 []).getD 0 0 = 6 ∧ (cq 6 []).length = 4)
    ∧ ((wsR 1).atRequest 63 (creq 7 0 (List.replicate 36 5)) = some (cq 7 (List.replicate 36 5), wu (wsR 1) (creq 7 0
       (List.replicate 36 5))) ∧ (wu (wsR 1) (creq 7 0 (List.replicate 36 5))).sec.attestQ = [] ∧ ((wu (wsR 1) (creq 7 0
       (List.replicate 36 5))).strm? 63 0).isSome = true ∧ (cq 7 (List.replicate 36 5)).getD 0 0 = 7 ∧ (cq 7 (List.replicate
       36 5)).length = 40 ∧ ((wu (wsR 1) (creq 7 0 (List.replicate 36 5))).port 63).rights.testBit 1 = false)
    ∧ (ws5.atRequest 63 (creq 7 0 (List.replicate 36 5)) = some (cq 7 (List.replicate 36 5), wu ws5 (creq 7 0
       (List.replicate 36 5))) ∧ (wu ws5 (creq 7 0 (List.replicate 36 5))).sec.attestQ = [] ∧ ((wu ws5 (creq 7 0
       (List.replicate 36 5))).strm? 63 0).isSome = true ∧ ((wu ws5 (creq 7 0 (List.replicate 36 5))).port
       63).rights.testBit 1 = true) :=
  by decide +kernel

theorem witness_SessionsTimeOut_1 :
    ((wst s5).sound ∧ (wst s5).up = true ∧ (wst s5).session 63 = sesOpen ∧ ((wst s5).port 63).heardAt + ticksOfMs ((wst
       s5).rd WAG.TIMERS.ABSENT_MS) ≤ (wst s5).now)
    ∧ ((wst s5).portPresent 63 = true ∧ (wst s5).on (HPT.Pp_STATUS.LINK 63) = true)
    ∧ (((wp 63).put (HPT.Pp_STATUS.LINK 63) false).sound ∧ ((wp 63).put (HPT.Pp_STATUS.LINK 63) false).up = true ∧ ((wp
       63).put (HPT.Pp_STATUS.LINK 63) false).portPresent 63 = true ∧ ((wp 63).put (HPT.Pp_STATUS.LINK 63) false).on
       (HPT.Pp_CTL.EN 63) = true ∧ ((wp 63).put (HPT.Pp_STATUS.LINK 63) false).on (HPT.Pp_STATUS.LINK 63) = false)
    ∧ (wab.sound ∧ wab.live = true ∧ wab.session 63 = sesAbsent ∧ (wab.port 63).holdEnded = false ∧ (wab.port 63).absentAt +
       ticksOfMs (wab.rd WAG.LEASE.MS) ≤ wab.now)
    ∧ (wab.port 63).absentAt + ticksOfS (wab.rd WAG.LEASE.RESUME_S) ≤ wab.now
    ∧ ((wlink sesChallenged).sound ∧ (wlink sesChallenged).live = true ∧ (wlink sesChallenged).session 63 = sesChallenged ∧
       ((wlink sesChallenged).port 63).helloAt + ticksOfS 1 ≤ (wlink sesChallenged).now)
    ∧ ((wst s5).leaseHolder 8 = some 63 ∧ ((wst s5).leases.getD 8 { }).expires < (wst s5).now) :=
  ⟨both (by decide +kernel), by decide +kernel, both (by decide +kernel), both (by decide +kernel), by decide +kernel, both
   (by decide +kernel), by decide +kernel⟩

theorem witness_SessionsTimeOut_2 :
    ((wst s6).sound ∧ alt107.body = Body.bytes [1] ∧ (wst s6).live = true ∧ (wst s6).strm? 63 5 = some s6 ∧ s6.kind =
       kSnapshots ∧ s6.inflight = [(0, alt107), (1, { typ := 4, number := 10, body := Body.bytes [1], cost := 1 })] ∧
       alt107.typ = 4 ∧ s6.snapAt + 2 * ticksOfMs ((wst s6).rd WAG.LEASE.MS) ≤ (wst s6).now) :=
  both (by decide +kernel)

theorem witness_MonitorAndDisplayGoOn_1 :
    (wwin.sound ∧ wwin.compares 23 = true ∧ (if true = true then if 0 = 0 then ((if 0 = 0 then Int.ofNat (wwin.rd (WIN.Ww_THR.U 23))
       else Int.ofNat (wwin.rd (WIN.Ww_THR.L 23))) - 2048) * (250000000 * 2 ^ wwin.rd (WIN.Ww_CFG.RANGE 23)) ≤ 4096 * 300000000 else
       4096 * 300000000 < ((if 0 = 0 then Int.ofNat (wwin.rd (WIN.Ww_THR.U 23)) else Int.ofNat (wwin.rd (WIN.Ww_THR.L 23))) - 2048) *
       (250000000 * 2 ^ wwin.rd (WIN.Ww_CFG.RANGE 23)) else if 0 = 0 then 4096 * 300000000 < ((if 0 = 0 then Int.ofNat (wwin.rd
       (WIN.Ww_THR.U 23)) else Int.ofNat (wwin.rd (WIN.Ww_THR.L 23))) - 2048) * (250000000 * 2 ^ wwin.rd (WIN.Ww_CFG.RANGE 23)) - (if
       0 = 0 then Int.ofNat (wwin.rd (WIN.Ww_CFG.HYST_U 23)) else Int.ofNat (wwin.rd (WIN.Ww_CFG.HYST_L 23))) * (3000000 * 4096) else ((if 0 =
       0 then Int.ofNat (wwin.rd (WIN.Ww_THR.U 23)) else Int.ofNat (wwin.rd (WIN.Ww_THR.L 23))) - 2048) * (250000000 * 2 ^ wwin.rd
       (WIN.Ww_CFG.RANGE 23)) + (if 0 = 0 then Int.ofNat (wwin.rd (WIN.Ww_CFG.HYST_U 23)) else Int.ofNat (wwin.rd (WIN.Ww_CFG.HYST_L 23))) *
       (3000000 * 4096) ≤ 4096 * 300000000) ∧ wwin.compIsEvent 23 0 true = true)
    ∧ ((w0.put (WIN.Ww_CFG.EN 0) true).sound ∧ (w0.put (WIN.Ww_CFG.EN 0) true).compares 0 = true ∧ (if true = true then if 1
       = 0 then ((if 1 = 0 then Int.ofNat ((w0.put (WIN.Ww_CFG.EN 0) true).rd (WIN.Ww_THR.U 0)) else Int.ofNat ((w0.put (WIN.Ww_CFG.EN 0)
       true).rd (WIN.Ww_THR.L 0))) - 2048) * (250000000 * 2 ^ (w0.put (WIN.Ww_CFG.EN 0) true).rd (WIN.Ww_CFG.RANGE 0)) ≤
       4096 * -500000000 else 4096 * -500000000 < ((if 1 = 0 then Int.ofNat ((w0.put (WIN.Ww_CFG.EN 0) true).rd (WIN.Ww_THR.U 0))
       else Int.ofNat ((w0.put (WIN.Ww_CFG.EN 0) true).rd (WIN.Ww_THR.L 0))) - 2048) * (250000000 * 2 ^ (w0.put (WIN.Ww_CFG.EN 0)
       true).rd (WIN.Ww_CFG.RANGE 0)) else if 1 = 0 then 4096 * -500000000 < ((if 1 = 0 then Int.ofNat ((w0.put (WIN.Ww_CFG.EN 0)
       true).rd (WIN.Ww_THR.U 0)) else Int.ofNat ((w0.put (WIN.Ww_CFG.EN 0) true).rd (WIN.Ww_THR.L 0))) - 2048) * (250000000 * 2 ^
       (w0.put (WIN.Ww_CFG.EN 0) true).rd (WIN.Ww_CFG.RANGE 0)) - (if 1 = 0 then Int.ofNat ((w0.put (WIN.Ww_CFG.EN 0) true).rd
       (WIN.Ww_CFG.HYST_U 0)) else Int.ofNat ((w0.put (WIN.Ww_CFG.EN 0) true).rd (WIN.Ww_CFG.HYST_L 0))) * (3000000 * 4096) else ((if
       1 = 0 then Int.ofNat ((w0.put (WIN.Ww_CFG.EN 0) true).rd (WIN.Ww_THR.U 0)) else Int.ofNat ((w0.put (WIN.Ww_CFG.EN 0) true).rd
       (WIN.Ww_THR.L 0))) - 2048) * (250000000 * 2 ^ (w0.put (WIN.Ww_CFG.EN 0) true).rd (WIN.Ww_CFG.RANGE 0)) + (if 1 = 0
       then Int.ofNat ((w0.put (WIN.Ww_CFG.EN 0) true).rd (WIN.Ww_CFG.HYST_U 0)) else Int.ofNat ((w0.put (WIN.Ww_CFG.EN 0) true).rd
       (WIN.Ww_CFG.HYST_L 0))) * (3000000 * 4096) ≤ 4096 * -500000000) ∧ (w0.put (WIN.Ww_CFG.EN 0) true).compIsEvent 0 1
       true = false)
    ∧ (whys.sound ∧ whys.compares 23 = true ∧ (¬if 0 = 0 then ((if 0 = 0 then Int.ofNat (whys.rd (WIN.Ww_THR.U 23)) else Int.ofNat (whys.rd
       (WIN.Ww_THR.L 23))) - 2048) * (250000000 * 2 ^ whys.rd (WIN.Ww_CFG.RANGE 23)) ≤ 4096 * -1000000 else 4096 * -1000000
       < ((if 0 = 0 then Int.ofNat (whys.rd (WIN.Ww_THR.U 23)) else Int.ofNat (whys.rd (WIN.Ww_THR.L 23))) - 2048) * (250000000 * 2 ^ whys.rd
       (WIN.Ww_CFG.RANGE 23))) ∧ (¬if 0 = 0 then 4096 * -1000000 < ((if 0 = 0 then Int.ofNat (whys.rd (WIN.Ww_THR.U 23)) else
       Int.ofNat (whys.rd (WIN.Ww_THR.L 23))) - 2048) * (250000000 * 2 ^ whys.rd (WIN.Ww_CFG.RANGE 23)) - (if 0 = 0 then Int.ofNat (whys.rd
       (WIN.Ww_CFG.HYST_U 23)) else Int.ofNat (whys.rd (WIN.Ww_CFG.HYST_L 23))) * (3000000 * 4096) else ((if 0 = 0 then Int.ofNat (whys.rd
       (WIN.Ww_THR.U 23)) else Int.ofNat (whys.rd (WIN.Ww_THR.L 23))) - 2048) * (250000000 * 2 ^ whys.rd (WIN.Ww_CFG.RANGE 23)) + (if
       0 = 0 then Int.ofNat (whys.rd (WIN.Ww_CFG.HYST_U 23)) else Int.ofNat (whys.rd (WIN.Ww_CFG.HYST_L 23))) * (3000000 * 4096) ≤ 4096 *
       -1000000))
    ∧ ((¬if 0 = 0 then ((if 0 = 0 then Int.ofNat (whys.rd (WIN.Ww_THR.U 23)) else Int.ofNat (whys.rd (WIN.Ww_THR.L 23))) - 2048) * (250000000
       * 2 ^ whys.rd (WIN.Ww_CFG.RANGE 23)) ≤ 4096 * -9000000 else 4096 * -9000000 < ((if 0 = 0 then Int.ofNat (whys.rd (WIN.Ww_THR.U
       23)) else Int.ofNat (whys.rd (WIN.Ww_THR.L 23))) - 2048) * (250000000 * 2 ^ whys.rd (WIN.Ww_CFG.RANGE 23))) ∧ (¬if 0 = 0 then
       4096 * -9000000 < ((if 0 = 0 then Int.ofNat (whys.rd (WIN.Ww_THR.U 23)) else Int.ofNat (whys.rd (WIN.Ww_THR.L 23))) - 2048) *
       (250000000 * 2 ^ whys.rd (WIN.Ww_CFG.RANGE 23)) - (if 0 = 0 then Int.ofNat (whys.rd (WIN.Ww_CFG.HYST_U 23)) else Int.ofNat (whys.rd
       (WIN.Ww_CFG.HYST_L 23))) * (3000000 * 4096) else ((if 0 = 0 then Int.ofNat (whys.rd (WIN.Ww_THR.U 23)) else Int.ofNat (whys.rd
       (WIN.Ww_THR.L 23))) - 2048) * (250000000 * 2 ^ whys.rd (WIN.Ww_CFG.RANGE 23)) + (if 0 = 0 then Int.ofNat (whys.rd
       (WIN.Ww_CFG.HYST_U 23)) else Int.ofNat (whys.rd (WIN.Ww_CFG.HYST_L 23))) * (3000000 * 4096) ≤ 4096 * -9000000))
    ∧ alt108.sound
    ∧ (wrb.sound ∧ wrb.mon.rb = some { window := 23, comp := 1, range := 3, channel := some 7 } ∧ wrb.up = true ∧ wrb.on
       ADC.SCLK.OK = true ∧ (List.replicate 512 3000).length = 512)
    ∧ ((wmr true true).sound ∧ (wmr true true).mon.due ≤ (wmr true true).now ∧ (wmr true true).mon.running = true ∧ (wmr
       true true).mon.late = true) :=
  ⟨both (by decide +kernel), both (by decide +kernel), both (by decide +kernel), by decide +kernel, sound_of
   (by decide +kernel), both (by decide +kernel), both (by decide +kernel)⟩

theorem witness_MonitorAndDisplayGoOn_2 :
    ((wmr true false).sound ∧ (wmr true false).mon.due ≤ (wmr true false).now ∧ (wmr true false).mon.running = true ∧ (wmr
       true false).mon.late = false)
    ∧ (alt203.sound ∧ alt203.mon.due ≤ alt203.now ∧ alt203.mon.running = false ∧ alt203.mon.queue ≠ [] ∧
       alt203.mon.results.length < 4 ∧ alt203.dev ≠ devHalted)
    ∧ ((wmr false false).sound ∧ (wmr false false).mon.due ≤ (wmr false false).now ∧ (wmr false false).mon.running = false ∧
       ((wmr false false).mon.queue = [] ∨ 4 ≤ (wmr false false).mon.results.length ∨ (wmr false false).dev = devHalted))
    ∧ (((wmr true false).wr SYS.STATE.STATE devActive).sound ∧ ((wmr true false).wr SYS.STATE.STATE devActive).mon.running =
       true ∧ ((wmr true false).wr SYS.STATE.STATE devActive).on MCV.STATUS.CAL_BUSY = false ∧ ((wmr true false).wr
       SYS.STATE.STATE devActive).mon.queue = [])
    ∧ (wq5.sound ∧ wq5.mon.queue = [alt109, q5] ∧ wq5.live = true ∧ wq5.on MCV.STATUS.CAL_BUSY = false ∧ wq5.on
       MCV.CAL_STATUS.PENDING = false ∧ (∀ (x : InjReq), x ∈ [alt109, q5] → x.aborted = false) ∧ wq5.mon.results.length < 4)
    ∧ ((w0.put MCV.STATUS.CAL_BUSY true).sound ∧ (w0.put MCV.STATUS.CAL_BUSY true).on MCV.STATUS.CAL_BUSY = true ∧ (w0.put
       MCV.STATUS.CAL_BUSY true).live = true ∧ (∀ (k : Nat), k < 4 → fitsS 16 ([1, -32768, 3, 4].getD k 0) = true ∧ fitsS 16
       ([0, 0, 32767, 5].getD k 0) = true))
    ∧ ((∀ (j : Nat), j < 3 → fitsS 16 ([1, -32768, 3, 40000].getD j 0) = true ∧ fitsS 16 ([0, 0, 32767, 5].getD j 0) = true)
       ∧ (¬(fitsS 16 ([1, -32768, 3, 40000].getD 3 0) = true ∧ fitsS 16 ([0, 0, 32767, 5].getD 3 0) = true)) ∧ (w0.put
       MCV.STATUS.CAL_BUSY true).dev ≠ devStart) :=
  ⟨both (by decide +kernel), both (by decide +kernel), both (by decide +kernel), both (by decide +kernel), both
   (by decide +kernel), both (by decide +kernel), by decide +kernel⟩

theorem witness_MonitorAndDisplayGoOn_3 :
    (∃ k, k < 4 ∧ ¬(fitsS 16 ([1, -32768, 3, 40000].getD k 0) = true ∧ fitsS 16 ([0, 0, 32767, 5].getD k 0) = true)) ∧ (((ws
       8).put MCV.STATUS.CAL_BUSY true).sound ∧ ((ws 8).put MCV.STATUS.CAL_BUSY true).on MCV.STATUS.CAL_BUSY = true ∧ ((ws
       8).put MCV.STATUS.CAL_BUSY true).live = true ∧ ((ws 8).put MCV.STATUS.CAL_BUSY true).dev = devStart)
    ∧ ((w0.put PRO.CTL.PENDING true).sound ∧ (w0.put PRO.CTL.PENDING true).live = true ∧ (w0.put PRO.CTL.PENDING true).on
       PRO.CTL.PENDING = true)
    ∧ (w0.sound ∧ w0.live = true ∧ w0.on PRO.CTL.PENDING = false ∧ w0.proCommand = false)
    ∧ (((w0.put PRO.STATUS.COMMAND true).wr PRO.STATUS.STATE 2).sound ∧ ((w0.put PRO.STATUS.COMMAND true).wr
       PRO.STATUS.STATE 2).live = true ∧ ((w0.put PRO.STATUS.COMMAND true).wr PRO.STATUS.STATE 2).on PRO.CTL.PENDING = false
       ∧ ((w0.put PRO.STATUS.COMMAND true).wr PRO.STATUS.STATE 2).proCommand = true)
    ∧ (alt110.sound ∧ alt110.proOn = true ∧ alt110.pro.composing = none ∧ alt110.proCause = true ∧ alt110.proCurve = some
       (List.replicate 600 3) ∧ alt110.proColours = some (List.replicate 60 3))
    ∧ (alt111.sound ∧ alt111.proOn = true ∧ alt111.pro.composing = some alt204 ∧ alt111.dramUp = true ∧ alt111.repeatStarts
       = false)
    ∧ (alt112.sound ∧ alt112.proOn = true ∧ alt112.pro.ready = true ∧ alt112.minPassed = true ∧ alt112.proCommand = false) :=
  ⟨⟨3, by decide +kernel⟩, both (by decide +kernel), both (by decide +kernel), both (by decide +kernel), both (by decide +kernel), both
   (by decide +kernel), both (by decide +kernel), both (by decide +kernel)⟩

theorem witness_MonitorAndDisplayGoOn_4 :
    (alt113.sound ∧ alt113.proOn = true ∧ alt113.proCommand = false ∧ alt113.pro.ready = false ∧ alt113.rd PRO.STATUS.STATE
       ≠ 1 ∧ alt113.rd PRO.STATUS.STATE ≠ 4 ∧ alt113.pro.startAt + alt113.proMax ≤ alt113.now)
    ∧ ((wcmd 3).sound ∧ (wcmd 3).proOn = true ∧ (wcmd 3).proCommand = true ∧ (wcmd 3).pro.ready = false)
    ∧ (((wcmd 3).put PRO.STATUS.TE_OK true).sound ∧ ((wcmd 3).put PRO.STATUS.TE_OK true).proOn = true ∧ ((wcmd 3).put
       PRO.STATUS.TE_OK true).proCommand = true ∧ ((wcmd 3).put PRO.STATUS.TE_OK true).on PRO.STATUS.TE_OK = true ∧ ((wcmd
       3).put PRO.STATUS.TE_OK true).pro.teAt + 2 * ((wcmd 3).put PRO.STATUS.TE_OK true).proMax ≤ ((wcmd 3).put
       PRO.STATUS.TE_OK true).now) :=
  ⟨both (by decide +kernel), both (by decide +kernel), both (by decide +kernel)⟩

theorem witness_TokensAndSignatures_1 :
    ((wtk 1 (List.range 80)).sound ∧ (wtk 1 (List.range 80)).checking = some (tk 1 (List.range 80)) ∧ ((tk 1 (List.range
       80)).kind = 1 ∧ (wtk 1 (List.range 80)).tokenVerdict (tk 1 (List.range 80)) true true = 0))
    ∧ (wad.sound ∧ wad.checking = some (tk 2 adP) ∧ ((tk 2 adP).kind = 2 ∧ wad.tokenVerdict (tk 2 adP) true true = 0) ∧
       wad.rd PRF.STAGE_STATUS.STATE = 2 ∧ wad.prf.staged = some imS ∧ imS.digest = slice (tk 2 adP).payload 0 32 ∧
       imS.rollback = le (tk 2 adP).payload 32 4)
    ∧ ((wtk 3 (enP 77)).sound ∧ (wtk 3 (enP 77)).checking = some (tk 3 (enP 77)) ∧ ((tk 3 (enP 77)).kind = 3 ∧ (wtk 3 (enP
       77)).tokenVerdict (tk 3 (enP 77)) true true = 0) ∧ (wtk 3 (enP 77)).led.hosts.length < 256)
    ∧ (wrv.sound ∧ wrv.checking = some (tk 4 (leBytes 4 77)) ∧ ((tk 4 (leBytes 4 77)).kind = 4 ∧ wrv.tokenVerdict (tk 4
       (leBytes 4 77)) true true = 0) ∧ (wrv.led.hosts.any fun h ↦ h.hostId == le (tk 4 (leBytes 4 77)).payload 0 4) = true)
    ∧ (wak.sound ∧ wak.checking = some (tk 5 akP) ∧ ((tk 5 akP).kind = 5 ∧ wak.tokenVerdict (tk 5 akP) true true = 0) ∧
       wak.sec.export_ ≠ [] ∧ le (tk 5 akP).payload 0 8 = wak.sec.exportLast ∧ slice (tk 5 akP).payload 8 32 = sha256
       wak.sec.export_)
    ∧ (((wtk 8 []).put SEC.STATE.CLAIM_PIN true).sound ∧ ((wtk 8 []).put SEC.STATE.CLAIM_PIN true).checking = some (tk 8 [])
       ∧ ((tk 8 []).kind = 8 ∧ ((wtk 8 []).put SEC.STATE.CLAIM_PIN true).tokenVerdict (tk 8 []) true true = 0))
    ∧ ((wtk 9 []).sound ∧ (wtk 9 []).checking = some (tk 9 []) ∧ ((tk 9 []).kind = 9 ∧ (wtk 9 []).tokenVerdict (tk 9 [])
       true true = 0)) :=
  ⟨both (by decide +kernel), both (by decide +kernel), both (by decide +kernel), both (by decide +kernel), both
   (by decide +kernel), both (by decide +kernel), both (by decide +kernel)⟩

theorem witness_TokensAndSignatures_2 :
    ((wtk 10 []).sound ∧ (wtk 10 []).checking = some (tk 10 []) ∧ ((tk 10 []).kind = 10 ∧ (wtk 10 []).tokenVerdict (tk 10
       []) true true = 0) ∧ (wtk 10 []).on SEC.STATE.SERVICE = (wtk 10 []).sec.service.isSome)
    ∧ (tk 9 []).kind ≠ (1, Instr.tokKeyPass false).fst
    ∧ ((tk 9 []).kind = (9, Instr.tokService false).fst ∧ (wtk 9 []).tokenVerdict (tk 9 []) false true ≠ 0)
    ∧ ((wtk 8 []).sound ∧ (wtk 8 []).checking = some (tk 8 []) ∧ (tk 8 []).kind = (8, Instr.tokRelease true).fst ∧ (wtk 8
       []).tokenVerdict (tk 8 []) true true ≠ 0)
    ∧ ((wsg 2).sound ∧ (wsg 2).live = true ∧ (wsg 2).sec.attestQ = [{ att := Att.i3c, body := [1, 2], req := [] }] ∧ (wsg
       2).sec.signing = 2)
    ∧ ((wsg 1).sound ∧ (wsg 1).live = true ∧ (wsg 1).sec.leaves ≠ [] ∧ (wsg 1).sec.openedAt + ticksOfMs (wsg 1).sec.periodMs
       ≤ (wsg 1).now)
    ∧ ((wsg 1).sec.queue = [[{ number := 4, leaves := [{ kind := 1, digest := [1] }], closedTb := 6 }]] ∧ (wsg
       1).sec.signing = 1) :=
  ⟨both (by decide +kernel), by decide +kernel, by decide +kernel, both (by decide +kernel), both (by decide +kernel), both
   (by decide +kernel), by decide +kernel⟩

theorem witness_TokensAndSignatures_3 :
    ((wsg 3).sound ∧ (wsg 3).sec.building = some (3, [4, 5]) ∧ (wsg 3).sec.signing = 3) :=
  both (by decide +kernel)

theorem witness_ProfilesAndDark_1 :
    (w15.sound ∧ (w15.up = false ∨ w15.on PRF.SOURCE.SOURCE = true ∨ 7 = w15.rd PRF.STATUS.ACTIVE))
    ∧ ((w15.put PRF.SOURCE.SOURCE false).sound ∧ (w15.put PRF.SOURCE.SOURCE false).up = true ∧ (w15.put PRF.SOURCE.SOURCE
       false).on PRF.SOURCE.SOURCE = false ∧ 3 ≠ (w15.put PRF.SOURCE.SOURCE false).rd PRF.STATUS.ACTIVE ∧ (w15.put
       PRF.SOURCE.SOURCE false).adopting = false ∧ ((w15.put PRF.SOURCE.SOURCE false).profileOf 3).isSome = true)
    ∧ ((wpd 5).sound ∧ (wpd 5).up = true ∧ (wpd 5).prf.resumeAt = none ∧ (wpd 5).on PRF.STATUS.PENDING_VALID = true ∧ (wpd
       5).atBoundary = true ∧ (wpd 5).prf.adopting = 0 ∧ (wpd 5).profileOf ((wpd 5).rd PRF.STATUS.PENDING) = none)
    ∧ ((wpd 3).sound ∧ (wpd 3).up = true ∧ (wpd 3).prf.resumeAt = none ∧ (wpd 3).on PRF.STATUS.PENDING_VALID = true ∧ (wpd
       3).atBoundary = true ∧ (wpd 3).prf.adopting = 0 ∧ (wpd 3).profileOf ((wpd 3).rd PRF.STATUS.PENDING) = some pr3 ∧ (wpd
       3).profileOf pr3.number = some pr3)
    ∧ (alt114.sound ∧ alt114.profile = some alt115 ∧ alt114.darkCause = 0 ∧ alt115.idleDarkMs ≠ 0 ∧ alt114.boot.idleSince +
       ticksOfMs alt115.idleDarkMs ≤ alt114.now)
    ∧ ((w0.wr PRF.STAGE_STATUS.STATE 1).sound ∧ (w0.wr PRF.STAGE_STATUS.STATE 1).live = true ∧ (w0.wr PRF.STAGE_STATUS.STATE
       1).i3c.flashOp = none ∧ (w0.wr PRF.STAGE_STATUS.STATE 1).rd PRF.STAGE_STATUS.STATE = 1)
    ∧ (alt116.sound ∧ alt116.live = true ∧ alt116.i3c.flashOp = none ∧ alt116.prf.adopting = 2 ∧ alt116.up = true ∧
       alt116.cellsStill = true ∧ alt116.prf.heldSwitch = none ∧ (alt116.verify alt116.prf.stageAddr true true true).fst ≠
       0) :=
  ⟨both (by decide +kernel), both (by decide +kernel), both (by decide +kernel), both (by decide +kernel), both
   (by decide +kernel), both (by decide +kernel), both (by decide +kernel)⟩

theorem witness_ProfilesAndDark_2 :
    (alt5.sound ∧ alt5.prf.adopting = 1 ∧ alt5.up = true ∧ alt5.atBoundary = true ∧ alt5.prf.resumeAt = none ∧ (∀ (n : Nat),
       n < 8 → alt5.on (CAP.CHn_STATUS.IN_ROLL n) = false))
    ∧ (wde.sound ∧ wde.on SYS.STATE.ENTERING = true ∧ wde.dev = devIdle ∧ wde.boot.entryStep = 0 ∧ wde.darkWaits = 0 ∧
       wde.prf.resumeAt = none ∧ wde.prf.adopting = 0 ∧ wde.on PRF.STATUS.PENDING_VALID = false ∧ wde.pll0Locked = true ∧
       wde.on CLK.REF.OK = true ∧ wde.on TB.STATE.REPHASE = false)
    ∧ ((wwk true 1).sound ∧ true = (wwk true 1).boot.wakeLevel)
    ∧ ((wwk true 0).sound ∧ false ≠ (wwk true 0).boot.wakeLevel ∧ (wwk true 0).boot.wakeRun = 0)
    ∧ ((((wwk false 1).wr SYS.STATE.STATE devDark).put SYS.WAKE_CFG.PIN true).sound ∧ true ≠ (((wwk false 1).wr
       SYS.STATE.STATE devDark).put SYS.WAKE_CFG.PIN true).boot.wakeLevel ∧ (((wwk false 1).wr SYS.STATE.STATE devDark).put
       SYS.WAKE_CFG.PIN true).boot.wakeRun ≠ 0 ∧ (((wwk false 1).wr SYS.STATE.STATE devDark).put SYS.WAKE_CFG.PIN true).dev
       = devDark ∧ (((wwk false 1).wr SYS.STATE.STATE devDark).put SYS.WAKE_CFG.PIN true).boot.heldWake = none ∧ (((wwk
       false 1).wr SYS.STATE.STATE devDark).put SYS.WAKE_CFG.PIN true).on SYS.WAKE_CFG.PIN = true ∧ (((wwk false 1).wr
       SYS.STATE.STATE devDark).put SYS.WAKE_CFG.PIN true).on SYS.WAKE_CFG.PIN_EDGE ≠ true)
    ∧ (alt117.sound ∧ alt117.dev = devDark ∧ alt117.on SYS.WAKE_CFG.ALARM = true ∧ alt117.boot.heldWake = none ∧ alt117.rd
       SYS.WAKE_AT_LO.KEEPER + alt117.rd SYS.WAKE_AT_HI.KEEPER * 2 ^ 32 ≤ alt117.keeper)
    ∧ (∀ (k : Profile), alt118.profile = some k → k.flags.testBit 1 = false) ∧ (alt118.sound ∧ alt118.dev = devDark ∧
       alt118.boot.heldWake = some (3, 0)) :=
  ⟨both (by decide +kernel), both (by decide +kernel), both (by decide +kernel), both (by decide +kernel), both
   (by decide +kernel), both (by decide +kernel), some_of (by decide +kernel), both (by decide +kernel)⟩

theorem witness_RegisterWritesStore :
    Accepts (w0.wr PRO.STATIC.FLOOR 200) Att.i3c (regF.getD 0 (TB.SET_LO.TICKS, 0)).fst.addr (regF.getD 0 (TB.SET_LO.TICKS,
       0)).snd ∧ ((regF.getD 0 (TB.SET_LO.TICKS, 0)).fst.addr % 4 = 0 ∧ (regF.getD 0 (TB.SET_LO.TICKS, 0)).fst.addr < 32768
       ∧ (regF.getD 0 (TB.SET_LO.TICKS, 0)).fst ∈ [TB.SET_LO.TICKS, CAL.CERT_VALUE.NV, TRG.CHn_LEVEL.A 7, CMB.VIEW.CELL,
       DRM.SR_CTL.IDLE_US, WAG.TIMERS.RTO_US, PRO.PERIOD.MIN, SYS.WAKE_AT_LO.KEEPER, I3C.AUTH_HOST.HOST_ID,
       I3C.FLASH_ADDR.ADDR, SEC.NONCEk.WORD 7, MCV.SEQe.SEL 7] ∧ (regF.getD 0 (TB.SET_LO.TICKS, 0)).fst.addr = (regF.getD 0
       (TB.SET_LO.TICKS, 0)).fst.addr)
    ∧ Accepts (wop.wr WIN.PENDING.WINDOWS 16711935) Att.i3c WIN.PENDING.WINDOWS.addr 15790320 ∧ (WIN.PENDING.WINDOWS.addr %
       4 = 0 ∧ WIN.PENDING.WINDOWS.addr < 32768 ∧ WIN.PENDING.WINDOWS.addr = WIN.PENDING.WINDOWS.addr)
    ∧ Accepts wop Att.i3c CMB.VIEW.CELL.addr 0 ∧ (CMB.VIEW.CELL.addr % 4 = 0 ∧ CMB.VIEW.CELL.addr < 32768 ∧ wop.written
       Att.i3c CMB.VIEW.CELL.addr 0 = [])
    ∧ (∀ (p : Nat), Att.i3c = Att.port p → (w0.wr SYS.STATE.STATE devHalted).hears p = true) ∧ (9 < 2 ^ 32 ∧ (w0.wr
       SYS.STATE.STATE devHalted).written Att.i3c CMB.VIEW.CELL.addr 9 ≠ [] ∧ (w0.wr SYS.STATE.STATE devHalted).judge
       Att.i3c CMB.VIEW.CELL.addr 9 ((w0.wr SYS.STATE.STATE devHalted).written Att.i3c CMB.VIEW.CELL.addr 9) = some alt119 ∧
       alt119.block = 3 ∧ alt119.status ≠ 0)
    ∧ (Att.port 5 = Att.port 5 ∧ w0.hears 5 = false) :=
  ⟨accepts (by decide +kernel), by decide +kernel, accepts (by decide +kernel), by decide +kernel, accepts
   (by decide +kernel), by decide +kernel, (fun _ h => nomatch h), by decide +kernel, by decide +kernel⟩

theorem witness_SerialPortsAnswer_1 :
    wi.i3cFor (some 9) = true
    ∧ winP.i3cFor (some 9) = true
    ∧ (Nat.testBit 1 0 = true ∧ Nat.testBit 1 3 = false)
    ∧ (Nat.testBit 7 0 = true ∧ Nat.testBit 7 3 = false)
    ∧ le [252, 127] 0 2 % 4 = 0
    ∧ (winH.i3cFor (some 9) = true ∧ winH.i3c.hdr = true)
    ∧ ([56, 68, 1, 0, 0, 0].length = 6 ∧ le [56, 68, 1, 0, 0, 0] 0 2 % 4 = 0 ∧ le [56, 68, 1, 0, 0, 0] 0 2 < 65536) :=
  by decide +kernel

theorem witness_SerialPortsAnswer_2 :
    (alt120.i3cFor (some 9) = true ∧ alt120.boot.wakeReport = none ∧ 4 ≤ alt120.i3c.mrl ∧ alt120.i3c.pointer + 4 ≤ 65536)
    ∧ (winX.i3cFor (some 9) = true ∧ winX.boot.wakeReport = none ∧ 4 ≤ winX.i3c.mrl ∧ winX.i3c.pointer + 4 ≤ 65536 ∧
       winX.i3c.hdr = true)
    ∧ (¬wi.i3cFor (some 8) = true)
    ∧ wi.i3c.hdr = false
    ∧ wi.i3cUp = true
    ∧ ((wi.put I3C.STATUS.AUTH false).i3cUp = true ∧ (wi.put I3C.STATUS.AUTH false).on I3C.STATUS.AUTH = false)
    ∧ (wno.i3cUp = true ∧ wno.on I3C.STATUS.DA_VALID = false) :=
  by decide +kernel

theorem witness_SerialPortsAnswer_3 :
    wno.i3c.staticAddr ≠ 0
    ∧ (wno.on I3C.STATUS.ENHJ = true ∧ wno.i3c.upAt + ticksOfMs 1 ≤ wno.now)
    ∧ (wib.i3cUp = true ∧ wib.i3c.ibis = [{ cls := 1, data := [2, 3] }, { cls := 2, data := [] }] ∧ wib.on
       I3C.STATUS.DA_VALID = true ∧ wib.on I3C.STATUS.ENINT = true)
    ∧ (w0.on I3C.STATUS.AUTH = true ∧ w0.i3c.lastTransfer + ticksOfS (w0.rd I3C.AUTH_IDLE.SECONDS) ≤ w0.now ∧ w0.i3c.flashOp
       = none)
    ∧ (wfo 3).canonical ∧ (wfo 3).i3c.flashOp = some (3, 4096, 4096)
    ∧ w0.sec.service = none :=
  ⟨by decide +kernel, by decide +kernel, by decide +kernel, by decide +kernel, canonical_of (by decide +kernel),
   by decide +kernel, by decide +kernel⟩

end Sys2Proof.Tests
end

section
/-! PROOFS. The lock timeout of a PLL (04_clocks_and_time_base.md, R132). -/

namespace Sys2Proof.Machine

/-- The dispatch of PLL_LOCK_TIMEOUT. -/
theorem exec_pllLockTimeout (n : Nat) (s : State) : exec (.pllLockTimeout n) s = execPllLockTimeout n s :=
  rfl

/-- An enabled PLL whose 10 ms have run out with the reference OK is an internal fault: the step in hand is named in start-up,
the PLL in service (R132). -/
theorem execPllLockTimeout_expired {s : State} {n since : Nat} (hn : n < 6) (hen : s.pllEnabled n = true)
    (hok : s.on CLK.REF.OK = true) (hsince : s.clk.since.getD n none = some since) (hdue : since + ticksOfMs 10 ≤ s.now) :
    execPllLockTimeout n s =
      .next (if s.dev = devStart then s.halt 0x0107 (s.rd SYS.STATE.STEP) 0 else s.halt 0x0610 n 0) := by
  simp only [execPllLockTimeout, hsince]
  rw [if_pos ⟨hn, hen, hok, hdue⟩]

/-- Settles O29: the timeout faults, and a fault short of HALTED enters it, by whether the device is in start-up or in service. -/
theorem pllLockTimeoutHalts : Obligations.PllLockTimeoutHalts := by
  unfold Obligations.PllLockTimeoutHalts
  intro s n hlive hn hen hok _ since hsince hdue
  refine ⟨_, (exec_pllLockTimeout n s).trans (execPllLockTimeout_expired hn hen hok hsince hdue), ?_⟩
  by_cases hstart : s.dev = devStart
  case pos =>
    simp only [if_pos hstart]
    exact halt_halts s 0x0107 _ 0 hlive
  case neg =>
    simp only [if_neg hstart]
    exact halt_halts s 0x0610 n 0 hlive

end Sys2Proof.Machine
end

section
/-! PROOFS. The device state is kept by what a slot of the capture memory does before an error in it is looked at: releases, the
archive mover, the DRAM's pieces, the Comb's memory path, decay sweeps, the scrubber (07_capture_memory_and_rolls.md,
09_accumulation.md, 10_comb.md, 11_archive_memory.md). -/

namespace Sys2Proof.Machine

variable (s : State)

/-! ### Elementary updates -/

theorem dev_wr_ne {f : Fld} (v : Nat) (h : SYS.STATE.STATE.key ≠ f.key) : (s.wr f v).dev = s.dev := rd_wr_ne s v h

theorem dev_put_ne {f : Fld} (b : Bool) (h : SYS.STATE.STATE.key ≠ f.key) : (s.put f b).dev = s.dev := rd_put_ne s b h

@[simp] theorem event_dev (code : Nat) (ps : List Nat) : (s.event code ps).dev = s.dev := rd_event s code ps (by decide)

@[simp] theorem dev_with_cap (x : Cap) : ({ s with cap := x } : State).dev = s.dev := rfl
@[simp] theorem modArc_dev (f : Arc → Arc) : (s.modArc f).dev = s.dev := rfl
@[simp] theorem modSub_dev (k : Nat) (f : Subch → Subch) : (s.modSub k f).dev = s.dev := rfl
@[simp] theorem modAcc_dev (n : Nat) (f : AccCh → AccCh) : (s.modAcc n f).dev = s.dev := rfl
@[simp] theorem modFrame_dev (t i : Nat) (f : Frame → Frame) : (s.modFrame t i f).dev = s.dev := rfl
@[simp] theorem freeSlot_dev (slot : Nat) : (s.freeSlot slot).dev = s.dev := rfl

/-- Of two updates that keep the device state, either does. -/
theorem ite_dev {s t u : State} {c : Prop} [Decidable c] (ht : t.dev = s.dev) (hu : u.dev = s.dev) :
    (if c then t else u).dev = s.dev := by
  split <;> assumption

theorem count_dev {cnt sat : Fld} (n : Nat) (hc : SYS.STATE.STATE.key ≠ cnt.key) (hs : SYS.STATE.STATE.key ≠ sat.key) :
    (s.count cnt sat n).dev = s.dev :=
  ite_dev ((dev_put_ne _ _ hs).trans (dev_wr_ne _ _ hc)) (dev_wr_ne _ _ hc)

/-- A pass over a list keeps the device state where each of its steps does. -/
theorem foldl_dev {α : Type} {f : State → α → State} (hf : ∀ t x, (f t x).dev = t.dev) (l : List α) :
    (l.foldl f s).dev = s.dev := by
  induction l generalizing s with
  | nil => rfl
  | cons x l ih => exact (ih (f s x)).trans (hf s x)

/-- A request for slots changes the capture's queue alone. -/
@[simp] theorem request_dev (c k addr : Nat) (read : Bool) (tag : Nat) : (s.request c k addr read tag).dev = s.dev :=
  ite_dev rfl rfl

/-! ### A frame's last claim (R222, R243, R246) -/

@[simp] theorem poolCheck_dev : s.poolCheck.dev = s.dev := by
  unfold State.poolCheck
  extract_lets free level marked
  have hmarked : marked.dev = s.dev := ite_dev (dev_wr_ne _ _ (by decide)) rfl
  exact ite_dev ((event_dev ..).trans hmarked) (ite_dev hmarked hmarked)

@[simp] theorem tryRelease_dev (t i : Nat) : (s.tryRelease t i).dev = s.dev := by
  unfold State.tryRelease
  split
  · rfl
  · exact ite_dev (by rw [poolCheck_dev, freeSlot_dev, modFrame_dev]) rfl

@[simp] theorem dropHolder_dev (t i : Nat) (h : Holder) : (s.dropHolder t i h).dev = s.dev := by simp [State.dropHolder]

/-! ### The DRAM's pieces (R355, R358) -/

@[simp] theorem showStaging_dev : s.showStaging.dev = s.dev := dev_wr_ne _ _ (by decide)

@[simp] theorem enterWrite_dev (p : Piece) : (s.enterWrite p).dev = s.dev := rfl

@[simp] theorem pushFifo_dev (n : Nat) : (s.pushFifo n).dev = s.dev := by
  induction n generalizing s with
  | zero => rfl
  | succ n ih =>
    unfold State.pushFifo
    split
    · rfl
    · exact ite_dev ((ih _).trans (enterWrite_dev ..)) rfl

@[simp] theorem pushOutside_dev : s.pushOutside.dev = s.dev := by
  unfold State.pushOutside
  exact (foldl_dev _ (fun t p => ite_dev (enterWrite_dev t p) (modArc_dev t _)) _).trans (modArc_dev s _)

@[simp] theorem feedWrites_dev : s.feedWrites.dev = s.dev := by
  unfold State.feedWrites
  rw [showStaging_dev, pushFifo_dev]
  exact ite_dev rfl (pushOutside_dev s)

@[simp] theorem askWrite_dev (port a : Nat) (bs : List Nat) : (s.askWrite port a bs).dev = s.dev := by simp [State.askWrite]

@[simp] theorem enterRead_dev (k : Nat) (p : Piece) : (s.enterRead k p).dev = s.dev := by
  unfold State.enterRead
  rw [modSub_dev]
  exact ite_dev (ite_dev (modSub_dev ..) ((count_dev _ _ (by decide) (by decide)).trans (modSub_dev ..))) rfl

@[simp] theorem askRead_dev (p : Piece) : (s.askRead p).dev = s.dev :=
  ite_dev (enterRead_dev _ _ p) (modSub_dev ..)

@[simp] theorem askBytes_dev (port a n tag : Nat) : (s.askBytes port a n tag).dev = s.dev :=
  foldl_dev s (fun t _ => askRead_dev t _) _

/-! ### The archive mover (R370 to R373) -/

@[simp] theorem showArc_dev : s.showArc.dev = s.dev := by
  have head (t : State) (v : Nat) : (t.wr DRM.ARCH_HEAD.RECORD v).dev = t.dev := dev_wr_ne t v (by decide)
  have tail (t : State) (v : Nat) : (t.wr DRM.ARCH_TAIL.RECORD v).dev = t.dev := dev_wr_ne t v (by decide)
  have used (t : State) (v : Nat) : (t.wr DRM.ARCH_STATUS.USED v).dev = t.dev := dev_wr_ne t v (by decide)
  unfold State.showArc
  simp only [showStaging_dev, used]
  split <;> split <;> simp only [head, tail]

@[simp] theorem dropDiscarded_dev : s.dropDiscarded.dev = s.dev :=
  foldl_dev s (fun t _ => (askWrite_dev _ _ _ _).trans (modArc_dev t _)) _

@[simp] theorem sweepArc_dev : s.sweepArc.dev = s.dev := by simp [State.sweepArc]

@[simp] theorem makeRoom_dev (n len : Nat) : (State.makeRoom n len s).dev = s.dev := by
  induction n generalizing s with
  | zero => rfl
  | succ n ih =>
    unfold State.makeRoom
    refine ite_dev rfl ?_
    split
    · rfl
    · extract_lets swept
      have hswept : swept.dev = s.dev := (sweepArc_dev _).trans (modArc_dev s _)
      exact ite_dev hswept ((ih swept).trans hswept)

@[simp] theorem moverNext_dev : s.moverNext.dev = s.dev := by
  unfold State.moverNext
  refine ite_dev rfl ?_
  split
  · rfl
  split
  · rfl
  refine ite_dev rfl ?_
  extract_lets +onlyGivenNames len
  refine ite_dev ((dropHolder_dev ..).trans (dev_put_ne _ _ (by decide))) ?_
  extract_lets +onlyGivenNames full noted roomy
  have hnoted : noted.dev = s.dev := ite_dev ((event_dev ..).trans (modArc_dev ..)) rfl
  have hroomy : roomy.dev = s.dev := ite_dev ((makeRoom_dev ..).trans hnoted) hnoted
  split
  · exact (dev_put_ne _ _ (by decide)).trans hroomy
  · exact (showArc_dev _).trans ((dev_put_ne _ _ (by decide)).trans ((modArc_dev ..).trans hroomy))

@[simp] theorem moverStripe_dev (ecc : Bool) : (s.moverStripe ecc).dev = s.dev := by
  unfold State.moverStripe
  split
  · rfl
  · split
    · extract_lets err bs turned staged base n ps taken asked fed
      have hfed : fed.dev = s.dev := (feedWrites_dev asked).trans (ite_dev (request_dev ..) rfl)
      exact ite_dev ((dropHolder_dev ..).trans ((modArc_dev ..).trans hfed)) hfed
    · exact modArc_dev ..

/-! ### The Comb's memory path (R331, R332) -/

@[simp] theorem addCopy_dev (c tag addr bytes : Nat) (arch : Bool) : (s.addCopy c tag addr bytes arch).dev = s.dev :=
  ite_dev rfl rfl

@[simp] theorem dmaBegin_dev (c : Nat) : (s.dmaBegin c).dev = s.dev := by
  unfold State.dmaBegin
  split
  · rfl
  extract_lets go base claimed
  refine ite_dev rfl (ite_dev ?_ (ite_dev (addCopy_dev ..) rfl))
  split
  · rfl
  · exact ite_dev rfl (ite_dev (addCopy_dev ..) rfl)

@[simp] theorem combNext_dev : s.combNext.dev = s.dev := by
  unfold State.combNext
  extract_lets begun
  have hbegun : begun.dev = s.dev := foldl_dev s (fun t c => ite_dev rfl (dmaBegin_dev t c)) _
  refine ite_dev hbegun ?_
  split
  · exact hbegun
  split
  · exact hbegun
  exact ite_dev ((askBytes_dev ..).trans hbegun) ((request_dev ..).trans hbegun)

/-! ### Decay sweeps and the scrubber (R240, R296) -/

theorem state_key_ne_mapLost (n : Nat) :
    SYS.STATE.STATE.key ≠ (ACC.CHn_MAP_LOST.COUNT n).key ∧ SYS.STATE.STATE.key ≠ (ACC.CHn_MAP_LOST.SAT n).key := by
  simp only [Fld.key, SYS.STATE.STATE, ACC.CHn_MAP_LOST.COUNT, ACC.CHn_MAP_LOST.SAT]
  omega

@[simp] theorem mapLost_dev (n k : Nat) : (s.mapLost n k).dev = s.dev := by
  unfold State.mapLost
  extract_lets counted
  obtain ⟨hcount, hsat⟩ := state_key_ne_mapLost n
  have hcounted : counted.dev = s.dev := (modAcc_dev ..).trans (count_dev _ _ hcount hsat)
  exact ite_dev rfl (ite_dev hcounted ((event_dev ..).trans ((modAcc_dev ..).trans hcounted)))

@[simp] theorem decayTile_dev (n i : Nat) : (s.decayTile n i).dev = s.dev := by
  unfold State.decayTile
  split
  · rfl
  · exact mapLost_dev ..

@[simp] theorem mergeAll_dev (n : Nat) : (s.mergeAll n).dev = s.dev := mapLost_dev ..

@[simp] theorem mapCapture_dev (n : Nat) : (s.mapCapture n).dev = s.dev :=
  ite_dev ((modAcc_dev ..).trans (mergeAll_dev ..)) rfl

@[simp] theorem decaySweep_dev (n : Nat) : (s.decaySweep n).dev = s.dev := request_dev ..

@[simp] theorem sweepSlot_dev (q : SlotReq) : (s.sweepSlot q).dev = s.dev := by
  unfold State.sweepSlot
  extract_lets n decayed captured
  have hdecayed : decayed.dev = s.dev := decayTile_dev ..
  have hcaptured : captured.dev = s.dev := (mapCapture_dev ..).trans hdecayed
  exact ite_dev (ite_dev (ite_dev ((decaySweep_dev ..).trans hcaptured) hcaptured) hdecayed) rfl

@[simp] theorem flagMerge_dev (q : SlotReq) (ecc : Bool) : (s.flagMerge q ecc).dev = s.dev :=
  ite_dev rfl (ite_dev (modAcc_dev ..) (ite_dev (modAcc_dev ..) rfl))

@[simp] theorem scrub_dev : s.scrub.dev = s.dev := by
  unfold State.scrub
  exact ite_dev (dev_with_cap ..) ((dev_wr_ne _ _ (by decide)).trans (dev_with_cap ..))

end Sys2Proof.Machine
end

section
/-! PROOFS. An uncorrectable error in the capture memory (07_capture_memory_and_rolls.md, R241). -/

namespace Sys2Proof.Machine

/-- The dispatch of QDR_SLOT_GRANT. -/
theorem exec_qdrSlotGrant (err : Nat) (s : State) : exec (.qdrSlotGrant err) s = execQdrSlotGrant err s :=
  rfl

/-- The slot reads a stripe: it is left to the scrubber, is the archive mover's, or goes to a request that reads. -/
def State.slotReads (s : State) : Prop :=
  s.slotFor = none ∨ s.slotFor = some 4 ∨ ∃ c, s.slotFor = some c ∧ ∃ q, (serveReq c s.cap.reqs).2 = some q ∧ q.read = true

/-- Counting the slot keeps the device state. -/
theorem slotCount_dev (s : State) :
    (if s.cap.slot + 1 < 32 then { s with cap := { s.cap with slot := s.cap.slot + 1 } }
      else { s with cap := { s.cap with slot := 0, window := s.cap.window + 1 } } : State).dev = s.dev :=
  ite_dev rfl rfl

/-- IDLE and ACTIVE are short of HALTED. -/
theorem dev_ne_halted_of_up {s : State} (h : s.up = true) : s.dev ≠ devHalted := by
  intro hdev
  simp [State.up, hdev, devHalted, devIdle, devActive] at h

/-- An uncorrectable error in a slot that reads is the internal fault 0x0201, at a state of the device that the slot has kept (R241). -/
theorem execQdrSlotGrant_uncorrectable {s : State} (hup : s.up = true) (hreads : s.moverNext.combNext.slotReads) :
    ∃ (t : State) (detail addr : Nat), execQdrSlotGrant 2 s = .next (t.halt 0x0201 detail addr) ∧ t.dev = s.dev := by
  have hbefore : s.moverNext.combNext.dev = s.dev := (combNext_dev _).trans (moverNext_dev s)
  unfold execQdrSlotGrant
  rw [if_pos hup]
  generalize s.moverNext.combNext = u at hreads hbefore
  have served {work : State} (hwork : work.dev = u.dev) := (slotCount_dev work).trans (hwork.trans hbefore)
  by_cases hmover : u.slotFor = some 4
  · simp only [hmover, Bool.not_true, Bool.false_eq_true, reduceIte]
    exact ⟨_, _, _, rfl, served (moverStripe_dev u _)⟩
  obtain hslot | hslot | ⟨c, hslot, q, hq, hread⟩ := hreads
  · simp only [hslot, Bool.not_true, Bool.false_eq_true, reduceIte]
    exact ⟨_, _, _, rfl, served (scrub_dev u)⟩
  · exact absurd hslot hmover
  · have hother : ¬ c = 4 := fun h => hmover (h ▸ hslot)
    obtain ⟨left, hserve⟩ : ∃ left, serveReq c u.cap.reqs = (left, some q) := ⟨_, Prod.ext rfl hq⟩
    simp only [hslot, hserve, hread, Bool.not_true, Bool.false_eq_true, reduceIte]
    exact ⟨_, _, _, rfl, served ((flagMerge_dev _ q _).trans (sweepSlot_dev _ q))⟩

/-- Settles O45: the slot's own work keeps the device in IDLE or ACTIVE, and a fault short of HALTED enters it with its reason. -/
theorem uncorrectableErrorHalts : Obligations.UncorrectableErrorHalts := by
  unfold Obligations.UncorrectableErrorHalts
  intro s hup u hreads
  obtain ⟨t, detail, addr, hexec, hkept⟩ := execQdrSlotGrant_uncorrectable hup hreads
  have hlive : t.dev ≠ devHalted := by
    rw [hkept]
    exact dev_ne_halted_of_up hup
  have h := halt_halts t 0x0201 detail addr hlive
  exact ⟨_, (exec_qdrSlotGrant 2 s).trans hexec, h.dev, h.code, h.halted⟩

end Sys2Proof.Machine
end
